-- ==== Sys2Proof/Word.lean ====
section
/-! DEFINITION. The word types of the model: bytes, store lines, and the natural numbers that object values are.
An object of the dictionary has a width of its own (R57), so its value is a natural number below a power of two; the
fabric's data path, whose arithmetic wraps at one width, uses bit vectors (R398). -/

namespace Sys2Proof

/-- One byte. -/
abbrev Byte := BitVec 8

/-- One word of the fabric (R398). -/
abbrev Word := BitVec 32

/-- A line of store memory: 64 bytes, byte 0 first (R167). -/
abbrev Line := List Byte

/-- The line of 64 zero bytes that a fill writes (R307). -/
def zeroLine : Line := List.replicate 64 0#8

end Sys2Proof
end

