-- ==== Sys2Proof/Syntax.lean ====
section
/-! DEFINITION. The commands of the block, one for each row of the spec's table of commands and events, with their
operands. A command's operands carry what the outside world puts on the engine's pins and links, and the readings of
its sensors; everything else a command does is computed from the state. -/

namespace Sys2Proof

/-- The four paths by which a write reaches the object dictionary (R80). -/
inductive Path | fabric | coe | pcie | sideband
  deriving DecidableEq, Repr

/-- The kinds of module an SPD names (R14): registered, load-reduced, unbuffered. -/
inductive ModuleKind | rdimm | lrdimm | udimm
  deriving DecidableEq, Repr

/-- A minimum time of a DIMM's SPD for a rule of R211 (R214): the larger of `nck` CK and `ps` picoseconds. -/
structure SpdMin where
  rule : Nat
  nck : Nat := 0
  ps : Nat := 0
  deriving DecidableEq, Repr

/-- One DIMM as its SPD and its mode registers describe it (R14, R165, R214, R243, R264): the kind of module, whether its packages are 3DS stacks,
the width of a device, ranks, density in Gb, its identity, the highest data rate, the minimum times of R211's rules, and whether RFM is required, with
its counts. -/
structure Dimm where
  kind : ModuleKind := .rdimm
  stacked : Bool := false
  width : Nat := 8
  ranks : Nat := 1
  density : Nat := 16
  ident : Nat := 0
  rated : Nat := 7200
  spd : List SpdMin := []
  rfmRequired : Bool := false
  raaimt : Nat := 32
  raammt : Nat := 96
  raaRfm : Nat := 32
  raaRef : Nat := 16
  deriving DecidableEq, Repr

/-- What the EtherCAT master has set in the slave controller (R495, R497, R500, R510): the sync managers' starts and lengths, whether SYNC0 is active and its cycle in ns, and the process-data watchdog time in microseconds, 0 for none. -/
structure MasterSet where
  sm0Start : Nat := 0x1000
  sm0Len : Nat := 128
  sm1Start : Nat := 0x1080
  sm1Len : Nat := 128
  sm3Len : Nat := 0
  sync0 : Bool := false
  sync0Ns : Nat := 0
  pdWatchdogUs : Nat := 0
  deriving DecidableEq, Repr

/-- The errors that the PCI Express port detects on its link (R491). -/
inductive PcieErr
  | receiver | badTlp | badDllp | replayTimeout | replayRollover
  | poisoned | unsupported | malformed | flowControl | overflow | dataLink
  deriving DecidableEq, Repr

/-- What link training found: valid sync headers in a row, the phase of RX_ALIGN in UI, and TRAIN blocks with PARTNER_SEEN (R104). -/
structure LinkFound where
  headers : Nat
  align : Nat
  seen : Nat
  deriving DecidableEq, Repr

/-- What follows the SOP of a packet: its data blocks and the CRC of its EOP (R100, R103). -/
structure PacketBody where
  blocks : List (BitVec 64)
  eop : BitVec 32
  deriving DecidableEq, Repr

/-- Consecutive samples of a channel's entropy source that passed both health tests (R240). -/
structure GoodSamples where
  ch : Fin 4
  samples : Nat
  deriving DecidableEq, Repr

/-- The time in microseconds that each step of a channel's training will take, step 1 first (R265). -/
structure StepTimes where
  ch : Fin 4
  times : List Nat
  deriving DecidableEq, Repr

/-- A read of n bytes from byte `b` of the registers of a message channel (R462, R473). -/
structure RegisterRead where
  m : Fin 32
  b : Fin 256
  n : Nat
  deriving DecidableEq, Repr

/-- The commands of the block: one constructor for each row of the spec's table, named after its mnemonic. -/
inductive Instr
  /-- OBJECT_WRITE (R81): A write on any control path to an object that has no row of its own is checked and accepted or refused at the dictionary write port. -/
  | objectWrite (p : Path) (index sub : Nat) (data : List Byte) (aligned poisoned : Bool)
  /-- CROSS_OBJECT_CHECK_DONE (R86): The management core completes a cross-object check, and the held write is accepted or refused while the write port resumes. -/
  | crossObjectCheckDone (us : Fin 201)
  /-- CLAIM (R68): SESSION_CMD CLAIM grants a free session to the writing path, or restarts the owner's lease. -/
  | claim (p : Path)
  /-- RENEW (R68): SESSION_CMD RENEW from the owning path restarts the 500 ms lease. -/
  | renew (p : Path)
  /-- RELEASE (R68): SESSION_CMD RELEASE from the owning path frees the session. -/
  | release (p : Path)
  /-- SESSION_LEASE_EXPIRY (R70): The lease runs out 500 to 501 ms after its last restart, and the session is freed and counted in SESSION_EXPIRIES. -/
  | sessionLeaseExpiry
  /-- SESSION_DROP (R71): The owning path drops, and the session is freed at once and counted in SESSION_DROPS. -/
  | sessionDrop (p : Path)
  /-- BEGIN (R73): BATCH_CMD BEGIN opens a batch for the owning path. -/
  | batchBegin (p : Path)
  /-- COMMIT (R73): BATCH_CMD COMMIT checks every queued write against the resulting configuration, then accepts all of them on one c or refuses all of them. -/
  | batchCommit (p : Path)
  /-- CANCEL (R73): BATCH_CMD CANCEL discards the open batch. -/
  | batchCancel (p : Path)
  /-- HIGH_READ_COPY (R76): A 4-byte BAR0 read of a 64-bit object returns bits 31:0 and copies bits 63:32 to HIGH_READ in the same c. -/
  | highReadCopy (index sub : Nat)
  /-- HIGH_WRITE_MERGE (R76): A 4-byte BAR0 write of a 64-bit object takes bits 63:32 from HIGH_WRITE, then clears HIGH_WRITE. -/
  | highWriteMerge (index sub : Nat) (low : BitVec 32) (poisoned : Bool)
  /-- DOMAIN_SELECT (R77): A write of DOMAIN_SELECT selects an object for the BAR0 window and resets DOMAIN_OFFSET to 0. -/
  | domainSelect (v : BitVec 32)
  /-- DOMAIN_DATA_READ (R77): A read of DOMAIN_DATA returns 4 bytes of the selected object at DOMAIN_OFFSET, then advances the offset by 4. -/
  | domainDataRead
  /-- DOMAIN_DATA_WRITE (R77): A write of DOMAIN_DATA stages 4 bytes at DOMAIN_OFFSET in the 64 KiB buffer, then advances the offset by 4. -/
  | domainDataWrite (v : BitVec 32)
  /-- DOMAIN_COMMIT (R77): DOMAIN_COMMIT replaces the selected object with the first count staged bytes, checked as a write of that object. -/
  | domainCommit (count : BitVec 32)
  /-- DECODE_ADDRESS (R197): A write of DECODE_ADDRESS loads DECODE_RESULT with the decode of that address on the next c. -/
  | decodeAddress (p : Path) (a : BitVec 64)
  /-- FRAME_BOUNDARY (R31): The 330 ns phase frame boundary is reached; shadows waiting for the next frame act on it, and alignment or the timestamp step may take place on it. -/
  | frameBoundary
  /-- WHEEL_WRAP (R215): The time wheel wraps or restarts at position 0; shadows and placement changes take effect, and WHEEL_WRAP_TS is recorded. -/
  | wheelWrap
  /-- REFRESH_INTERVAL_BOUNDARY (R238): A refresh-interval boundary is reached; the multiplier, derated counts and k_eff are recomputed, and deadlines are recomputed with catch-up. -/
  | refreshIntervalBoundary (ch : Fin 4)
  /-- OP_REQUEST (R610): OP_REQUEST names a target operating point; it is checked and runs the change sequence, or waits behind a transition in progress. -/
  | opRequest (p : Path) (v : BitVec 8)
  /-- OP_REQUEST_START (R610): A waiting operating-point request starts at the end of the transition ahead of it and is checked then. -/
  | opRequestStart
  /-- PLL_RELOCK (R48): The core PLL relocks after a retune; frame alignment and the lane crossing pattern are restored at the next frame boundary. -/
  | pllRelock (us : Nat)
  /-- VCORE_SLEW_DONE (R611): VCORE comes within 10 mV of its target setpoint, ending a slew step of an operating-point change. -/
  | vcoreSlewDone
  /-- SHMOO_OFFSET (R35): A write of SHMOO_OFFSET sets a new target offset for CCLK, or is refused under the clock interlocks. -/
  | shmooOffset (p : Path) (v : BitVec 16)
  /-- SHMOO_SLEW_STEP (R35): Each 1 us the core PLL moves CCLK 10 kHz towards the target, updating SHMOO_ACTUAL and the calculated write DQS delays. -/
  | shmooSlewStep
  /-- PB_CK_MULT (R37): A write of PB0_CK_MULT or PB1_CK_MULT sets the probe CK multiple N, or is refused under the rate range or quiescence. -/
  | pbCkMult (p : Path) (n : Fin 2) (v : BitVec 8)
  /-- CLOCK_FAILURE (R49): A loss of REF_CLK, a PLL phase error or a failed relock raises line 50, enters holdover, curls the probe channels and parks the store. -/
  | clockFailure (why : Fin 5)
  /-- CLOCK_RECOVERY (R51): REF_CLK has been valid for 1 ms after a clock failure; the PLLs relock, the channels resume and the stream links retrain. -/
  | clockRecovery
  /-- TS_ALIGN_STEP (R40): At the first frame boundary after DC_ALIGNED is written with valid system time, the timestamp is stepped once to the system time. -/
  | tsAlignStep (ns : Nat)
  /-- TS_SLEW_ADJUST (R40): The aligned timestamp omits or doubles one increment to follow the system time. -/
  | tsSlewAdjust (double : Bool) (err : Int)
  /-- TS_UNLOCK (R40): The alignment error exceeds TS_UNLOCK_WINDOW or the system time becomes invalid; the aligned flag clears and TS_UNLOCK_COUNT is incremented. -/
  | tsUnlock (invalid : Bool) (err : Int)
  /-- PORT_ENABLE (R130): PORT_ENABLE written 1 starts link training, and written 0 performs a port abort and takes the link down with reason DISABLED. -/
  | portEnable (p : Path) (port : Fin 16) (v : BitVec 8)
  /-- RETRAIN (R104): The RETRAIN command starts link training on a stream port. -/
  | retrain (p : Path) (port : Fin 16) (v : BitVec 8)
  /-- LINK_ACTIVE (R105): Step 5 of link training completes; the link is ACTIVE, SEQ restarts at 0 and credits are granted. -/
  | linkActive (port : Fin 16) (found : LinkFound) (us : Nat)
  /-- TRAIN_TIMEOUT (R105): The training steps have not all passed within 1 ms of step 2, and the link is DOWN with reason TRAIN_TIMEOUT. -/
  | trainTimeout (port : Fin 16)
  /-- AUTO_RETRAIN_RETRY (R105): With AUTO_RETRAIN set, a new training attempt starts 1 ms after a failed one, or when the link is down. -/
  | autoRetrainRetry (port : Fin 16)
  /-- LINK_DOWN (R132): An ACTIVE link goes DOWN; every client of the port is withdrawn and its locks are orphaned, with line 28 raised for most reasons. -/
  | linkDown (port : Fin 16) (frequency : Bool)
  /-- RX_PACKET (R106): A received packet is checked for SEQ, CRC and framing, then accepted or answered with a NAK and discarding. -/
  | rxPacket (port : Fin 16) (between : List (BitVec 8)) (seq kind len : Nat) (replayed intact : Bool) (body : PacketBody)
  /-- ACK (R108): A received ACK frees the acknowledged packets from the replay buffer. -/
  | rxAck (port : Fin 16) (seq : BitVec 12)
  /-- NAK (R107): A received NAK makes the engine replay every unacknowledged packet after the named SEQ, or take the link down after four replays. -/
  | rxNak (port : Fin 16) (seq : BitVec 12)
  /-- ACK_TIMER (R108): The engine's ACK timer of 0.5 us or count of 32 accepted packets runs out, and a cumulative ACK is sent. -/
  | ackTimer (port : Fin 16)
  /-- REPLAY_TIMEOUT (R108): A packet stays unacknowledged for 4 us, and the engine replays from it as if NAKed. -/
  | replayTimeout (port : Fin 16)
  /-- TX_PACKET (R102): A queued response or replay packet is sent on the lane once room remains before the next reserved departure. -/
  | txPacket (port : Fin 16)
  /-- READ (R111): A stream READ request of one to four lines enters the request path. -/
  | streamRead (port sub : Fin 16) (tag : BitVec 8) (lines : Fin 4) (addr : BitVec 40)
  /-- LOCKSTEP_READ (R217): A READ with LOCKSTEP set reserves its departure and is slotted at a + 4 in a position of its client in each channel, or is answered LATE. -/
  | lockstepRead (port sub : Fin 16) (tag : BitVec 8) (lines : Fin 4) (addr : BitVec 40)
  /-- WRITE (R112): A stream WRITE request of one to four lines enters the request path, posted or not, ordered or not. -/
  | streamWrite (port sub : Fin 16) (tag : BitVec 8) (posted ordered : Bool) (lines : Fin 4) (addr : BitVec 40) (data : List Byte) (openData : Bool)
  /-- WRITE_MASKED (R112): A stream WRITE_MASKED request writes the enabled bytes of one line. -/
  | streamWriteMasked (port sub : Fin 16) (tag : BitVec 8) (posted ordered : Bool) (addr : BitVec 40) (mask : BitVec 64) (data : List Byte) (openData : Bool)
  /-- FENCE (R180): A stream FENCE holds the client's later requests until its earlier writes and reads are complete. -/
  | streamFence (port sub : Fin 16) (tag : BitVec 8)
  /-- LOCK (R184): A stream LOCK requests, renews or waits for a range lock with a lease. -/
  | streamLock (port sub : Fin 16) (tag : BitVec 8) (addr : BitVec 40) (range : BitVec 24) (lease : BitVec 10)
  /-- UNLOCK (R187): A stream UNLOCK names a held lock to be released once the holder's earlier writes are complete. -/
  | streamUnlock (port sub : Fin 16) (tag : BitVec 8) (addr : BitVec 40)
  /-- LOCKSTEP_DEPARTURE (R120): At a + L the response of a lockstep read leaves the transmit crossing, carrying its data or LATE. -/
  | lockstepDeparture (port : Fin 16)
  /-- CLIENT_ABORT (R123): CLIENT_ABORT withdraws every request of one client within 1,500 c and ends with ABORT_DONE. -/
  | clientAbort (p : Path) (client : Fin 256) (v : BitVec 8)
  /-- PORT_ABORT (R124): PORT_ABORT aborts all sixteen clients of a stream port and sends one ABORT_DONE per client. -/
  | portAbort (p : Path) (port : Fin 16) (v : BitVec 8)
  /-- HQ_ABORT (R124): HQ_ABORT withdraws every request of a host queue, with the responses returned as completion statuses. -/
  | hqAbort (p : Path) (q : Fin 4) (v : BitVec 8)
  /-- FAB_ABORT_FG (R125): FAB_ABORT_FG withdraws the FE requests of the foreground context and stops it with its state kept for scan. -/
  | fabAbortFg (p : Path) (v : BitVec 8)
  /-- FAB_ABORT_BG (R125): FAB_ABORT_BG withdraws the FE requests of the background context and stops it with its state kept for scan. -/
  | fabAbortBg (p : Path) (v : BitVec 8)
  /-- CLIENT_WATCHDOG_EXPIRY (R126): A client's watchdog expires on an unanswered request, which is withdrawn and answered TIMEOUT, and line 31 is raised. -/
  | clientWatchdogExpiry (client : Fin 256)
  /-- CLIENT_ENABLE (R130): CLIENT_ENABLE written 0 performs a client abort and disables the client; written 1 enables it, subject to the credit sum. -/
  | clientEnable (p : Path) (client : Fin 256) (v : BitVec 8)
  /-- REGULATOR_PASS (R149): A request finds enough tokens and room in its input queues, so it leaves the regulator stage and returns its credit. -/
  | regulatorPass (rq : Fin 290)
  /-- CROSSBAR_LEAVE (R170): A request leaves the crossbar on the first c nothing holds it, and its lines are checked against the map, regions and retire fence. -/
  | crossbarLeave (rq : Fin 290)
  /-- LINE_GRANT (R145): In a free wheel slot the arbiter grants one line to the first eligible requester by class. -/
  | lineGrant (ch : Fin 4)
  /-- QUOTA_WINDOW_END (R146): A HIGH quota window ends, and the masked HIGH requesters are unmasked for the next window. -/
  | quotaWindowEnd (ch : Fin 4) (rq : Fin 290)
  /-- BG_GUARD_FIRE (R148): FS has waited BG_MAX_WAIT c with an eligible line, and it is served ahead of NORMAL for one grant. -/
  | bgGuardFire (ch : Fin 4)
  /-- OPEN_WRITE_COMPLETE (R152): The data of an open write entry completes; the write becomes visible and frees the write-data path. -/
  | openWriteComplete (rq : Fin 290)
  /-- ARB_WATCHDOG_BITE (R157): The write-data path has been held by one open entry for ARB_WATCHDOG c; the entry is discarded, waiting reads are released HAZARD_BROKEN and the holder is aborted. -/
  | arbWatchdogBite (ch : Fin 4)
  /-- LOCK_LEASE_EXPIRY (R188): A lock's lease on the timestamp runs out, and the lock is released and logged EXPIRED. -/
  | lockLeaseExpiry (start : Nat)
  /-- UNLOCK_COMPLETE (R187): The holder's earlier writes complete, and the lock named by UNLOCK is released, logged RELEASED and answered OK. -/
  | unlockComplete (rq : Fin 290)
  /-- FENCE_COMPLETE (R180): Every earlier write and read of the requester completes, and the FENCE is answered OK, releasing the later requests. -/
  | fenceComplete (rq : Fin 290)
  /-- LOCK_RELEASE_ALL (R189): LOCK_RELEASE_ALL releases every held lock and logs each ORPHANED. -/
  | lockReleaseAll (p : Path) (v : BitVec 8)
  /-- DRAM_COMMAND_ISSUE (R205): In each CA command slot the subchannel issues the first candidate command that breaks no timing rule, fence or reservation. -/
  | dramCommandIssue (ch : Fin 4) (sub : Fin 2)
  /-- READ_CHECK (R302): A read line's data arrives and is parity-checked, leading to DONE or a single replay and recheck. -/
  | readCheck (ch : Fin 4) (sub : Fin 2) (noise : List Byte)
  /-- PAGE_IDLE_EXPIRY (R204): A row has had no queued hit for PAGE_IDLE c, and it becomes due for precharge. -/
  | pageIdleExpiry (ch : Fin 4) (sub : Fin 2) (bank : Fin 128)
  /-- DRAIN_READ_MAX_EXPIRY (R207): The oldest read has waited DRAIN_READ_MAX c in DRAIN, and the subchannel returns to READ mode early. -/
  | drainReadMaxExpiry (ch : Fin 4) (sub : Fin 2)
  /-- SCHED_WATCHDOG_EXPIRY (R225): A queue entry stays unissued for SCHED_WATCHDOG c, and line 4 * ch + 2 is raised. -/
  | schedWatchdogExpiry (ch : Fin 4)
  /-- MR4_RESULT (R237): An MR4 read completes, and the channel's temperature state is decided from the hottest device. -/
  | mr4Result (ch rank : Fin 4) (sub : Fin 2) (code : Fin 8)
  /-- MR4_STALE (R253): No MR4 read of a rank completes within 64 wheels; the channel is treated as HOT and line 4 * ch + 3 is raised. -/
  | mr4Stale (ch rank : Fin 4)
  /-- REFRESH_OVERDUE (R252): A bank's interval since its last refresh exceeds the bound; line 4 * ch + 3 is raised and the command is issued extra. -/
  | refreshOverdue (ch : Fin 4) (sub : Fin 2) (rank bank : Fin 4)
  /-- ENTROPY_FAIL (R240): The entropy source fails a health test; draws switch to the LFSR and line 4 * ch + 3 is raised. -/
  | entropyFail (ch : Fin 4)
  /-- ENTROPY_RECOVER (R240): 1,024 consecutive samples pass both health tests, and draws return to the source. -/
  | entropyRecover (good : GoodSamples)
  /-- TRAIN_CMD_SEEDED (R282): TRAIN_CMD SEEDED withdraws the channel and retrains it with searches around the stored set. -/
  | trainCmdSeeded (p : Path) (ch : Fin 4)
  /-- TRAIN_CMD_FULL (R282): TRAIN_CMD FULL withdraws the channel and retrains it with full searches. -/
  | trainCmdFull (p : Path) (ch : Fin 4)
  /-- TRAINING_START (R282): The withdrawn channel's queues are empty, and training begins. -/
  | trainingStart (run : StepTimes)
  /-- TRAINING_COMPLETE (R265): Training at an operating point ends, committing a set or failing under R266 to R288. -/
  | trainingComplete (ch : Fin 4) (failed : Option (Fin 11)) (reason : Fin 7) (margins place : BitVec 32) (body : List Byte)
  /-- TRAIN_STEP_TIMEOUT (R265): A training step is not complete within its time and fails with reason TIMEOUT. -/
  | trainStepTimeout (ch : Fin 4) (rank : Fin 4) (sub : Fin 2) (bit : Fin 64)
  /-- RESUME (R283): A channel runs the resume sequence from its stored set and its check, returning to service or falling back to training. -/
  | channelResume (ch : Fin 4) (pattern : Bool) (corrections : List Byte)
  /-- TRACK_UPDATE (R275): A drift-tracking measurement falls due and moves a lane's offset by at most one unit, clamping and pinning at its window. -/
  | trackUpdate (ch rank : Fin 4) (sub : Fin 2) (lane : Fin 96) (up down : Bool)
  /-- TRACK_STALE (R289): A rank has had no completed tracking measurement for 64 wheels, and line 4 * ch + 1 is raised. -/
  | trackStale (ch rank : Fin 4)
  /-- WRITE_CRC_ALERT (R299): ALERT_n is asserted, and every burst whose CRC window holds it is retried or abandoned after the third alert. -/
  | writeCrcAlert (ch : Fin 4) (sub : Fin 2)
  /-- CRC_WINDOW_EXPIRY (R299): A write burst's CRC window ends, and it leaves the retry buffer. -/
  | crcWindowExpiry (ch : Fin 4) (sub : Fin 2)
  /-- FILL_COMPLETE (R307): The last fill line of a FILL-mode channel becomes visible; FILL_STATE becomes DONE and the channel is released. -/
  | fillComplete (ch : Fin 4)
  /-- SCRUB_READ (R310): The pacing of patrol scrub issues the next background read of the channel. -/
  | scrubRead (ch : Fin 4)
  /-- SCRUB_BEHIND (R311): SCRUB_PERIOD elapses before the pass completes, and SCRUB_STATUS behind is set. -/
  | scrubBehind (ch : Fin 4)
  /-- FLIP_ARM (R312): FLIP_ARM sets the arm state of both subchannels, so the next eligible write burst is XORed with the flip mask. -/
  | flipArm (p : Path) (ch : Fin 4) (v : BitVec 8)
  /-- PEEK_ADDRESS (R314): A write of PEEK_ADDRESS makes MG read a line without replay and fill PEEK_DATA and PEEK_MISMATCH. -/
  | peekAddress (p : Path) (ch : Fin 4) (v : BitVec 64)
  /-- RETIRE_ADD (R319): RETIRE_ADD fences a 4 KiB page from the next c. -/
  | retireAdd (p : Path) (v : BitVec 64)
  /-- RETIRE_REMOVE (R319): RETIRE_REMOVE unfences a 4 KiB page. -/
  | retireRemove (p : Path) (v : BitVec 64)
  /-- RETIRE_CLEAR (R319): RETIRE_CLEAR empties the retire fence. -/
  | retireClear (p : Path) (v : BitVec 8)
  /-- PB_ENABLE (R332): PB_ENABLE written 1 takes a probe channel to IDLE when its supplies are GOOD, and written 0 takes it to DISABLED. -/
  | pbEnable (p : Path) (n : Fin 2) (v : BitVec 8)
  /-- PB_CURL_OUTPUTS (R351): PB_CURL 0x01 curls a probe channel to high-impedance with its supplies held. -/
  | pbCurlOutputs (p : Path) (n : Fin 2)
  /-- PB_CURL_DISCHARGE (R351): PB_CURL 0x02 curls a probe channel and discharges its three supplies. -/
  | pbCurlDischarge (p : Path) (n : Fin 2)
  /-- BURST_START (R333): The instruction queue holds SEQ_PREFILL instructions or an END, and a burst starts with the channel RUNNING. -/
  | burstStart (n : Fin 2)
  /-- COMMAND (R334): A COMMAND instruction drives CA and CS_n as given, with its data burst, subject to the guard table. -/
  | pbCommand (n : Fin 2) (dataReady : Bool) (mrr : List Byte)
  /-- WAIT (R334): A WAIT instruction inserts its count of deselect CK. -/
  | pbWait (n : Fin 2)
  /-- RESET_ASSERT (R334): A RESET_ASSERT control instruction drives PBn_RESET_N low. -/
  | pbResetAssert (n : Fin 2)
  /-- RESET_RELEASE (R334): A RESET_RELEASE control instruction drives PBn_RESET_N high. -/
  | pbResetRelease (n : Fin 2)
  /-- MARK (R334): A MARK control instruction writes ARG and the timestamp to MARK_LOG. -/
  | pbMark (n : Fin 2)
  /-- END (R334): An END control instruction ends the burst and returns the channel to IDLE. -/
  | pbEnd (n : Fin 2)
  /-- CK_STOP (R334): A CK_STOP control instruction holds probe CK stopped. -/
  | pbCkStop (n : Fin 2)
  /-- CK_START (R334): A CK_START control instruction restarts probe CK in the frame pattern. -/
  | pbCkStart (n : Fin 2)
  /-- UNDERRUN (R339): The next instruction is not at the queue head by its c; deselects continue and later commands shift. -/
  | pbUnderrun (n : Fin 2)
  /-- MR_WRITE (R344): MR_CMD WRITE issues one MRW with MR_DATA to the sites in MR_SITES. -/
  | mrWrite (p : Path) (n : Fin 2)
  /-- MR_READ (R344): MR_CMD READ issues one MRR and loads each site's result into MR_RESULT. -/
  | mrRead (p : Path) (n : Fin 2)
  /-- DUT_POWER_UP (R346): DUT_POWER UP ramps VPP, then VDD and VDDQ, driving PBn_RESET_N low. -/
  | dutPowerUp (p : Path) (n : Fin 2) (pass : Fin 64)
  /-- DUT_POWER_DOWN (R347): DUT_POWER DOWN ramps the supplies down in order, then enables discharge. -/
  | dutPowerDown (p : Path) (n : Fin 2)
  /-- DUT_POWER_GOOD (R346): All three supplies come within plus or minus 5 mV of their setpoints, and POWER_STATE becomes GOOD. -/
  | dutPowerGood (n : Fin 2)
  /-- SETPOINT (R348): A write of a DUT supply SETPOINT is kept, becomes a ramp target, or starts a slew at SLEW. -/
  | dutSetpoint (p : Path) (n : Fin 2) (k : Fin 3) (v : BitVec 16)
  /-- SUPPLY_SAMPLE (R350): Each 1 us a supply samples remote voltage and current, updating MEAS_V, MEAS_I and the trackers. -/
  | supplySample (n : Fin 2) (k : Fin 3) (remote local' milliamps : Nat)
  /-- SUPPLY_FAULT (R356): A DUT supply fault is detected, raising line 16 + 4n + 3 and curling the channel with discharge, or switching to local sense. -/
  | supplyFault (n : Fin 2) (k : Fin 3) (kind : Fin 4) (hard : Bool)
  /-- CLAMP_EVENT (R355): A probe pad clamp conducts more than 20 mA for 1 us, and line 16 + 4n is raised. -/
  | clampEvent (n : Fin 2)
  /-- PROBE_ALERT (R354): An assertion edge on a site's ALERT_N latches its bit of ALERT_STATUS and increments ALERT_COUNT. -/
  | probeAlert (n : Fin 2) (site : Fin 8)
  /-- TRACK_RESET (R366): TRACK_RESET sets V_MIN, V_MAX and I_MAX to the next sample. -/
  | trackReset (p : Path) (n : Fin 2) (k : Fin 3) (v : BitVec 8)
  /-- CAL_FULL (R373): CAL_CMD FULL runs all five calibration steps on an IDLE probe channel. -/
  | calFull (p : Path) (n : Fin 2)
  /-- CAL_TRACK (R373): CAL_CMD TRACK runs the short calibration steps on an IDLE probe channel. -/
  | calTrack (p : Path) (n : Fin 2)
  /-- CAL_COMPLETE (R375): A calibration ends, passing with new corrections, or failing into FULL or with line 16 + 4n + 2. -/
  | calComplete (n : Fin 2) (pass : Bool) (worst temp us : Nat)
  /-- REPLICA_MEASURE (R376): Each 1 ms the replica is measured, CAL_DRIFT updated, and the drift, temperature and VDDQ conditions checked. -/
  | replicaMeasure (n : Fin 2) (drift temp : BitVec 16)
  /-- CAL_AUTO_START (R377): The channel becomes IDLE with a drift condition set, or is first enabled without a valid calibration, and a calibration starts by itself. -/
  | calAutoStart (n : Fin 2)
  /-- EXPECTED_ENTRY (R381): The expected port takes an entry of expected data and masks from the fabric into its queue. -/
  | expectedEntry (n : Fin 2)
  /-- DBURST_COMPARE (R384): A read data burst is compared against its expected entry, setting fail bits, counters, the FAIL pin and capture records. -/
  | dburstCompare (n : Fin 2) (samples second : List Byte)
  /-- CAPTURE_DELIVER (R385): The capture port delivers the next record word, or a held record, into its edge tile's queue when there is room. -/
  | captureDeliver (n : Fin 2) (site : Fin 8)
  /-- FAIL_HOLD_EXPIRY (R389): In LIVE mode FAIL_HOLD ends after the last fail, and the FAIL pin goes low. -/
  | failHoldExpiry (n : Fin 2)
  /-- FAIL_CLEAR (R389): FAIL_CLEAR ends the sticky high of the FAIL pin. -/
  | failClear (p : Path) (n : Fin 2) (v : BitVec 8)
  /-- FF_ARM (R387): FF_ARM re-arms first-fail capture for a site. -/
  | ffArm (p : Path) (n : Fin 2) (site : Fin 8) (v : BitVec 8)
  /-- NOP (R402): A tile issues NOP. -/
  | nop (t : Fin 256) (parity : Bool)
  /-- ADD (R402): A tile issues ADD: d = a + b. -/
  | add (t : Fin 256) (parity : Bool)
  /-- SUB (R402): A tile issues SUB: d = a - b. -/
  | sub (t : Fin 256) (parity : Bool)
  /-- AND (R402): A tile issues AND. -/
  | andOp (t : Fin 256) (parity : Bool)
  /-- OR (R402): A tile issues OR. -/
  | orOp (t : Fin 256) (parity : Bool)
  /-- XOR (R402): A tile issues XOR. -/
  | xorOp (t : Fin 256) (parity : Bool)
  /-- SHL (R402): A tile issues a left shift. -/
  | shl (t : Fin 256) (parity : Bool)
  /-- SHR (R402): A tile issues a logical right shift. -/
  | shr (t : Fin 256) (parity : Bool)
  /-- SAR (R402): A tile issues an arithmetic right shift. -/
  | sar (t : Fin 256) (parity : Bool)
  /-- ROL (R402): A tile issues a rotate left. -/
  | rol (t : Fin 256) (parity : Bool)
  /-- MUL (R402): A tile issues MUL, keeping the low 32 bits. -/
  | mul (t : Fin 256) (parity : Bool)
  /-- MULHU (R402): A tile issues MULHU, keeping the high 32 bits unsigned. -/
  | mulhu (t : Fin 256) (parity : Bool)
  /-- MINU (R402): A tile issues an unsigned minimum. -/
  | minu (t : Fin 256) (parity : Bool)
  /-- MAXU (R402): A tile issues an unsigned maximum. -/
  | maxu (t : Fin 256) (parity : Bool)
  /-- SLTU (R402): A tile issues an unsigned less-than. -/
  | sltu (t : Fin 256) (parity : Bool)
  /-- SEQ (R402): A tile issues an equality test. -/
  | seqOp (t : Fin 256) (parity : Bool)
  /-- PEXT (R402): A tile issues a parallel bit extract. -/
  | pext (t : Fin 256) (parity : Bool)
  /-- PDEP (R402): A tile issues a parallel bit deposit. -/
  | pdep (t : Fin 256) (parity : Bool)
  /-- POPC (R402): A tile issues a population count of a AND b. -/
  | popc (t : Fin 256) (parity : Bool)
  /-- PAR (R402): A tile issues a parity of a AND b. -/
  | par (t : Fin 256) (parity : Bool)
  /-- BREV (R402): A tile issues a bit reversal. -/
  | brev (t : Fin 256) (parity : Bool)
  /-- CLZ (R402): A tile issues a count of leading zeros. -/
  | clz (t : Fin 256) (parity : Bool)
  /-- ADDI (R402): A tile issues an add of a sign-extended immediate. -/
  | addi (t : Fin 256) (parity : Bool)
  /-- ANDI (R402): A tile issues an AND with an immediate. -/
  | andi (t : Fin 256) (parity : Bool)
  /-- ORI (R402): A tile issues an OR with an immediate. -/
  | ori (t : Fin 256) (parity : Bool)
  /-- XORI (R402): A tile issues an XOR with an immediate. -/
  | xori (t : Fin 256) (parity : Bool)
  /-- SHLI (R402): A tile issues a left shift by an immediate. -/
  | shli (t : Fin 256) (parity : Bool)
  /-- SHRI (R402): A tile issues a logical right shift by an immediate. -/
  | shri (t : Fin 256) (parity : Bool)
  /-- SARI (R402): A tile issues an arithmetic right shift by an immediate. -/
  | sari (t : Fin 256) (parity : Bool)
  /-- LUI (R402): A tile issues LUI, loading the immediate into the upper half. -/
  | lui (t : Fin 256) (parity : Bool)
  /-- SLTUI (R402): A tile issues an unsigned less-than against an immediate. -/
  | sltui (t : Fin 256) (parity : Bool)
  /-- BEQZ (R402): A tile issues BEQZ, branching when a is zero. -/
  | beqz (t : Fin 256) (parity : Bool)
  /-- BNEZ (R402): A tile issues BNEZ, branching when a is not zero. -/
  | bnez (t : Fin 256) (parity : Bool)
  /-- JMP (R402): A tile issues JMP. -/
  | jmp (t : Fin 256) (parity : Bool)
  /-- DBNZ (R402): A tile issues DBNZ, decrementing d and branching while it is not zero. -/
  | dbnz (t : Fin 256) (parity : Bool)
  /-- WAITC (R402): A tile issues WAITC, and its context issues nothing for the given count. -/
  | waitc (t : Fin 256) (parity : Bool)
  /-- WAITC_EXPIRY (R402): A WAITC count runs out, and the context may issue again. -/
  | waitcExpiry (t : Fin 256) (i : Fin 2)
  /-- HALT (R402): A tile issues HALT, and the context becomes HALTED. -/
  | halt (t : Fin 256) (parity : Bool)
  /-- TRAP (R402): A tile issues TRAP, trapping the context with cause SOFTWARE. -/
  | trap (t : Fin 256) (parity : Bool)
  /-- SENDF (R402): A tile issues SENDF, sending a word with LAST and POISON flags. -/
  | sendf (t : Fin 256) (parity : Bool)
  /-- RFLG (R402): A tile issues RFLG, reading the flags of the last word popped from an operand. -/
  | rflg (t : Fin 256) (parity : Bool)
  /-- SETRT (R402): A tile issues SETRT, setting a route register from the immediate. -/
  | setrt (t : Fin 256) (parity : Bool)
  /-- SETRTR (R402): A tile issues SETRTR, setting a route register from a register. -/
  | setrtr (t : Fin 256) (parity : Bool)
  /-- FLIT_HOP (R405): A router output forwards one flit towards its destination or delivers it to an inbox when the queue ahead has room. -/
  | flitHop (t : Fin 256) (out : Fin 5)
  /-- STALL_WATCHDOG (R422): A full fabric queue's head has not moved for STALL_LIMIT c, and line 25 is raised. -/
  | stallWatchdog (t : Fin 256) (q : Fin 16)
  /-- SEQ_PAIR (R411): Both SEQ_HI and SEQ_LO words are present, and they are paired into one instruction for the sequencer queue. -/
  | seqPair (n : Fin 2)
  /-- FE_READ (R412): An FE port READ command is presented as a store request when its return buffer has room. -/
  | feRead (e : Fin 16)
  /-- FE_WRITE (R412): An FE port WRITE command is presented as a store request. -/
  | feWrite (e : Fin 16)
  /-- FE_WRITE_MASKED (R412): An FE port WRITE_MASKED command is presented as a store request with its byte mask. -/
  | feWriteMasked (e : Fin 16)
  /-- FE_FENCE (R412): An FE port FENCE orders the point's whole stream. -/
  | feFence (e : Fin 16)
  /-- FE_LOCK (R412): An FE port LOCK requests a range lock for the FE point. -/
  | feLock (e : Fin 16)
  /-- FE_UNLOCK (R412): An FE port UNLOCK names a held lock of the FE point. -/
  | feUnlock (e : Fin 16)
  /-- FAB_RESPONSE (R417): The fabric pushes a response for a fabric-served client, which is matched and sent, or discarded, or traps the context. -/
  | fabResponse (port : Fin 16)
  /-- START (R434): CTX_CMD START makes every STOPPED tile of a context RUNNING on one c. -/
  | ctxStart (p : Path) (i : Fin 2)
  /-- STOP (R434): CTX_CMD STOP stops every RUNNING tile of a context, keeping its state. -/
  | ctxStop (p : Path) (i : Fin 2)
  /-- UNLOAD (R434): CTX_CMD UNLOAD clears a context to NOT_LOADED and unbinds its ports. -/
  | ctxUnload (p : Path) (i : Fin 2)
  /-- SWAP (R435): SWAP exchanges the whole state of FG and BG on every tile within 4 c. -/
  | ctxSwap (p : Path)
  /-- LOAD_FG (R433): IMAGE_CMD LOAD_FG checks an image and scans it into the foreground context. -/
  | loadFg (p : Path)
  /-- LOAD_BG (R433): IMAGE_CMD LOAD_BG checks an image and scans it into the background context. -/
  | loadBg (p : Path)
  /-- IMAGE_LOAD_DONE (R433): An image load completes, setting IMAGE_RESULT and the bindings, or failing with its check code. -/
  | imageLoadDone
  /-- OUT (R440): SCAN_CMD OUT copies the target state to a frame without changing the tiles. -/
  | scanOut (p : Path)
  /-- IN (R440): SCAN_CMD IN loads the target state from a frame, optionally purging and starting. -/
  | scanIn (p : Path)
  /-- EXCHANGE (R440): SCAN_CMD EXCHANGE moves state out and in in the same passes. -/
  | scanExchange (p : Path)
  /-- SCAN_DONE (R441): A scan operation's passes end; held flits resume and START_AFTER acts. -/
  | scanDone (parity : Bool)
  /-- SAVE (R443): FRAME_MOVE SAVE writes a frame and its descriptor to store memory. -/
  | frameSave (p : Path) (f : Fin 8)
  /-- FETCH (R443): FRAME_MOVE FETCH reads a frame back from store memory, marking it BAD on a wrong tag or CRC. -/
  | frameFetch (p : Path) (f : Fin 8)
  /-- FRAME_RELEASE (R443): FRAME_MOVE RELEASE clears a frame's HELD mark. -/
  | frameRelease (p : Path) (f : Fin 8)
  /-- CLEAR (R443): FRAME_MOVE CLEAR empties a frame. -/
  | frameClear (p : Path) (f : Fin 8)
  /-- FAULT_DRAIN (R444): After a selected trap, check or stall, the scan unit becomes free and the stopped context is scanned out into DRAIN_FRAME, which is marked HELD. -/
  | faultDrain (i : Fin 2)
  /-- MSG_REG_WRITE (R461): A write of a message register fills the channel, taking filler ownership under STAMPED. -/
  | msgRegWrite (p : Path) (m : Fin 32) (w : Fin 64) (values : List (BitVec 32)) (aligned poisoned : Bool)
  /-- MSG_GO (R458): MSG_GO freezes the registers as the message, stamps the sender, makes the channel FULL and rings the receiver's doorbell. -/
  | msgGo (p : Path) (m : Fin 32)
  /-- MSG_RELEASE (R463): MSG_RELEASE from the receiver consumes an EMPTY_IRQ message and notifies the sender EMPTY. -/
  | msgRelease (p : Path) (m : Fin 32)
  /-- MSG_CONSUMING_READ (R462): The receiver's read that includes the last register consumes a CLEAR_ON_READ message. -/
  | msgConsumingRead (p : Path) (r : RegisterRead)
  /-- MSG_TIMEOUT_EXPIRY (R467): A message is not consumed within MSG_TIMEOUT; it is withdrawn, line 46 is raised and TIMEOUT is sent to the sender. -/
  | msgTimeoutExpiry (m : Fin 32)
  /-- FILL_EXPIRY (R461): A STAMPED filler makes no register write for 100 ms, or goes down, and the channel returns to EMPTY. -/
  | fillExpiry (m : Fin 32)
  /-- DOORBELL_PENDING_SEND (R465): A down receiver comes up while its message is still FULL, and the pending doorbell is sent. -/
  | doorbellPendingSend (m : Fin 32)
  /-- MB_SEND (R468): A SEND header at an MB port waits for its channel to be EMPTY, then fills it from the data words with go on LAST. -/
  | mbSend (q : Fin 4)
  /-- MB_RELEASE (R468): A RELEASE word at an MB port consumes an EMPTY_IRQ message for a fabric receiver. -/
  | mbRelease (q : Fin 4)
  /-- MSG_ENABLE (R476): MSG_ENABLE written 0 discards a FULL or FILLING message; written 1 enables the channel when it has a receiver. -/
  | msgEnable (p : Path) (m : Fin 32) (v : BitVec 8)
  /-- BAR2_WRITE (R484): A BAR2 write TLP is translated through its host queue and cut into posted WRITE and WRITE_MASKED requests. -/
  | bar2Write (off : BitVec 36) (data : List Byte) (enables : Nat) (relaxed poisoned : Bool)
  /-- BAR2_READ (R486): A BAR2 read TLP is cut into line requests and completed in address order with its line statuses. -/
  | bar2Read (off : BitVec 36) (len : Nat)
  /-- HQ_MERGE_WAIT_EXPIRY (R485): A partial line waits HQ_MERGE_WAIT c without a continuing TLP, and it completes with the bytes it holds. -/
  | hqMergeWaitExpiry (q : Fin 4)
  /-- HQ_WINDOW_BASE (R483): A write of HQ_WINDOW_BASE holds later BAR2 TLPs of the queue until it is accepted, then retranslates them. -/
  | hqWindowBase (p : Path) (q : Fin 4) (v : BitVec 64)
  /-- HQ_ENABLE (R509): HQ_ENABLE written 0 performs HQ_ABORT and disables the queue. -/
  | hqEnable (p : Path) (q : Fin 4) (v : BitVec 8)
  /-- HQ_FENCE (R488): The command-page FENCE enters the host queue behind its earlier TLPs. -/
  | hqFence (q : Fin 4)
  /-- HQ_LOCK (R488): The command-page LOCK issues a range lock with the page's address, RANGE and LEASE. -/
  | hqLock (q : Fin 4) (addr : BitVec 40) (range : BitVec 24) (lease : BitVec 10)
  /-- HQ_UNLOCK (R488): The command-page UNLOCK names a lock held by the host queue. -/
  | hqUnlock (q : Fin 4) (addr : BitVec 40)
  /-- PCIE_FUNCTION_RESET (R492): An FLR, a hot reset, DL_Down or PCIE_PERST_N resets the PCIe function, aborting H0 to H3. -/
  | pcieFunctionReset (why : Fin 4)
  /-- PCIE_ERROR (R491): An AER error is detected, counted and reported, and a fatal one raises line 47. -/
  | pcieError (e : PcieErr)
  /-- PCIE_RETRAIN (R515): PCIE_RETRAIN retrains the PCIe link. -/
  | pcieRetrain (p : Path) (speed : Fin 6)
  /-- AL_STATE_REQUEST (R495): A requested EtherCAT AL state change is checked and made, or refused with an AL status code. -/
  | alStateRequest (new : Fin 16) (m : MasterSet)
  /-- SDO_DOWNLOAD (R496): A CoE SDO download writes an object, as one batch for complete access. -/
  | sdoDownload (index : Nat) (parts : List (Nat × List Byte)) (last : Bool)
  /-- SDO_UPLOAD (R496): A CoE SDO upload reads an object. -/
  | sdoUpload (index sub : Nat) (complete : Bool)
  /-- SDO_INFORMATION (R496): An SDO Information request returns the OD list, object or entry description. -/
  | sdoInformation (service : Fin 3) (index sub : Nat)
  /-- MAILBOX_UNSUPPORTED (R493): A mailbox request of a protocol other than CoE or FoE is answered unsupported protocol. -/
  | mailboxUnsupported
  /-- PDO_SAMPLE (R497): The mapped values of one SM3 buffer are sampled on one c under the synchronisation mode. -/
  | pdoSample (taken : Bool)
  /-- FABRIC_FG (R499): An FoE write of FABRIC_FG fills the staging buffer and acts as LOAD_FG. -/
  | foeFabricFg (password : BitVec 32) (data : List Byte) (last : Bool)
  /-- FABRIC_BG (R499): An FoE write of FABRIC_BG fills the staging buffer and acts as LOAD_BG. -/
  | foeFabricBg (password : BitVec 32) (data : List Byte) (last : Bool)
  /-- AREA_FILE_WRITE (R499): An FoE write of AREA_nn writes an image-area user entry. -/
  | areaFileWrite (n : Nat) (password : BitVec 32) (data : List Byte) (last : Bool)
  /-- FIRMWARE (R531): An FoE FIRMWARE package is checked and written to the idle firmware bank, to run from the next reset. -/
  | foeFirmware (password : BitVec 32) (data : List Byte) (last good : Bool)
  /-- PD_WATCHDOG (R510): No frame takes the SM3 buffer within the process-data watchdog time; line 48 is raised and OP drops to SAFE-OP. -/
  | pdWatchdog
  /-- SB_WRITE (R502): A sideband WRITE transfer writes an object, or stages string or domain bytes, checked at its STOP. -/
  | sbWrite (code : BitVec 8) (index : BitVec 16) (sub : BitVec 8) (offset : BitVec 32) (n : BitVec 8) (data : List Byte) (pec : Option Bool)
  /-- SB_READ (R502): A sideband READ transfer returns a status, count and data. -/
  | sbRead (index : BitVec 16) (sub : BitVec 8) (offset : BitVec 32) (n : BitVec 8)
  /-- SB_STATUS (R502): A sideband STATUS transfer returns the last WRITE result, RUN_PHASE, BCN_NOW and SESSION_OWNER. -/
  | sbStatus
  /-- SB_BUS_TIMEOUT (R501): SCL is held low for 25 to 35 ms, and the port releases SDA and ends the transfer. -/
  | sbBusTimeout (drop : Bool)
  /-- STORE (R528): A write of save to 0x1010:0s or NVS_SAVE_s writes a new slot with the groups named, and the system records when they differ. -/
  | nvsStore (p : Path) (profile : Bool) (i : Fin 4)
  /-- RESTORE (R526): A write of load to 0x1011:0s or NVS_LOAD_s writes a slot marking the named groups at defaults for the next start-up. -/
  | nvsRestore (p : Path) (profile : Bool) (i : Fin 4)
  /-- NVS_OPERATION_DONE (R528): A store, restore or area write finishes writing and reading back its pages, becoming DONE or FAILED. -/
  | nvsOperationDone (us : Nat) (bankOk slotOk slotOk2 : Bool) (bad bad2 : List Nat)
  /-- AREA_WRITE (R530): AREA_WRITE writes user entry n from IMAGE_STAGING to free pages. -/
  | areaWrite (p : Path) (v : BitVec 8)
  /-- AREA_ERASE (R530): AREA_ERASE frees the pages of user entry n. -/
  | areaErase (p : Path) (v : BitVec 8)
  /-- ERROR_LINE_RAISE (R548): An error line is raised; its FTW bit latches, an episode opens or is merged into, and its effective reaction is taken. -/
  | errorLineRaise (line : Fin 52) (inst bit : Fin 256)
  /-- HH_REQUEST (R555): HH_REQUEST enters Hedgehog with HH_CAUSE 0xFE. -/
  | hhRequest (p : Path)
  /-- FLT_RESUME (R557): FLT_RESUME ends Hedgehog or a PARK reaction and resumes the parked channels. -/
  | fltResume (p : Path)
  /-- FTW_CLEAR (R559): A write to FTW clears each bit written 1 whose line is not live or raising, and may close the episode. -/
  | ftwClear (p : Path) (v : BitVec 64)
  /-- DIE_TEMP_SAMPLE (R546): Each 10 us the die sensor is sampled, and the thermal lines are evaluated. -/
  | dieTempSample (t : Int)
  /-- MG_WATCHDOG (R547): The management core fails to service its watchdog within 50 ms; line 49 is raised and the core is restarted. -/
  | mgWatchdog
  /-- MG_RESTART_DONE (R547): The management core completes its restart, and line 49 stops being live. -/
  | mgRestartDone
  /-- REQUEST_RUN (R570): PWR_REQUEST RUN reverses an entry, wakes the engine, or completes with no effect. -/
  | requestRun (p : Path)
  /-- REQUEST_DOZE (R571): PWR_REQUEST DOZE checks the DOZE conditions and gates clocks within 1 us. -/
  | requestDoze (p : Path)
  /-- REQUEST_DORMOUSE (R574): PWR_REQUEST DORMOUSE starts the entry handshake towards DORMOUSE. -/
  | requestDormouse (p : Path)
  /-- REQUEST_RETAIN (R574): PWR_REQUEST RETAIN starts the entry handshake towards RETAIN. -/
  | requestRetain (p : Path)
  /-- REQUEST_WATCH (R574): PWR_REQUEST WATCH starts the entry handshake towards WATCH. -/
  | requestWatch (p : Path)
  /-- HANDSHAKE_REPLY (R575): A participant's ACCEPT, DELAY or REFUSE arrives, passing A0, ending the entry or waiting. -/
  | handshakeReply (participants : List Nat)
  /-- REASK_TIMER (R575): Every 10 us a delaying participant is asked again. -/
  | reaskTimer
  /-- ASK_TIMEOUT (R595): A participant does not reply within 2 us and is treated as delaying or refusing. -/
  | askTimeout (participant : Nat)
  /-- ENTRY_DELAY_EXPIRY (R575): The entry has not passed A0 within ENTRY_DELAY_MAX and ends as refused by the first delaying participant. -/
  | entryDelayExpiry
  /-- ABORT_POINT_REACHED (R577): The entry completes the step to its next abort point, or is abandoned there with an undo. -/
  | abortPointReached
  /-- STEP_OVERRUN (R595): An entry step passes its bound, and the entry is abandoned at that abort point. -/
  | stepOverrun
  /-- STORM_HOLDOFF_END (R596): STORM_HOLDOFF after a storm raise ends, and handshake entries are accepted again. -/
  | stormHoldoffEnd
  /-- DOZE_WAKE (R572): Activity at an ingress, a write, a raise or WAKE_N wakes the engine from DOZE within 2 us. -/
  | dozeWake
  /-- WAKE_N (R582): WAKE_N low is recognised as a wake event, or abandons an entry. -/
  | wakeN (low : Bool)
  /-- OWL_MATCH (R587): Owl shifts in an address equal to SB_ADDRESS, acknowledges, holds SCL low and wakes the engine. -/
  | owlMatch (address : BitVec 7) (rw : Bool)
  /-- OWL_RELEASE (R588): The sideband port becomes ready, or 30 ms pass after the match, and Owl releases SCL. -/
  | owlRelease
  /-- WAKE_COMPLETE (R583): A wake from DORMOUSE or RETAIN finishes with VCORE up and retention restored, in RUN with pads latched. -/
  | wakeComplete
  /-- PAD_RELEASE (R581): PAD_RELEASE hands the latched balls back and starts bring-up of every accepted channel. -/
  | padRelease (p : Path)
  /-- DM_SAMPLE (R589): The DORMOUSE timer starts a sample that measures and compares the enabled items, then sleeps again or wakes on a violation. -/
  | dmSample (temp : Int) (vin vhold : Nat) (sensors : List (Option (Nat × Nat))) (us : Nat)
  /-- VCORE_TRIM (R603): A write of VCORE_TRIM_OPk sets the VCORE target, or is refused below V_MIN. -/
  | vcoreTrim (p : Path) (op : Fin 4) (v : BitVec 16)
  /-- LOADLINE_STEP (R604): Every 100 us the load-line loop moves LL_OFFSET by 2.5 mV from the margin monitors, clamping and pinning at its bounds. -/
  | loadlineStep (high low : Bool)
  /-- MARGIN_ALARM (R604): A timing-margin monitor alarm raises LL_OFFSET by 25 mV at once. -/
  | marginAlarm
  /-- PHASE_OPEN (R605): A phase shows no switching or too little current for 20 us, and it is shut off, raising its phase line. -/
  | phaseOpen (u : Fin 5) (phase : Fin 6)
  /-- SENSE_CHECK (R606): Every 10 us a supply compares its phase readings with the input-side current and finds sense failures after five failed checks. -/
  | senseCheck (u : Fin 5) (readings : List Nat) (expected : Nat)
  /-- FOLDBACK_ENTRY (R608): A supply's current stays at its combined rating for 2 us; it enters foldback, line 39 is raised and a forced move or curl follows. -/
  | foldbackEntry (u : Fin 5)
  /-- FOLDBACK_EXIT (R608): The current stays below 95 % of the combined rating for 100 us, and foldback ends. -/
  | foldbackExit (u : Fin 5)
  /-- FOLDBACK_SHUTDOWN (R622): VCORE is still in foldback 100 us after the forced move, or no phase remains, and the sequencer parks and turns VCORE off. -/
  | foldbackShutdown
  /-- PHASE_RESTORE (R609): PHASE_RESTORE self-tests each shut-off VCORE phase and returns those that pass. -/
  | phaseRestore (p : Path)
  /-- DUT_PHASE_RESTORE (R609): DUT_PHASE_RESTORE self-tests the shut-off DUT phases of a channel into an internal load. -/
  | dutPhaseRestore (p : Path) (n : Fin 2)
  /-- VIN_LOSS (R641): VIN becomes absent; line 40 is raised, the bank feeds the rail, probes curl, the store parks and the engine moves to OP3. -/
  | vinLoss
  /-- VIN_RETURN (R643): VIN becomes present again, resuming the parked channels or waking the engine from the sleep of R644. -/
  | vinReturn
  /-- VIN_SLEEP (R644): E_ACT falls to VIN_SLEEP_MJ or 20 mJ while parked on the bank, and the engine enters WATCH without a handshake. -/
  | vinSleep
  /-- FULL_CHARGE_POINT (R615): The bank reaches full charge; Q is recalibrated and the charge-fail and suspect bits clear. -/
  | fullChargePoint
  /-- CHARGE_FAIL (R615): No full-charge point is reached within 2 s of a charge start, and charge fail is set. -/
  | chargeFail
  /-- HOLDUP_ESTIMATE (R617): Every 10 us the two energy estimates and E_ACT are formed, and agreement is judged. -/
  | holdupEstimate (vin v : Nat) (flow : Int)
  /-- HOLDUP_TEST (R619): HOLDUP_TEST, or its period or first full charge, starts a bank test drawing 2,000 µC. -/
  | holdupTest (path : Option Path)
  /-- HOLDUP_TEST_DONE (R619): A bank test ends after 20 ms, setting HOLDUP_C_MEAS and C_EFF and passing or marking the bank degraded. -/
  | holdupTestDone (fall : Nat)
  /-- POWER_ON (R632): VAUX is applied from OFF and the power-on sequence runs. -/
  | powerOn (vin : Bool)
  /-- REF_CLK_VALID (R52): REF_CLK has been valid for 1 ms at start-up; the PLLs lock and the management core starts at OP_BOOT. -/
  | refClkValid (pass : Fin 64) (newFw running : Bool)
  /-- BOOT_COMPLETE (R94): The management core finishes BOOT; the session opens, the lines that are live are raised again and start-up continues. -/
  | bootComplete (population : List (List Dimm))
  /-- COLD_RESET (R639): RESET_N recognised low parks or erases the store, discharges the DUT supplies and resets the die. -/
  | coldReset
  /-- WARM_RESET (R634): WARM_N recognised low curls the probes, stops the fabric, parks the store and resets the dictionary. -/
  | warmReset
  /-- WARM_RESET_RELEASE (R636): WARM_N rises, the management core reboots, the slot is applied and the channels resume under RESUME_MODE. -/
  | warmResetRelease (newFw : Bool)
  /-- RESET_CMD_WARM (R629): RESET_CMD WARM acts as a 10 us low on WARM_N. -/
  | resetCmdWarm (p : Path)
  /-- RESET_CMD_COLD (R629): RESET_CMD COLD acts as a 10 us low on RESET_N. -/
  | resetCmdCold (p : Path)
  /-- VAUX_LOSS (R692): VAUX stays below 2.9 V for 10 us; the always-on domain stops and every regulator turns off. -/
  | vauxLoss
  /-- RAIL_COLLAPSE (R651): The regulator rail falls below 6.2 V before a sleep completes, and VCORE is turned off at once with the pads latched. -/
  | railCollapse
  /-- THERMAL_SHUTDOWN (R693): The always-on sensor reads 120 degrees C, and the sequencer performs the fault shutdown. -/
  | thermalShutdown
  /-- SELFTEST_RETRY (R649): With no VCORE phase or firmware bank passing, the start-up self-test is retried every 1 s. -/
  | selftestRetry (pass : Fin 64) (running : Bool)
  /-- COLD_RESET_RELEASE (R639): RESET_N rises after a cold reset, and with VCORE off the engine runs the power-on sequence from step 3. -/
  | coldResetRelease
  /-- PCIE_PERST_N_DEASSERT (R632): PCIE_PERST_N is deasserted, the PCIe link begins training, and the 1 s window of configuration retry responses starts. -/
  | pciePerstNDeassert
  /-- PCIE_LINK_UP (R490): The PCIe data link layer comes up; pending MSI-X messages are sent, and shadows waiting for the next link retrain act. -/
  | pcieLinkUp (speed : Fin 6) (width : Fin 17)
  /-- PCIE_CONFIG_REQUEST (R513): A PCIe configuration request is answered with CRS during BOOT or acted on, changing the power state, Bus Master Enable or other configuration-space fields. -/
  | pcieConfigRequest (d3 bme msixEnable msixMask : Bool) (severity : BitVec 32)
  /-- MSIX_MASK_WRITE (R490): The host masks or unmasks an MSI-X vector or the function, and an unmasked vector with its pending bit set sends its message. -/
  | msixMaskWrite (vector : Fin 64) (masked : Bool)
  /-- EBUS_LINK_CHANGE (R493): An E-Bus port gains or loses its link; a port without a link is looped closed, and a loss on every port in use takes the CoE party down. -/
  | ebusLinkChange (port : Fin 2) (up : Bool)
  /-- CLAMP_CONDUCTION_END (R544): A probe pad clamp stops conducting more than 20 mA, and the LIVE bit of line 16 + 4n clears. -/
  | clampConductionEnd (n : Fin 2)
  /-- DUT_SUPPLY_DISCHARGED (R347): All three DUT supplies of a channel fall below 0.1 V after a DOWN ramp or a discharge curl, and POWER_STATE becomes OFF. -/
  | dutSupplyDischarged (n : Fin 2) (us : Nat)
  /-- MR_CMD_COMPLETE (R344): The direct MRW or MRR sequence and its 64 deselect CK end; MR_CMD reads DONE and the channel returns to IDLE. -/
  | mrCmdComplete (n : Fin 2) (answers : List Byte) (ns : Nat)
  /-- FRAME_MOVE_DONE (R443): A FRAME_MOVE SAVE or FETCH completes after its store transfers, ending DONE, FAILED or with the frame marked BAD, and the scan unit becomes free. -/
  | frameMoveDone
  /-- PHASE_RESTORE_DONE (R609): The self-test of PHASE_RESTORE or DUT_PHASE_RESTORE completes, returning passing phases to service and ending the command DONE. -/
  | phaseRestoreDone (i : Fin 3) (pass : Fin 64) (us : Nat)
  /-- THERMAL_WAKE_RELEASE (R693): The always-on sensor reads below 100 degrees C after a thermal shutdown, and a held wake may proceed. -/
  | thermalWakeRelease
  /-- BCN_HEARTBEAT (R507): Every 500 ms while the management core runs, BCN[6] toggles. -/
  | bcnHeartbeat
  /-- REFUSED_READ (R85): A read of a non-existent object or subindex, of a WO object, or of a refused size is refused, counted in REFUSAL_COUNT and recorded in LAST_REFUSAL. -/
  | refusedRead (p : Path) (index sub size : Nat) (aligned : Bool)
  deriving DecidableEq, Repr

end Sys2Proof
end

