-- ==== Sys2Proof/Decode.lean ====
section
/-! DEFINITION. The words of commands. The block reads no instruction words: the table of commands gives no row any bits, so no word spells
a command. What reaches the block as words (packets, TLPs, SDOs, the instructions of tiles and sequencers) is decoded where its
command takes it. -/

namespace Sys2Proof

/-- The command that a word of the table's bits spells: none, since no row has bits. -/
def decodeTableWord (nbits w : Nat) : Option Instr :=
  match nbits, w with
  | _, _ => none

end Sys2Proof
end

