-- ==== Sys2Proof/Machine/Bits.lean ====
section
/-! DEFINITION. Bit fields, signed readings and byte order of object values (R6, R7, R57). -/

namespace Sys2Proof.Machine

/-- The field of `w` bits of `v` whose lowest bit is `lo` (R6). -/
def fld (lo w v : Nat) : Nat := (v >>> lo) % 2 ^ w

/-- `v` with its field of `w` bits at `lo` replaced by the low bits of `x`. -/
def putFld (lo w v x : Nat) : Nat := v - (fld lo w v) <<< lo + (x % 2 ^ w) <<< lo

/-- Bit `i` of `v`. -/
def bitOf (v i : Nat) : Bool := v.testBit i

/-- `v` with bit `i` set or cleared. -/
def withBit (v i : Nat) (b : Bool) : Nat :=
  if bitOf v i = b then v else if b then v + 2 ^ i else v - 2 ^ i

/-- One bit of a status word from a Boolean. -/
def b2n (b : Bool) : Nat := if b then 1 else 0

/-- `v` without the bits of `m`. -/
def clearBits (v m : Nat) : Nat := v ^^^ (v &&& m)

/-- The two's complement reading of a value of `w` bits. -/
def toInt (w v : Nat) : Int := if v % 2 ^ w < 2 ^ (w - 1) then (v % 2 ^ w : Nat) else ((v % 2 ^ w : Nat) : Int) - (2 ^ w : Nat)

/-- The two's complement form of `i` in `w` bits. -/
def ofInt (w : Nat) (i : Int) : Nat := (i % ((2 ^ w : Nat) : Int)).toNat

/-- The number that bytes spell, least significant byte first (R7). -/
def leNat : List Byte → Nat
  | [] => 0
  | b :: t => b.toNat + 256 * leNat t

/-- `n` bytes of `v`, least significant byte first (R7). -/
def leBytes : Nat → Nat → List Byte
  | 0, _ => []
  | n + 1, v => BitVec.ofNat 8 v :: leBytes n (v / 256)

/-- The number of set bits among the low `w` of `v`. -/
def popCount : Nat → Nat → Nat
  | 0, _ => 0
  | w + 1, v => v % 2 + popCount w (v / 2)

/-- `a / b` rounded up. -/
def ceilDiv (a b : Nat) : Nat := (a + b - 1) / b

/-- The absolute difference of two naturals. -/
def absDiff (a b : Nat) : Nat := a - b + (b - a)

/-- The bytes of `l` from `at` on replaced by `d`, the list padded with zeros up to `at` (byte windows of DOMAINs). -/
def putBytes (l : List Byte) (pos : Nat) (d : List Byte) : List Byte :=
  let p := l ++ List.replicate (pos - l.length) 0#8
  p.take pos ++ d ++ p.drop (pos + d.length)

/-- Byte `i` of a byte list, 0 past its end. -/
def byteAt (l : List Byte) (i : Nat) : Byte := l.getD i 0#8

/-- The bytes of `d` chosen where `mask` is true, of `old` elsewhere, over 64 byte places. -/
def mergeBytes (old d : List Byte) (mask : List Bool) : List Byte :=
  (List.range 64).map fun i => if mask.getD i false then byteAt d i else byteAt old i

/-- The list with the element at `i` replaced. -/
def setAt {α : Type} (l : List α) (i : Nat) (x : α) : List α := l.set i x

/-- The first index at or above `i` and below `i + n` that satisfies `p`. -/
def firstFrom (p : Nat → Bool) : Nat → Nat → Option Nat
  | 0, _ => none
  | n + 1, i => if p i then some i else firstFrom p n (i + 1)

end Sys2Proof.Machine
end

