-- ==== Sys2Proof/Config.lean ====
section
/-! DEFINITION. What one implementation fixes and the spec leaves open, as constants without a body: nothing in the
model or in a proof can learn their values. The ones named in the log are the free values of the model. -/

namespace Sys2Proof.Config

/-- DIE_REVISION, factory-set (R27). -/
opaque dieRevision : BitVec 16
/-- FIRMWARE_VERSION of the firmware in a bank, as loaded (R27, R531). -/
opaque firmwareVersion : Nat → BitVec 32
/-- UNIQUE_ID, factory-set (R27). -/
opaque uniqueId : BitVec 64
/-- HARDWARE_VERSION, factory-set (R95). -/
opaque hardwareVersion : List Byte
/-- SOFTWARE_VERSION of the firmware in a bank, as loaded (R95). -/
opaque softwareVersion : Nat → List Byte
/-- The n-th free bit of the machine: one value the spec leaves open each time it is drawn. -/
opaque freeBit : Nat → Bool
/-- The n-th free byte. -/
opaque freeByte : Nat → Byte
/-- The n-th free number. -/
opaque freeNat : Nat → Nat

/-- What a byte of DRAM holds that nothing has written since its contents were last lost (R307): the channel's count of
losses, and the byte. -/
opaque dramGarbage : Nat → Nat → Byte

/-- What a raw MR4 OP[2:0] code says of the refresh rate (R237), as JESD79-5 decodes it: 0 NORMAL, 1 HOT, 2 OVER, 3 reserved, modulo 4. -/
opaque mr4State : Nat → Nat

/-- The 32-bit maximal-length LFSR of a channel (R240): its seed from a timestamp, its next state, and the 16-bit value drawn from it. The
spec gives no polynomial. -/
opaque lfsrSeed : Nat → BitVec 32
opaque lfsrNext : BitVec 32 → BitVec 32
opaque lfsrDraw : BitVec 32 → Nat

/-- Whether the odd half millivolt of LL_OFFSET reads rounded up in size (R604 moves it by 2.5 mV, R625 shows whole mV). -/
opaque llUp : Bool

end Sys2Proof.Config
end

