-- ==== Sys2Proof/Machine/Assoc.lean ====
section
/-! DEFINITION. Sparse maps with a default, as lists of key and value pairs in one canonical form: keys strictly
rising, and no entry equal to what an unlisted key reads as. The object dictionary, the store's contents and every
other array of the machine are held this way, so that equal machines are equal data. -/

namespace Sys2Proof.Machine

/-- A sparse map from natural numbers. -/
abbrev SMap (α : Type) := List (Nat × α)

/-- What the map `m` holds at `k`: the first entry of that key, else the default `d k`. -/
def mapGet {α : Type} (d : Nat → α) : SMap α → Nat → α
  | [], k => d k
  | (j, v) :: t, k => if j = k then v else mapGet d t k

/-- The map without the key `k`. -/
def mapErase {α : Type} (m : SMap α) (k : Nat) : SMap α := m.filter fun e => e.1 != k

/-- The map with `v` at `k`, at its place among the rising keys. -/
def mapInsert {α : Type} : SMap α → Nat → α → SMap α
  | [], k, v => [(k, v)]
  | (j, w) :: t, k, v =>
    if k < j then (k, v) :: (j, w) :: t
    else if k = j then (k, v) :: t
    else (j, w) :: mapInsert t k v

/-- The map after writing `v` at `k`: writing the default removes the entry. -/
def mapSet {α : Type} [DecidableEq α] (d : Nat → α) (m : SMap α) (k : Nat) (v : α) : SMap α :=
  if v = d k then mapErase m k else mapInsert m k v

/-- The map with its entry at `k` changed by `f`. -/
def mapMod {α : Type} [DecidableEq α] (d : Nat → α) (m : SMap α) (k : Nat) (f : α → α) : SMap α :=
  mapSet d m k (f (mapGet d m k))

/-- The keys rise strictly. -/
def keysRise {α : Type} : SMap α → Bool
  | [] => true
  | [_] => true
  | a :: b :: t => decide (a.1 < b.1) && keysRise (b :: t)

/-- The canonical form: keys rise strictly and no entry equals the default of its key. -/
def mapWf {α : Type} [DecidableEq α] (d : Nat → α) (m : SMap α) : Bool :=
  keysRise m && m.all fun e => decide (e.2 ≠ d e.1)

end Sys2Proof.Machine
end

