-- ==== Sys2Proof/Machine/Obj.lean ====
section
/-! DEFINITION. The keys of the object dictionary: an object index:subindex has the key 256 * index + subindex. Each
name is the object's own name in the spec's object tables (R27, R53, R54, R95 to R98 and the object rules of each
chapter); an object of a block with several copies takes the copy's number. -/

namespace Sys2Proof.Machine.Obj

abbrev partCode : Nat := 0x200001
abbrev dieRevision : Nat := 0x200002
abbrev firmwareVersion : Nat := 0x200003
abbrev features : Nat := 0x200004
abbrev runPhase : Nat := 0x200005
abbrev channelsReady : Nat := 0x200006
abbrev uniqueId : Nat := 0x200007
abbrev opCurrent : Nat := 0x201001
abbrev opRequest : Nat := 0x201002
abbrev opBoot : Nat := 0x201003
abbrev cclkHz : Nat := 0x201004
abbrev pb0CkMult : Nat := 0x201005
abbrev pb1CkMult : Nat := 0x201006
abbrev shmooOffset : Nat := 0x201007
abbrev shmooActual : Nat := 0x201008
abbrev clockStatus : Nat := 0x201009
abbrev refLossCount : Nat := 0x20100A
abbrev unlockCount : Nat := 0x20100B
abbrev clockRefusals : Nat := 0x20100C
abbrev tsNow : Nat := 0x240001
abbrev tsMode : Nat := 0x240002
abbrev tsStatus : Nat := 0x240003
abbrev tsLastStep : Nat := 0x240004
abbrev tsDcError : Nat := 0x240005
abbrev tsSlewLimit : Nat := 0x240006
abbrev tsUnlockCount : Nat := 0x240007
abbrev tsUnlockWindow : Nat := 0x240008
abbrev deviceType : Nat := 0x100000
abbrev errorRegister : Nat := 0x100100
abbrev deviceName : Nat := 0x100800
abbrev hardwareVersion : Nat := 0x100900
abbrev softwareVersion : Nat := 0x100A00
abbrev store1010 (i : Nat) : Nat := 0x101001 + i
abbrev restore1011 (i : Nat) : Nat := 0x101101 + i
abbrev vendorId : Nat := 0x101801
abbrev productCode : Nat := 0x101802
abbrev revision : Nat := 0x101803
abbrev serial : Nat := 0x101804
abbrev txpdoMap (n i : Nat) : Nat := 0x1A0000 + n * 0x100 + i
abbrev smType (i : Nat) : Nat := 0x1C0000 + i
abbrev txpdoAssign (i : Nat) : Nat := 0x1C1300 + i
abbrev sm3Parameters (i : Nat) : Nat := 0x1C3300 + i
abbrev sessionCmd : Nat := 0x200101
abbrev sessionOwner : Nat := 0x200102
abbrev sessionRemaining : Nat := 0x200103
abbrev batchCmd : Nat := 0x200104
abbrev batchCount : Nat := 0x200105
abbrev sessionGrants : Nat := 0x200106
abbrev sessionExpiries : Nat := 0x200107
abbrev sessionDrops : Nat := 0x200108
abbrev dictStatus : Nat := 0x200201
abbrev refusalCount : Nat := 0x200202
abbrev quiescentRefusals : Nat := 0x200203
abbrev lastRefusal : Nat := 0x200204
abbrev lastRefusalTs : Nat := 0x200205
abbrev pendingBlocks : Nat := 0x200206
abbrev pcieLastResult : Nat := 0x200207
abbrev highRead : Nat := 0x200301
abbrev highWrite : Nat := 0x200302
abbrev domainSelect : Nat := 0x200303
abbrev domainOffset : Nat := 0x200304
abbrev domainData : Nat := 0x200305
abbrev domainLength : Nat := 0x200306
abbrev domainCommit : Nat := 0x200307
abbrev clientEnable (c : Nat) : Nat := 0x400001 + c * 0x100
abbrev clientState (c : Nat) : Nat := 0x400002 + c * 0x100
abbrev clientCredits (c : Nat) : Nat := 0x400003 + c * 0x100
abbrev clientWatchdog (c : Nat) : Nat := 0x400004 + c * 0x100
abbrev clientAbort (c : Nat) : Nat := 0x400005 + c * 0x100
abbrev outstanding (c : Nat) : Nat := 0x400006 + c * 0x100
abbrev requests (c : Nat) : Nat := 0x400007 + c * 0x100
abbrev nonOkResponses (c : Nat) : Nat := 0x400008 + c * 0x100
abbrev postedFailed (c : Nat) : Nat := 0x400009 + c * 0x100
abbrev watchdogExpiries (c : Nat) : Nat := 0x40000A + c * 0x100
abbrev lateCount (c : Nat) : Nat := 0x40000B + c * 0x100
abbrev clientProtocolErrors (c : Nat) : Nat := 0x40000C + c * 0x100
abbrev crcBurstLimit : Nat := 0x420001
abbrev crcBurstWindow : Nat := 0x420002
abbrev linksUp : Nat := 0x420003
abbrev autoRetrain : Nat := 0x420004
abbrev portEnable (p : Nat) : Nat := 0x421001 + p * 0x100
abbrev linkState (p : Nat) : Nat := 0x421002 + p * 0x100
abbrev linkDownReason (p : Nat) : Nat := 0x421003 + p * 0x100
abbrev portAbort (p : Nat) : Nat := 0x421004 + p * 0x100
abbrev retrain (p : Nat) : Nat := 0x421005 + p * 0x100
abbrev rxAlign (p : Nat) : Nat := 0x421006 + p * 0x100
abbrev crcErrors (p : Nat) : Nat := 0x421007 + p * 0x100
abbrev replays (p : Nat) : Nat := 0x421008 + p * 0x100
abbrev linkDowns (p : Nat) : Nat := 0x421009 + p * 0x100
abbrev portProtocolErrors (p : Nat) : Nat := 0x42100A + p * 0x100
abbrev lockstepCollisions (p : Nat) : Nat := 0x42100B + p * 0x100
abbrev portLastTrainUs (p : Nat) : Nat := 0x42100C + p * 0x100
abbrev hqAbort (q : Nat) : Nat := 0x410001 + q * 0x100
abbrev fabAbortFg : Nat := 0x480001
abbrev fabAbortBg : Nat := 0x480002
abbrev arbClass (c : Nat) : Nat := 0x400010 + c * 0x100
abbrev highQuota (c : Nat) : Nat := 0x400011 + c * 0x100
abbrev highWindow (c : Nat) : Nat := 0x400012 + c * 0x100
abbrev rrWeight (c : Nat) : Nat := 0x400013 + c * 0x100
abbrev regRate (c : Nat) : Nat := 0x400014 + c * 0x100
abbrev regDepth (c : Nat) : Nat := 0x400015 + c * 0x100
abbrev regLevel (c : Nat) : Nat := 0x400016 + c * 0x100
abbrev lockstepLatency (c : Nat) : Nat := 0x400017 + c * 0x100
abbrev lockstepSlots (c : Nat) : Nat := 0x400018 + c * 0x100
abbrev cutThrough (c : Nat) : Nat := 0x400019 + c * 0x100
abbrev regWaits (c : Nat) : Nat := 0x40001A + c * 0x100
abbrev quotaMasks (c : Nat) : Nat := 0x40001B + c * 0x100
abbrev grants (c : Nat) : Nat := 0x40001C + c * 0x100
abbrev watchdogRevokes (c : Nat) : Nat := 0x40001D + c * 0x100
abbrev maxRegWait (c : Nat) : Nat := 0x40001E + c * 0x100
abbrev arbStatus (c : Nat) : Nat := 0x40001F + c * 0x100
abbrev arbWatchdog (ch : Nat) : Nat := 0x304001 + ch * 0x10000
abbrev bgMaxWait (ch : Nat) : Nat := 0x304002 + ch * 0x10000
abbrev mgQuota (ch : Nat) : Nat := 0x304003 + ch * 0x10000
abbrev freeSlots (ch : Nat) : Nat := 0x304004 + ch * 0x10000
abbrev highLoad (ch : Nat) : Nat := 0x304005 + ch * 0x10000
abbrev holder (ch : Nat) : Nat := 0x304006 + ch * 0x10000
abbrev watchdogBites (ch : Nat) : Nat := 0x304007 + ch * 0x10000
abbrev lastBiteHolder (ch : Nat) : Nat := 0x304008 + ch * 0x10000
abbrev lastBiteTs (ch : Nat) : Nat := 0x304009 + ch * 0x10000
abbrev idleFreeSlots (ch : Nat) : Nat := 0x30400A + ch * 0x10000
abbrev interleaveMask : Nat := 0x340001
abbrev interleaveGrain : Nat := 0x340002
abbrev bankHash : Nat := 0x340003
abbrev mapTop : Nat := 0x340004
abbrev capacitySc (i : Nat) : Nat := 0x340005 + i
abbrev interleavedTop : Nat := 0x340009
abbrev linearBaseSc (i : Nat) : Nat := 0x34000A + i
abbrev decodeAddress : Nat := 0x34000E
abbrev decodeResult : Nat := 0x34000F
abbrev mapStatus : Nat := 0x340010
abbrev regionBase (r : Nat) : Nat := 0x341001 + r * 0x100
abbrev regionSize (r : Nat) : Nat := 0x341002 + r * 0x100
abbrev regionPorts (r : Nat) : Nat := 0x341003 + r * 0x100
abbrev regionActive (r : Nat) : Nat := 0x341004 + r * 0x100
abbrev regionDenials (r : Nat) : Nat := 0x341005 + r * 0x100
abbrev locksHeld : Nat := 0x348001
abbrev lockWaiters : Nat := 0x348002
abbrev logWritten : Nat := 0x348003
abbrev lockLog : Nat := 0x348004
abbrev lockGrants : Nat := 0x348005
abbrev lockExpired : Nat := 0x348006
abbrev lockOrphaned : Nat := 0x348007
abbrev lockDenied : Nat := 0x348008
abbrev lockReleaseAll : Nat := 0x348009
abbrev pagePolicy (ch : Nat) : Nat := 0x301001 + ch * 0x10000
abbrev pageIdle (ch : Nat) : Nat := 0x301002 + ch * 0x10000
abbrev ageCap (ch : Nat) : Nat := 0x301003 + ch * 0x10000
abbrev wqHigh (ch : Nat) : Nat := 0x301004 + ch * 0x10000
abbrev wqLow (ch : Nat) : Nat := 0x301005 + ch * 0x10000
abbrev wrBatch (ch : Nat) : Nat := 0x301006 + ch * 0x10000
abbrev drainReadMax (ch : Nat) : Nat := 0x301007 + ch * 0x10000
abbrev schedWatchdog (ch : Nat) : Nat := 0x301008 + ch * 0x10000
abbrev queueLevels (ch : Nat) : Nat := 0x301009 + ch * 0x10000
abbrev schedStatus (ch : Nat) : Nat := 0x30100A + ch * 0x10000
abbrev drainEntries (ch : Nat) : Nat := 0x30100B + ch * 0x10000
abbrev hazardWaits (ch : Nat) : Nat := 0x30100C + ch * 0x10000
abbrev schedWatchdogBites (ch : Nat) : Nat := 0x30100D + ch * 0x10000
abbrev timingBlocks (ch : Nat) : Nat := 0x30100E + ch * 0x10000
abbrev rule (ch i : Nat) : Nat := 0x302001 + ch * 0x10000 + i
abbrev ruleHot (ch i : Nat) : Nat := 0x30201A + ch * 0x10000 + i
abbrev readData (ch : Nat) : Nat := 0x30201E + ch * 0x10000
abbrev writeData (ch : Nat) : Nat := 0x30201F + ch * 0x10000
abbrev wheelPos (ch : Nat) : Nat := 0x303001 + ch * 0x10000
abbrev wheelWrapTs (ch : Nat) : Nat := 0x303002 + ch * 0x10000
abbrev lsLead (ch : Nat) : Nat := 0x303003 + ch * 0x10000
abbrev lsFixed (ch : Nat) : Nat := 0x303004 + ch * 0x10000
abbrev lsPositions (ch : Nat) : Nat := 0x303005 + ch * 0x10000
abbrev wheelMap (ch : Nat) : Nat := 0x303006 + ch * 0x10000
abbrev lsSlotted (ch : Nat) : Nat := 0x303007 + ch * 0x10000
abbrev lateNoSlot (ch : Nat) : Nat := 0x303008 + ch * 0x10000
abbrev lateHazard (ch : Nat) : Nat := 0x303009 + ch * 0x10000
abbrev lateStopped (ch : Nat) : Nat := 0x30300A + ch * 0x10000
abbrev lateReplay (ch : Nat) : Nat := 0x30300B + ch * 0x10000
abbrev lsReplays (ch : Nat) : Nat := 0x30300C + ch * 0x10000
abbrev refMode (ch : Nat) : Nat := 0x305001 + ch * 0x10000
abbrev refMultMin (ch : Nat) : Nat := 0x305002 + ch * 0x10000
abbrev refMultMax (ch : Nat) : Nat := 0x305003 + ch * 0x10000
abbrev refState (ch : Nat) : Nat := 0x305004 + ch * 0x10000
abbrev refPosPerRank (ch : Nat) : Nat := 0x305005 + ch * 0x10000
abbrev refInterval (ch : Nat) : Nat := 0x305006 + ch * 0x10000
abbrev mr4Last (ch : Nat) : Nat := 0x305007 + ch * 0x10000
abbrev refIssued (ch : Nat) : Nat := 0x305008 + ch * 0x10000
abbrev hotEntries (ch : Nat) : Nat := 0x305009 + ch * 0x10000
abbrev refOverdue (ch : Nat) : Nat := 0x30500A + ch * 0x10000
abbrev refPinnedCount (ch : Nat) : Nat := 0x30500B + ch * 0x10000
abbrev mr4StaleCount (ch : Nat) : Nat := 0x30500C + ch * 0x10000
abbrev refFaultCause (ch : Nat) : Nat := 0x30500D + ch * 0x10000
abbrev refCatchups (ch : Nat) : Nat := 0x30500E + ch * 0x10000
abbrev nrMode (ch : Nat) : Nat := 0x306001 + ch * 0x10000
abbrev nrDistance (ch : Nat) : Nat := 0x306002 + ch * 0x10000
abbrev nrKMax (ch : Nat) : Nat := 0x306003 + ch * 0x10000
abbrev nrKFloor (ch : Nat) : Nat := 0x306004 + ch * 0x10000
abbrev nrKEff (ch : Nat) : Nat := 0x306005 + ch * 0x10000
abbrev nrSpare (ch : Nat) : Nat := 0x306006 + ch * 0x10000
abbrev nrBoostActs (ch : Nat) : Nat := 0x306007 + ch * 0x10000
abbrev nrPositions (ch : Nat) : Nat := 0x306008 + ch * 0x10000
abbrev adjMode (ch : Nat) : Nat := 0x306009 + ch * 0x10000
abbrev adjPerm (ch : Nat) : Nat := 0x30600A + ch * 0x10000
abbrev adjXor (ch : Nat) : Nat := 0x30600B + ch * 0x10000
abbrev nrStatus (ch : Nat) : Nat := 0x30600C + ch * 0x10000
abbrev nrDraws (ch : Nat) : Nat := 0x30600D + ch * 0x10000
abbrev nrRows (ch : Nat) : Nat := 0x30600E + ch * 0x10000
abbrev nrDeferred (ch : Nat) : Nat := 0x30600F + ch * 0x10000
abbrev nrDropped (ch : Nat) : Nat := 0x306010 + ch * 0x10000
abbrev nrPinnedCount (ch : Nat) : Nat := 0x306011 + ch * 0x10000
abbrev trainOpMask (ch : Nat) : Nat := 0x307001 + ch * 0x10000
abbrev trainCmd (ch : Nat) : Nat := 0x307002 + ch * 0x10000
abbrev trainState (ch : Nat) : Nat := 0x307003 + ch * 0x10000
abbrev trainStep (ch : Nat) : Nat := 0x307004 + ch * 0x10000
abbrev trainFail (ch : Nat) : Nat := 0x307005 + ch * 0x10000
abbrev lastWay (ch : Nat) : Nat := 0x307006 + ch * 0x10000
abbrev scLastTrainUs (ch : Nat) : Nat := 0x307007 + ch * 0x10000
abbrev eyeMin (ch : Nat) : Nat := 0x307008 + ch * 0x10000
abbrev vrefMin (ch : Nat) : Nat := 0x307009 + ch * 0x10000
abbrev retrainPolicy (ch : Nat) : Nat := 0x30700A + ch * 0x10000
abbrev setValid (ch : Nat) : Nat := 0x30700B + ch * 0x10000
abbrev marginSummary (ch : Nat) : Nat := 0x30700C + ch * 0x10000
abbrev phyFaultCause (ch : Nat) : Nat := 0x30700D + ch * 0x10000
abbrev savePending (ch : Nat) : Nat := 0x30700E + ch * 0x10000
abbrev trainings (ch : Nat) : Nat := 0x30700F + ch * 0x10000
abbrev trainFailures (ch : Nat) : Nat := 0x307010 + ch * 0x10000
abbrev resumes (ch : Nat) : Nat := 0x307011 + ch * 0x10000
abbrev resumeCheckFails (ch : Nat) : Nat := 0x307012 + ch * 0x10000
abbrev trainedSetOp (ch i : Nat) : Nat := 0x308001 + ch * 0x10000 + i
abbrev trackEnable (ch : Nat) : Nat := 0x309001 + ch * 0x10000
abbrev driftWindow (ch : Nat) : Nat := 0x309002 + ch * 0x10000
abbrev gateWindow (ch : Nat) : Nat := 0x309003 + ch * 0x10000
abbrev driftStatus (ch : Nat) : Nat := 0x309004 + ch * 0x10000
abbrev driftMax (ch : Nat) : Nat := 0x309005 + ch * 0x10000
abbrev trackUpdates (ch : Nat) : Nat := 0x309006 + ch * 0x10000
abbrev driftPinnedCount (ch : Nat) : Nat := 0x309007 + ch * 0x10000
abbrev laneOffsets (ch : Nat) : Nat := 0x309008 + ch * 0x10000
abbrev trackStaleCount (ch : Nat) : Nat := 0x309009 + ch * 0x10000
abbrev initMode (ch : Nat) : Nat := 0x30A001 + ch * 0x10000
abbrev fillState (ch : Nat) : Nat := 0x30A002 + ch * 0x10000
abbrev fillPosition (ch : Nat) : Nat := 0x30A003 + ch * 0x10000
abbrev scrubEnable (ch : Nat) : Nat := 0x30A004 + ch * 0x10000
abbrev scrubPeriod (ch : Nat) : Nat := 0x30A005 + ch * 0x10000
abbrev scrubPosition (ch : Nat) : Nat := 0x30A006 + ch * 0x10000
abbrev scrubStatus (ch : Nat) : Nat := 0x30A007 + ch * 0x10000
abbrev transientReads (ch : Nat) : Nat := 0x30A008 + ch * 0x10000
abbrev persistentReads (ch : Nat) : Nat := 0x30A009 + ch * 0x10000
abbrev wcrcRetries (ch : Nat) : Nat := 0x30A00A + ch * 0x10000
abbrev wcrcFailed (ch : Nat) : Nat := 0x30A00B + ch * 0x10000
abbrev rereads (ch : Nat) : Nat := 0x30A00C + ch * 0x10000
abbrev poisonWritten (ch : Nat) : Nat := 0x30A00D + ch * 0x10000
abbrev scrubPasses (ch : Nat) : Nat := 0x30A00E + ch * 0x10000
abbrev scrubTransient (ch : Nat) : Nat := 0x30A00F + ch * 0x10000
abbrev scrubPersistent (ch : Nat) : Nat := 0x30A010 + ch * 0x10000
abbrev parityFaultCause (ch : Nat) : Nat := 0x30A011 + ch * 0x10000
abbrev flipMaskA (ch : Nat) : Nat := 0x30B001 + ch * 0x10000
abbrev flipMaskB (ch : Nat) : Nat := 0x30B002 + ch * 0x10000
abbrev flipBeatsA (ch : Nat) : Nat := 0x30B003 + ch * 0x10000
abbrev flipBeatsB (ch : Nat) : Nat := 0x30B004 + ch * 0x10000
abbrev flipArm (ch : Nat) : Nat := 0x30B005 + ch * 0x10000
abbrev flipStatus (ch : Nat) : Nat := 0x30B006 + ch * 0x10000
abbrev flipLastA (ch : Nat) : Nat := 0x30B007 + ch * 0x10000
abbrev flipLastB (ch : Nat) : Nat := 0x30B008 + ch * 0x10000
abbrev splitEnable (ch : Nat) : Nat := 0x30B009 + ch * 0x10000
abbrev splitRequester (ch : Nat) : Nat := 0x30B00A + ch * 0x10000
abbrev splitCheck (ch : Nat) : Nat := 0x30B00B + ch * 0x10000
abbrev peekAddress (ch : Nat) : Nat := 0x30B00C + ch * 0x10000
abbrev peekData (ch : Nat) : Nat := 0x30B00D + ch * 0x10000
abbrev peekMismatch (ch : Nat) : Nat := 0x30B00E + ch * 0x10000
abbrev flipInjections (ch : Nat) : Nat := 0x30B00F + ch * 0x10000
abbrev plogWritten : Nat := 0x350001
abbrev parityLog : Nat := 0x350002
abbrev plogSuppressed : Nat := 0x350003
abbrev retireCount : Nat := 0x351001
abbrev retireAdd : Nat := 0x351002
abbrev retireRemove : Nat := 0x351003
abbrev retireTable : Nat := 0x351004
abbrev retiredHits : Nat := 0x351005
abbrev retireClear : Nat := 0x351006
abbrev pbEnable (n : Nat) : Nat := 0x380001 + n * 0x10000
abbrev pbState (n : Nat) : Nat := 0x380002 + n * 0x10000
abbrev pbCurl (n : Nat) : Nat := 0x380003 + n * 0x10000
abbrev curlCause (n : Nat) : Nat := 0x380004 + n * 0x10000
abbrev pbCl (n : Nat) : Nat := 0x380005 + n * 0x10000
abbrev pbRdPreamble (n : Nat) : Nat := 0x380006 + n * 0x10000
abbrev pbWrPreamble (n : Nat) : Nat := 0x380007 + n * 0x10000
abbrev curls (n : Nat) : Nat := 0x380008 + n * 0x10000
abbrev clampEvents (n : Nat) : Nat := 0x380009 + n * 0x10000
abbrev siteConfig (n i : Nat) : Nat := 0x380101 + n * 0x10000 + i
abbrev alertStatus (n : Nat) : Nat := 0x380109 + n * 0x10000
abbrev alertCount (n : Nat) : Nat := 0x38010A + n * 0x10000
abbrev seqPrefill (n : Nat) : Nat := 0x380201 + n * 0x10000
abbrev seqStatus (n : Nat) : Nat := 0x380202 + n * 0x10000
abbrev queueLevel (n : Nat) : Nat := 0x380203 + n * 0x10000
abbrev bursts (n : Nat) : Nat := 0x380204 + n * 0x10000
abbrev commands (n : Nat) : Nat := 0x380205 + n * 0x10000
abbrev underruns (n : Nat) : Nat := 0x380206 + n * 0x10000
abbrev dataUnderruns (n : Nat) : Nat := 0x380207 + n * 0x10000
abbrev malformed (n : Nat) : Nat := 0x380208 + n * 0x10000
abbrev pbPipe (n : Nat) : Nat := 0x380209 + n * 0x10000
abbrev markLog (n : Nat) : Nat := 0x38020A + n * 0x10000
abbrev marksWritten (n : Nat) : Nat := 0x38020B + n * 0x10000
abbrev guardMode (n : Nat) : Nat := 0x380301 + n * 0x10000
abbrev guardAllowBypass (n : Nat) : Nat := 0x380302 + n * 0x10000
abbrev guardRules (n : Nat) : Nat := 0x380303 + n * 0x10000
abbrev guardHolds (n : Nat) : Nat := 0x380304 + n * 0x10000
abbrev guardBlocks (n : Nat) : Nat := 0x380305 + n * 0x10000
abbrev guardLogged (n : Nat) : Nat := 0x380306 + n * 0x10000
abbrev guardBypassed (n : Nat) : Nat := 0x380307 + n * 0x10000
abbrev guardLast (n : Nat) : Nat := 0x380308 + n * 0x10000
abbrev mrSites (n : Nat) : Nat := 0x380401 + n * 0x10000
abbrev mrAddress (n : Nat) : Nat := 0x380402 + n * 0x10000
abbrev mrData (n : Nat) : Nat := 0x380403 + n * 0x10000
abbrev mrCmd (n : Nat) : Nat := 0x380404 + n * 0x10000
abbrev mrResult (n : Nat) : Nat := 0x380405 + n * 0x10000
abbrev mrResultValid (n : Nat) : Nat := 0x380406 + n * 0x10000
abbrev dutPower (n : Nat) : Nat := 0x3A0001 + n * 0x4000
abbrev powerState (n : Nat) : Nat := 0x3A0002 + n * 0x4000
abbrev dutRamp (n : Nat) : Nat := 0x3A0003 + n * 0x4000
abbrev supplyFaultCause (n : Nat) : Nat := 0x3A0004 + n * 0x4000
abbrev supplyFaults (n : Nat) : Nat := 0x3A0005 + n * 0x4000
abbrev setpoint (n k : Nat) : Nat := 0x3A1001 + n * 0x4000 + k * 0x100
abbrev slew (n k : Nat) : Nat := 0x3A1002 + n * 0x4000 + k * 0x100
abbrev iLimit (n k : Nat) : Nat := 0x3A1003 + n * 0x4000 + k * 0x100
abbrev iLimitTime (n k : Nat) : Nat := 0x3A1004 + n * 0x4000 + k * 0x100
abbrev uvMargin (n k : Nat) : Nat := 0x3A1005 + n * 0x4000 + k * 0x100
abbrev ovMargin (n k : Nat) : Nat := 0x3A1006 + n * 0x4000 + k * 0x100
abbrev senseMaxCorr (n k : Nat) : Nat := 0x3A1007 + n * 0x4000 + k * 0x100
abbrev measV (n k : Nat) : Nat := 0x3A1008 + n * 0x4000 + k * 0x100
abbrev measI (n k : Nat) : Nat := 0x3A1009 + n * 0x4000 + k * 0x100
abbrev measAvg (n k : Nat) : Nat := 0x3A100A + n * 0x4000 + k * 0x100
abbrev vMin (n k : Nat) : Nat := 0x3A100B + n * 0x4000 + k * 0x100
abbrev vMax (n k : Nat) : Nat := 0x3A100C + n * 0x4000 + k * 0x100
abbrev iMax (n k : Nat) : Nat := 0x3A100D + n * 0x4000 + k * 0x100
abbrev trackReset (n k : Nat) : Nat := 0x3A100E + n * 0x4000 + k * 0x100
abbrev senseCorr (n k : Nat) : Nat := 0x3A100F + n * 0x4000 + k * 0x100
abbrev supplyStatus (n k : Nat) : Nat := 0x3A1010 + n * 0x4000 + k * 0x100
abbrev sensePinnedCount (n k : Nat) : Nat := 0x3A1011 + n * 0x4000 + k * 0x100
abbrev driveDeskew (n : Nat) : Nat := 0x381001 + n * 0x10000
abbrev strobeDeskew (n : Nat) : Nat := 0x381002 + n * 0x10000
abbrev driveOffset (n : Nat) : Nat := 0x381003 + n * 0x10000
abbrev strobeOffset (n : Nat) : Nat := 0x381004 + n * 0x10000
abbrev driveShiftData (n : Nat) : Nat := 0x381005 + n * 0x10000
abbrev driveShiftCa (n : Nat) : Nat := 0x381006 + n * 0x10000
abbrev strobeShift (n : Nat) : Nat := 0x381007 + n * 0x10000
abbrev roundTrip (n : Nat) : Nat := 0x381008 + n * 0x10000
abbrev edgeClamps (n : Nat) : Nat := 0x381009 + n * 0x10000
abbrev calCmd (n : Nat) : Nat := 0x381101 + n * 0x10000
abbrev calAuto (n : Nat) : Nat := 0x381102 + n * 0x10000
abbrev calStatus (n : Nat) : Nat := 0x381103 + n * 0x10000
abbrev calDrift (n : Nat) : Nat := 0x381104 + n * 0x10000
abbrev calDriftLimit (n : Nat) : Nat := 0x381105 + n * 0x10000
abbrev calTempLimit (n : Nat) : Nat := 0x381106 + n * 0x10000
abbrev calTemp (n : Nat) : Nat := 0x381107 + n * 0x10000
abbrev calVddq (n : Nat) : Nat := 0x381108 + n * 0x10000
abbrev calWorst (n : Nat) : Nat := 0x381109 + n * 0x10000
abbrev calibrations (n : Nat) : Nat := 0x38110A + n * 0x10000
abbrev calFaultCause (n : Nat) : Nat := 0x38110B + n * 0x10000
abbrev expectBroadcast (n : Nat) : Nat := 0x381201 + n * 0x10000
abbrev maskDynamic (n : Nat) : Nat := 0x381202 + n * 0x10000
abbrev windowWidth (n : Nat) : Nat := 0x381203 + n * 0x10000
abbrev failSites (n : Nat) : Nat := 0x381204 + n * 0x10000
abbrev failMode (n : Nat) : Nat := 0x381205 + n * 0x10000
abbrev failHold (n : Nat) : Nat := 0x381206 + n * 0x10000
abbrev failClear (n : Nat) : Nat := 0x381207 + n * 0x10000
abbrev mapDropped (n : Nat) : Nat := 0x381208 + n * 0x10000
abbrev noCompareCount (n : Nat) : Nat := 0x381209 + n * 0x10000
abbrev recordsDiscarded (n : Nat) : Nat := 0x38120A + n * 0x10000
abbrev compareMode (n s : Nat) : Nat := 0x381801 + n * 0x10000 + s * 0x100
abbrev captureMap (n s : Nat) : Nat := 0x381802 + n * 0x10000 + s * 0x100
abbrev pinMask (n s : Nat) : Nat := 0x381803 + n * 0x10000 + s * 0x100
abbrev ffScope (n s : Nat) : Nat := 0x381804 + n * 0x10000 + s * 0x100
abbrev ffArm (n s : Nat) : Nat := 0x381805 + n * 0x10000 + s * 0x100
abbrev countRecords (n s : Nat) : Nat := 0x381806 + n * 0x10000 + s * 0x100
abbrev failBits (n s : Nat) : Nat := 0x381807 + n * 0x10000 + s * 0x100
abbrev failDbursts (n s : Nat) : Nat := 0x381808 + n * 0x10000 + s * 0x100
abbrev comparedDbursts (n s : Nat) : Nat := 0x381809 + n * 0x10000 + s * 0x100
abbrev firstFailTs (n s : Nat) : Nat := 0x38180A + n * 0x10000 + s * 0x100
abbrev firstFailAt (n s : Nat) : Nat := 0x38180B + n * 0x10000 + s * 0x100
abbrev siteStatus (n s : Nat) : Nat := 0x38180C + n * 0x10000 + s * 0x100
abbrev queueMax (n s : Nat) : Nat := 0x38180D + n * 0x10000 + s * 0x100
abbrev fabState : Nat := 0x480003
abbrev fabFaultCause : Nat := 0x480004
abbrev trapCount : Nat := 0x480005
abbrev lastTrap : Nat := 0x480006
abbrev lastTrapTs : Nat := 0x480007
abbrev stallLimit : Nat := 0x480008
abbrev stalls : Nat := 0x480009
abbrev stallAt : Nat := 0x48000A
abbrev checkErrors : Nat := 0x48000B
abbrev edgeBind : Nat := 0x484001
abbrev fabClients (p : Nat) : Nat := 0x482001 + p * 0x100
abbrev fabRespDiscarded (p : Nat) : Nat := 0x482002 + p * 0x100
abbrev fabLate (p : Nat) : Nat := 0x482003 + p * 0x100
abbrev feEnable (e : Nat) : Nat := 0x488001 + e * 0x100
abbrev feState (e : Nat) : Nat := 0x488002 + e * 0x100
abbrev feOutstanding (e : Nat) : Nat := 0x488003 + e * 0x100
abbrev feRequests (e : Nat) : Nat := 0x488004 + e * 0x100
abbrev feNonOk (e : Nat) : Nat := 0x488005 + e * 0x100
abbrev fePostedFailed (e : Nat) : Nat := 0x488006 + e * 0x100
abbrev feProtocolErrors (e : Nat) : Nat := 0x488007 + e * 0x100
abbrev ctxCmd (x : Nat) : Nat := 0x481001 + x * 0x100
abbrev tilesCount (x i : Nat) : Nat := 0x481002 + x * 0x100 + i
abbrev imageId (x : Nat) : Nat := 0x481007 + x * 0x100
abbrev autoDrain (x : Nat) : Nat := 0x481008 + x * 0x100
abbrev drainFrame (x : Nat) : Nat := 0x481009 + x * 0x100
abbrev drains (x : Nat) : Nat := 0x48100A + x * 0x100
abbrev drainsSkipped (x : Nat) : Nat := 0x48100B + x * 0x100
abbrev bootImage (x : Nat) : Nat := 0x48100C + x * 0x100
abbrev swap : Nat := 0x481201
abbrev swaps : Nat := 0x481202
abbrev imageCmd : Nat := 0x485001
abbrev imageSource : Nat := 0x485002
abbrev imageAddress : Nat := 0x485003
abbrev imageAreaEntry : Nat := 0x485004
abbrev imageStaging : Nat := 0x485005
abbrev imageResult : Nat := 0x485006
abbrev loadFrame : Nat := 0x485007
abbrev imageLoads : Nat := 0x485008
abbrev imageFails : Nat := 0x485009
abbrev imageFailOffset : Nat := 0x48500A
abbrev scanCmd : Nat := 0x486001
abbrev scanTarget : Nat := 0x486002
abbrev scanFrameOut : Nat := 0x486003
abbrev scanFrameIn : Nat := 0x486004
abbrev scanFlags : Nat := 0x486005
abbrev scanStatus : Nat := 0x486006
abbrev scans : Nat := 0x486007
abbrev scanErrors : Nat := 0x486008
abbrev scanPurged : Nat := 0x486009
abbrev lastScanC : Nat := 0x48600A
abbrev frameKind (f : Nat) : Nat := 0x486801 + f * 0x100
abbrev frameTs (f : Nat) : Nat := 0x486802 + f * 0x100
abbrev frameImageId (f : Nat) : Nat := 0x486803 + f * 0x100
abbrev frameCrc (f : Nat) : Nat := 0x486804 + f * 0x100
abbrev frameData (f : Nat) : Nat := 0x486805 + f * 0x100
abbrev frameAddress (f : Nat) : Nat := 0x486806 + f * 0x100
abbrev frameMove (f : Nat) : Nat := 0x486807 + f * 0x100
abbrev msgReg (m i : Nat) : Nat := 0x440001 + m * 0x100 + i
abbrev msgGo (m : Nat) : Nat := 0x440011 + m * 0x100
abbrev msgRelease (m : Nat) : Nat := 0x440012 + m * 0x100
abbrev msgEnable (m : Nat) : Nat := 0x440013 + m * 0x100
abbrev msgWidth (m : Nat) : Nat := 0x440014 + m * 0x100
abbrev msgMode (m : Nat) : Nat := 0x440015 + m * 0x100
abbrev msgTimeout (m : Nat) : Nat := 0x440016 + m * 0x100
abbrev msgReceiver (m : Nat) : Nat := 0x440017 + m * 0x100
abbrev msgVector (m : Nat) : Nat := 0x440018 + m * 0x100
abbrev msgState (m : Nat) : Nat := 0x440019 + m * 0x100
abbrev msgSender (m : Nat) : Nat := 0x44001A + m * 0x100
abbrev msgSeq (m : Nat) : Nat := 0x44001B + m * 0x100
abbrev msgFlags (m : Nat) : Nat := 0x44001C + m * 0x100
abbrev msgSent (m : Nat) : Nat := 0x44001D + m * 0x100
abbrev msgTimeouts (m : Nat) : Nat := 0x44001E + m * 0x100
abbrev msgDiscarded (m : Nat) : Nat := 0x44001F + m * 0x100
abbrev msgRefused (m : Nat) : Nat := 0x440020 + m * 0x100
abbrev sbAddress : Nat := 0x250001
abbrev sbPec : Nat := 0x250002
abbrev owlEnable : Nat := 0x250003
abbrev sbTransfers : Nat := 0x250004
abbrev sbNacks : Nat := 0x250005
abbrev sbPecErrors : Nat := 0x250006
abbrev sbTimeouts : Nat := 0x250007
abbrev bcnMode : Nat := 0x250008
abbrev bcnUser : Nat := 0x250009
abbrev bcnNow : Nat := 0x25000A
abbrev pcieLink : Nat := 0x260001
abbrev pcieMaxSpeed : Nat := 0x260002
abbrev pcieRetrain : Nat := 0x260003
abbrev pcieCorrectable : Nat := 0x260004
abbrev pcieUncorrectable : Nat := 0x260005
abbrev pciePoisonedRx : Nat := 0x260006
abbrev pcieLinkDowns : Nat := 0x260007
abbrev pcieFlrs : Nat := 0x260008
abbrev pcieMsixSent : Nat := 0x260009
abbrev pcieRetrains : Nat := 0x26000A
abbrev hqEnable (q : Nat) : Nat := 0x410002 + q * 0x100
abbrev hqWindowBase (q : Nat) : Nat := 0x410003 + q * 0x100
abbrev hqOrderMode (q : Nat) : Nat := 0x410004 + q * 0x100
abbrev hqFailMode (q : Nat) : Nat := 0x410005 + q * 0x100
abbrev hqMergeWait (q : Nat) : Nat := 0x410006 + q * 0x100
abbrev hqVector (q : Nat) : Nat := 0x410007 + q * 0x100
abbrev hqOutstanding (q : Nat) : Nat := 0x410008 + q * 0x100
abbrev hqReadLines (q : Nat) : Nat := 0x410009 + q * 0x100
abbrev hqWriteLines (q : Nat) : Nat := 0x41000A + q * 0x100
abbrev hqNonOk (q : Nat) : Nat := 0x41000B + q * 0x100
abbrev hqPostedFailed (q : Nat) : Nat := 0x41000C + q * 0x100
abbrev hqLastFail (q : Nat) : Nat := 0x41000D + q * 0x100
abbrev hqCmdDiscarded (q : Nat) : Nat := 0x41000E + q * 0x100
abbrev ectAlState : Nat := 0x510001
abbrev ectAlStatusCode : Nat := 0x510002
abbrev ectPorts : Nat := 0x510003
abbrev ectDcValid : Nat := 0x510004
abbrev ectWatchdogBites : Nat := 0x510005
abbrev ectEmcySent : Nat := 0x510006
abbrev ectEmcyLost : Nat := 0x510007
abbrev ectFoeFails : Nat := 0x510008
abbrev nvsSave (i : Nat) : Nat := 0x230001 + i
abbrev nvsLoad (i : Nat) : Nat := 0x230005 + i
abbrev nvsStatus : Nat := 0x230009
abbrev nvsFaultCause : Nat := 0x23000A
abbrev activeSlot : Nat := 0x23000B
abbrev activeSeq : Nat := 0x23000C
abbrev sysrecBank : Nat := 0x23000D
abbrev slotWear : Nat := 0x23000E
abbrev pageWear : Nat := 0x23000F
abbrev stores : Nat := 0x230010
abbrev storeFails : Nat := 0x230011
abbrev storeRefusals : Nat := 0x230012
abbrev lastStoreUs : Nat := 0x230013
abbrev slotSkipped : Nat := 0x230014
abbrev areaWrite : Nat := 0x230015
abbrev areaErase : Nat := 0x230016
abbrev areaFreePages : Nat := 0x230017
abbrev areaDirectory : Nat := 0x230018
abbrev fltStatus : Nat := 0x220001
abbrev hhRequest : Nat := 0x220002
abbrev fltResume : Nat := 0x220003
abbrev hhCause : Nat := 0x220004
abbrev hhEntries : Nat := 0x220005
abbrev hhLastTs : Nat := 0x220006
abbrev fltVector : Nat := 0x220007
abbrev ftwTransient : Nat := 0x220008
abbrev clearHeld : Nat := 0x220009
abbrev mergedTotal : Nat := 0x22000A
abbrev reactionsApplied : Nat := 0x22000B
abbrev thermWarn : Nat := 0x22000C
abbrev dieTemp : Nat := 0x22000D
abbrev maxDieTemp : Nat := 0x22000E
abbrev ftw : Nat := 0x220101
abbrev live : Nat := 0x220201
abbrev epState : Nat := 0x220301
abbrev epNumber : Nat := 0x220302
abbrev epFirstLine : Nat := 0x220303
abbrev epFirstTs : Nat := 0x220304
abbrev epFirstSource : Nat := 0x220305
abbrev epFirstReaction : Nat := 0x220306
abbrev epLines : Nat := 0x220307
abbrev epMerged : Nat := 0x220308
abbrev epLastTs : Nat := 0x220309
abbrev epClosedTs : Nat := 0x22030A
abbrev reaction (n : Nat) : Nat := 0x221001 + n * 0x100
abbrev reactionFixed (n : Nat) : Nat := 0x221002 + n * 0x100
abbrev raises (n : Nat) : Nat := 0x221003 + n * 0x100
abbrev lastRaiseTs (n : Nat) : Nat := 0x221004 + n * 0x100
abbrev lastSource (n : Nat) : Nat := 0x221005 + n * 0x100
abbrev pwrRequest : Nat := 0x210001
abbrev pwrStatus : Nat := 0x210002
abbrev padRelease : Nat := 0x210003
abbrev padStatus : Nat := 0x210004
abbrev entryDelayMax : Nat := 0x210005
abbrev watchKeepDram : Nat := 0x210006
abbrev stormCount : Nat := 0x210007
abbrev stormWindow : Nat := 0x210008
abbrev stormHoldoff : Nat := 0x210009
abbrev wakeCause : Nat := 0x21000A
abbrev wakeTs : Nat := 0x21000B
abbrev lastSleepUs : Nat := 0x21000C
abbrev entries : Nat := 0x210101
abbrev dozeEntries : Nat := 0x210102
abbrev wakes : Nat := 0x210103
abbrev entryRefusals : Nat := 0x210104
abbrev lastRefuser : Nat := 0x210105
abbrev lastRefuserReason : Nat := 0x210106
abbrev abortedA (i : Nat) : Nat := 0x210107 + i
abbrev reversals : Nat := 0x21010D
abbrev replacedRequests : Nat := 0x21010E
abbrev delayExpiries : Nat := 0x21010F
abbrev stepOverruns : Nat := 0x210110
abbrev stormRaises : Nat := 0x210111
abbrev partRefusals (p : Nat) : Nat := 0x211001 + p * 0x100
abbrev partDelays (p : Nat) : Nat := 0x211002 + p * 0x100
abbrev partLastReason (p : Nat) : Nat := 0x211003 + p * 0x100
abbrev partLastTs (p : Nat) : Nat := 0x211004 + p * 0x100
abbrev partDelayMax (p : Nat) : Nat := 0x211005 + p * 0x100
abbrev dmPeriod : Nat := 0x212001
abbrev dmTempLo : Nat := 0x212002
abbrev dmTempHi : Nat := 0x212003
abbrev dmVinLo : Nat := 0x212004
abbrev dmVinHi : Nat := 0x212005
abbrev dmVholdLo : Nat := 0x212006
abbrev dmVholdHi : Nat := 0x212007
abbrev dmEnableMask : Nat := 0x212008
abbrev dmSensors : Nat := 0x212009
abbrev dmSamples : Nat := 0x21200A
abbrev dmLast : Nat := 0x21200B
abbrev dmViolation : Nat := 0x21200C
abbrev dmOverruns : Nat := 0x21200D
abbrev dmNacks : Nat := 0x21200E
abbrev vcoreTarget : Nat := 0x218001
abbrev vcoreMeasV : Nat := 0x218002
abbrev vcoreMeasI : Nat := 0x218003
abbrev vcoreTrimOp (i : Nat) : Nat := 0x218004 + i
abbrev vcoreSlew : Nat := 0x218008
abbrev llDown : Nat := 0x218009
abbrev llUp : Nat := 0x21800A
abbrev llOffset : Nat := 0x21800B
abbrev vcoreStatus : Nat := 0x21800C
abbrev phasesInService : Nat := 0x21800D
abbrev phaseCurrents : Nat := 0x21800E
abbrev phaseRestore : Nat := 0x21800F
abbrev regFaultCause : Nat := 0x218010
abbrev phaseFails : Nat := 0x218011
abbrev senseFails : Nat := 0x218012
abbrev foldbacks : Nat := 0x218013
abbrev llPinnedCount : Nat := 0x218014
abbrev opState : Nat := 0x218101
abbrev opTarget : Nat := 0x218102
abbrev opLastRefusal : Nat := 0x218103
abbrev opChanges : Nat := 0x218104
abbrev forcedMoves : Nat := 0x218105
abbrev lastOpUs : Nat := 0x218106
abbrev dutPhasesInService (n : Nat) : Nat := 0x219001 + n * 0x100
abbrev dutPhaseCurrents (n : Nat) : Nat := 0x219002 + n * 0x100
abbrev dutPhaseRestore (n : Nat) : Nat := 0x219003 + n * 0x100
abbrev dutPhaseFails (n : Nat) : Nat := 0x219004 + n * 0x100
abbrev dutSenseFails (n : Nat) : Nat := 0x219005 + n * 0x100
abbrev vinMeas : Nat := 0x21A001
abbrev vinStatus : Nat := 0x21A002
abbrev holdupV : Nat := 0x21A003
abbrev holdupQ : Nat := 0x21A004
abbrev holdupEQ : Nat := 0x21A005
abbrev holdupEV : Nat := 0x21A006
abbrev holdupEAct : Nat := 0x21A007
abbrev holdupStatus : Nat := 0x21A008
abbrev holdupLowMj : Nat := 0x21A009
abbrev holdupCMeas : Nat := 0x21A00A
abbrev holdupCEff : Nat := 0x21A00B
abbrev holdupTest : Nat := 0x21A00C
abbrev holdupTestPeriod : Nat := 0x21A00D
abbrev holdupDisagreeCount : Nat := 0x21A00E
abbrev holdupRecals : Nat := 0x21A00F
abbrev vinLosses : Nat := 0x21A010
abbrev holdupTestFails : Nat := 0x21A011
abbrev resetCmd : Nat := 0x213001
abbrev coldErase : Nat := 0x213002
abbrev resumeMode : Nat := 0x213003
abbrev vinSleepMj : Nat := 0x213004
abbrev lastStart : Nat := 0x213005
abbrev lastStartTs : Nat := 0x213006
abbrev startMs : Nat := 0x213007
abbrev coldResets : Nat := 0x213008
abbrev warmResets : Nat := 0x213009
abbrev vinParks : Nat := 0x21300A
abbrev vinSleeps : Nat := 0x21300B
abbrev parkMaxNs : Nat := 0x21300C
abbrev areaEntry (n : Nat) : Nat := 0x230101 + n

end Sys2Proof.Machine.Obj
end

