-- ==== Sys2Proof/Machine/ObjTable.lean ====
section
/-! DEFINITION. The object tables of the spec as rows: for each object its index (with the step and the number of its
copies), its subindices, type, access class, live class, default and accepted range (R55 to R63, R695, and the object
tables and value lists of every chapter). A default the spec does not give as a number (factory values, values computed
from the operating point) stands as 0 here: those objects are computed when they are read. -/

namespace Sys2Proof.Machine

/-- The object types of R57. -/
inductive Ty | bool | i16 | i32 | u8 | u16 | u32 | r32 | u64 | i64 | str | dom
  deriving DecidableEq, Repr

/-- The access classes of R58; `ctr` is an RW counter or tracker of R695, `w1c` an RW status cleared by writing 1. -/
inductive Acc | ro | rw | rwp | wo | cmd | ctr | w1c
  deriving DecidableEq, Repr

/-- The boundaries of R63 and those the chapters name themselves. -/
inductive Bound | frame | wheelWrap | refreshInterval | burst | transition | linkRetrain | reset | training | scrubPass | ramp | go
  deriving DecidableEq, Repr

/-- The live classes of R61, R62 and R64. -/
inductive Live | imm | quiet | at (b : Bound)
  deriving DecidableEq, Repr

/-- The values a write of an object may carry (R57, and the value lists of the chapters). -/
inductive Rng
  | full
  | span (lo hi : Nat)
  | sspan (lo hi : Int)
  | spanOr (lo hi other : Nat)
  | evenSpan (lo hi : Nat)
  | oneOf (l : List Nat)
  | mask (m : Nat)
  | maskWith (m must : Nat)
  | mult (n : Nat)
  | multUpTo (n hi : Nat)
  | sbAddress
  deriving DecidableEq, Repr

/-- One row of an object table: objects `idx + stride * i` for `i < count`, subindices `sub` to `sub + subs - 1`. -/
structure Row where
  idx : Nat
  stride : Nat
  count : Nat
  sub : Nat
  subs : Nat
  ty : Ty
  acc : Acc
  live : Live
  dflt : Nat
  dstep : Nat
  rng : Rng
  deriving DecidableEq, Repr

/-- Rows 1 of the object tables in the span of rowsProfile. -/
def rowsProfile1 : List Row :=
  [⟨0x1000, 0x1, 1, 0x0, 1, .u32, .ro, .imm, 0x0, 0x0, .full⟩,  -- DEVICE_TYPE
   ⟨0x1001, 0x1, 1, 0x0, 1, .u8, .ro, .imm, 0x0, 0x0, .full⟩,  -- ERROR_REGISTER
   ⟨0x1008, 0x1, 1, 0x0, 1, .str, .ro, .imm, 0x0, 0x0, .full⟩,  -- DEVICE_NAME
   ⟨0x1009, 0x1, 1, 0x0, 1, .str, .ro, .imm, 0x0, 0x0, .full⟩,  -- HARDWARE_VERSION
   ⟨0x100A, 0x1, 1, 0x0, 1, .str, .ro, .imm, 0x0, 0x0, .full⟩,  -- SOFTWARE_VERSION
   ⟨0x1010, 0x1, 1, 0x0, 1, .u8, .ro, .imm, 0x4, 0x0, .full⟩,  -- HIGHEST_SUB
   ⟨0x1010, 0x1, 1, 0x1, 4, .u32, .cmd, .imm, 0x0, 0x0, .full⟩,  -- STORE
   ⟨0x1011, 0x1, 1, 0x0, 1, .u8, .ro, .imm, 0x4, 0x0, .full⟩,  -- HIGHEST_SUB
   ⟨0x1011, 0x1, 1, 0x1, 4, .u32, .cmd, .at .reset, 0x0, 0x0, .full⟩,  -- RESTORE
   ⟨0x1018, 0x1, 1, 0x0, 1, .u8, .ro, .imm, 0x4, 0x0, .full⟩,  -- HIGHEST_SUB
   ⟨0x1018, 0x1, 1, 0x1, 1, .u32, .ro, .imm, 0xD1A, 0x0, .full⟩,  -- VENDOR_ID
   ⟨0x1018, 0x1, 1, 0x2, 1, .u32, .ro, .imm, 0x0, 0x0, .full⟩,  -- PRODUCT_CODE
   ⟨0x1018, 0x1, 1, 0x3, 1, .u32, .ro, .imm, 0x0, 0x0, .full⟩,  -- REVISION
   ⟨0x1018, 0x1, 1, 0x4, 1, .u32, .ro, .imm, 0x0, 0x0, .full⟩,  -- SERIAL
   ⟨0x1A00, 0x1, 1, 0x0, 1, .u8, .rwp, .quiet, 0x0, 0x0, .full⟩,  -- TXPDO_MAP count
   ⟨0x1A00, 0x1, 1, 0x1, 32, .u32, .rwp, .quiet, 0x0, 0x0, .full⟩,  -- TXPDO_MAP entries
   ⟨0x1A01, 0x1, 1, 0x0, 1, .u8, .rwp, .quiet, 0x0, 0x0, .full⟩,  -- TXPDO_MAP count
   ⟨0x1A01, 0x1, 1, 0x1, 32, .u32, .rwp, .quiet, 0x0, 0x0, .full⟩,  -- TXPDO_MAP entries
   ⟨0x1A02, 0x1, 1, 0x0, 1, .u8, .rwp, .quiet, 0x0, 0x0, .full⟩,  -- TXPDO_MAP count
   ⟨0x1A02, 0x1, 1, 0x1, 32, .u32, .rwp, .quiet, 0x0, 0x0, .full⟩,  -- TXPDO_MAP entries
   ⟨0x1A03, 0x1, 1, 0x0, 1, .u8, .rwp, .quiet, 0x0, 0x0, .full⟩,  -- TXPDO_MAP count
   ⟨0x1A03, 0x1, 1, 0x1, 32, .u32, .rwp, .quiet, 0x0, 0x0, .full⟩,  -- TXPDO_MAP entries
   ⟨0x1C00, 0x1, 1, 0x0, 1, .u8, .ro, .imm, 0x4, 0x0, .full⟩,  -- HIGHEST_SUB
   ⟨0x1C00, 0x1, 1, 0x1, 1, .u8, .ro, .imm, 0x1, 0x0, .full⟩,  -- SM_TYPE
   ⟨0x1C00, 0x1, 1, 0x2, 1, .u8, .ro, .imm, 0x2, 0x0, .full⟩,  -- SM_TYPE
   ⟨0x1C00, 0x1, 1, 0x3, 1, .u8, .ro, .imm, 0x3, 0x0, .full⟩,  -- SM_TYPE
   ⟨0x1C00, 0x1, 1, 0x4, 1, .u8, .ro, .imm, 0x4, 0x0, .full⟩,  -- SM_TYPE
   ⟨0x1C13, 0x1, 1, 0x0, 1, .u8, .rwp, .quiet, 0x1, 0x0, .span 0 4⟩,  -- TXPDO_ASSIGN count
   ⟨0x1C13, 0x1, 1, 0x1, 1, .u16, .rwp, .quiet, 0x1A00, 0x0, .span 0x1A00 0x1A03⟩,  -- TXPDO_ASSIGN
   ⟨0x1C13, 0x1, 1, 0x2, 3, .u16, .rwp, .quiet, 0x0, 0x0, .oneOf [0, 0x1A00, 0x1A01, 0x1A02, 0x1A03]⟩,  -- TXPDO_ASSIGN
   ⟨0x1C33, 0x1, 1, 0x0, 1, .u8, .ro, .imm, 0xC, 0x0, .full⟩,  -- SM3 HIGHEST_SUB
   ⟨0x1C33, 0x1, 1, 0x1, 1, .u16, .rw, .quiet, 0x0, 0x0, .full⟩,  -- SM3 sync mode
   ⟨0x1C33, 0x1, 1, 0x2, 2, .u32, .rw, .quiet, 0x0, 0x0, .full⟩,  -- SM3 cycle and shift time
   ⟨0x1C33, 0x1, 1, 0x4, 1, .u16, .rw, .quiet, 0x0, 0x0, .full⟩,  -- SM3 modes supported
   ⟨0x1C33, 0x1, 1, 0x5, 3, .u32, .rw, .quiet, 0x0, 0x0, .full⟩,  -- SM3 minimum cycle, copy and delay times
   ⟨0x1C33, 0x1, 1, 0x8, 1, .u16, .rw, .quiet, 0x0, 0x0, .full⟩,  -- SM3 get cycle time
   ⟨0x1C33, 0x1, 1, 0x9, 2, .u32, .rw, .quiet, 0x0, 0x0, .full⟩,  -- SM3 delay and SYNC0 cycle time
   ⟨0x1C33, 0x1, 1, 0xB, 2, .u16, .rw, .quiet, 0x0, 0x0, .full⟩]  -- SM3 missed and short-cycle counters

/-- Every row of the span 0x1000 to 0x1FFF. -/
def rowsProfile : List Row :=
  rowsProfile1

/-- Rows 1 of the object tables in the span of rowsEngine. -/
def rowsEngine1 : List Row :=
  [⟨0x2000, 0x1, 1, 0x0, 1, .u8, .ro, .imm, 0x7, 0x0, .full⟩,  -- HIGHEST_SUB
   ⟨0x2000, 0x1, 1, 0x1, 1, .u32, .ro, .imm, 0x4216, 0x0, .full⟩,  -- PART_CODE
   ⟨0x2000, 0x1, 1, 0x2, 1, .u16, .ro, .imm, 0x0, 0x0, .full⟩,  -- DIE_REVISION
   ⟨0x2000, 0x1, 1, 0x3, 1, .u32, .ro, .imm, 0x0, 0x0, .full⟩,  -- FIRMWARE_VERSION
   ⟨0x2000, 0x1, 1, 0x4, 1, .u32, .ro, .imm, 0xF, 0x0, .full⟩,  -- FEATURES
   ⟨0x2000, 0x1, 1, 0x5, 1, .u8, .ro, .imm, 0x1, 0x0, .full⟩,  -- RUN_PHASE
   ⟨0x2000, 0x1, 1, 0x6, 1, .u8, .ro, .imm, 0x0, 0x0, .full⟩,  -- CHANNELS_READY
   ⟨0x2000, 0x1, 1, 0x7, 1, .u64, .ro, .imm, 0x0, 0x0, .full⟩,  -- UNIQUE_ID
   ⟨0x2001, 0x1, 1, 0x0, 1, .u8, .ro, .imm, 0x8, 0x0, .full⟩,  -- HIGHEST_SUB
   ⟨0x2001, 0x1, 1, 0x1, 1, .u8, .cmd, .imm, 0x0, 0x0, .oneOf [1, 2, 3]⟩,  -- SESSION_CMD
   ⟨0x2001, 0x1, 1, 0x2, 1, .u8, .ro, .imm, 0x0, 0x0, .full⟩,  -- SESSION_OWNER
   ⟨0x2001, 0x1, 1, 0x3, 1, .u16, .ro, .imm, 0x0, 0x0, .full⟩,  -- SESSION_REMAINING
   ⟨0x2001, 0x1, 1, 0x4, 1, .u8, .cmd, .imm, 0x0, 0x0, .oneOf [1, 2, 3]⟩,  -- BATCH_CMD
   ⟨0x2001, 0x1, 1, 0x5, 1, .u8, .ro, .imm, 0x0, 0x0, .full⟩,  -- BATCH_COUNT
   ⟨0x2001, 0x1, 1, 0x6, 1, .u16, .ctr, .imm, 0x0, 0x0, .full⟩,  -- SESSION_GRANTS
   ⟨0x2001, 0x1, 1, 0x7, 1, .u16, .ctr, .imm, 0x0, 0x0, .full⟩,  -- SESSION_EXPIRIES
   ⟨0x2001, 0x1, 1, 0x8, 1, .u16, .ctr, .imm, 0x0, 0x0, .full⟩,  -- SESSION_DROPS
   ⟨0x2002, 0x1, 1, 0x0, 1, .u8, .ro, .imm, 0x7, 0x0, .full⟩,  -- HIGHEST_SUB
   ⟨0x2002, 0x1, 1, 0x1, 1, .u16, .ro, .imm, 0x0, 0x0, .full⟩,  -- DICT_STATUS
   ⟨0x2002, 0x1, 1, 0x2, 1, .u32, .ctr, .imm, 0x0, 0x0, .full⟩,  -- REFUSAL_COUNT
   ⟨0x2002, 0x1, 1, 0x3, 1, .u32, .ctr, .imm, 0x0, 0x0, .full⟩,  -- QUIESCENT_REFUSALS
   ⟨0x2002, 0x1, 1, 0x4, 1, .u32, .ro, .imm, 0x0, 0x0, .full⟩,  -- LAST_REFUSAL
   ⟨0x2002, 0x1, 1, 0x5, 1, .u64, .ro, .imm, 0x0, 0x0, .full⟩,  -- LAST_REFUSAL_TS
   ⟨0x2002, 0x1, 1, 0x6, 1, .u32, .ro, .imm, 0x0, 0x0, .full⟩,  -- PENDING_BLOCKS
   ⟨0x2002, 0x1, 1, 0x7, 1, .u8, .ro, .imm, 0x0, 0x0, .full⟩,  -- PCIE_LAST_RESULT
   ⟨0x2003, 0x1, 1, 0x0, 1, .u8, .ro, .imm, 0x7, 0x0, .full⟩,  -- HIGHEST_SUB
   ⟨0x2003, 0x1, 1, 0x1, 1, .u32, .ro, .imm, 0x0, 0x0, .full⟩,  -- HIGH_READ
   ⟨0x2003, 0x1, 1, 0x2, 1, .u32, .rw, .imm, 0x0, 0x0, .full⟩,  -- HIGH_WRITE
   ⟨0x2003, 0x1, 1, 0x3, 1, .u32, .rw, .imm, 0x0, 0x0, .mask 0xFFFFFF⟩,  -- DOMAIN_SELECT
   ⟨0x2003, 0x1, 1, 0x4, 1, .u32, .rw, .imm, 0x0, 0x0, .mult 4⟩,  -- DOMAIN_OFFSET
   ⟨0x2003, 0x1, 1, 0x5, 1, .u32, .rw, .imm, 0x0, 0x0, .full⟩,  -- DOMAIN_DATA
   ⟨0x2003, 0x1, 1, 0x6, 1, .u32, .ro, .imm, 0x0, 0x0, .full⟩,  -- DOMAIN_LENGTH
   ⟨0x2003, 0x1, 1, 0x7, 1, .u32, .cmd, .imm, 0x0, 0x0, .full⟩,  -- DOMAIN_COMMIT
   ⟨0x2010, 0x1, 1, 0x0, 1, .u8, .ro, .imm, 0xC, 0x0, .full⟩,  -- HIGHEST_SUB
   ⟨0x2010, 0x1, 1, 0x1, 1, .u8, .ro, .imm, 0x3, 0x0, .full⟩,  -- OP_CURRENT
   ⟨0x2010, 0x1, 1, 0x2, 1, .u8, .cmd, .at .transition, 0x0, 0x0, .span 0 3⟩,  -- OP_REQUEST
   ⟨0x2010, 0x1, 1, 0x3, 1, .u8, .rw, .at .reset, 0x3, 0x0, .span 0 3⟩,  -- OP_BOOT
   ⟨0x2010, 0x1, 1, 0x4, 1, .u32, .ro, .imm, 0x17D78400, 0x0, .full⟩,  -- CCLK_HZ
   ⟨0x2010, 0x1, 1, 0x5, 1, .u8, .rw, .quiet, 0x4, 0x0, .span 2 5⟩,  -- PB0_CK_MULT
   ⟨0x2010, 0x1, 1, 0x6, 1, .u8, .rw, .quiet, 0x4, 0x0, .span 2 5⟩]  -- PB1_CK_MULT

/-- Rows 2 of the object tables in the span of rowsEngine. -/
def rowsEngine2 : List Row :=
  [⟨0x2010, 0x1, 1, 0x7, 1, .i16, .rw, .imm, 0x0, 0x0, .full⟩,  -- SHMOO_OFFSET
   ⟨0x2010, 0x1, 1, 0x8, 1, .i16, .ro, .imm, 0x0, 0x0, .full⟩,  -- SHMOO_ACTUAL
   ⟨0x2010, 0x1, 1, 0x9, 1, .u16, .ro, .imm, 0x6F, 0x0, .full⟩,  -- CLOCK_STATUS
   ⟨0x2010, 0x1, 1, 0xA, 1, .u16, .ctr, .imm, 0x0, 0x0, .full⟩,  -- REF_LOSS_COUNT
   ⟨0x2010, 0x1, 1, 0xB, 1, .u16, .ctr, .imm, 0x0, 0x0, .full⟩,  -- UNLOCK_COUNT
   ⟨0x2010, 0x1, 1, 0xC, 1, .u16, .ctr, .imm, 0x0, 0x0, .full⟩]  -- CLOCK_REFUSALS

/-- Every row of the span 0x2000 to 0x20FF. -/
def rowsEngine : List Row :=
  rowsEngine1 ++ rowsEngine2

/-- Rows 1 of the object tables in the span of rowsPower. -/
def rowsPower1 : List Row :=
  [⟨0x2100, 0x1, 1, 0x0, 1, .u8, .ro, .imm, 0xC, 0x0, .full⟩,  -- HIGHEST_SUB
   ⟨0x2100, 0x1, 1, 0x1, 1, .u8, .cmd, .at .transition, 0x0, 0x0, .span 0 4⟩,  -- PWR_REQUEST
   ⟨0x2100, 0x1, 1, 0x2, 1, .u16, .ro, .imm, 0x7000, 0x0, .full⟩,  -- PWR_STATUS
   ⟨0x2100, 0x1, 1, 0x3, 1, .u8, .cmd, .imm, 0x0, 0x0, .oneOf [1]⟩,  -- PAD_RELEASE
   ⟨0x2100, 0x1, 1, 0x4, 1, .u8, .ro, .imm, 0x0, 0x0, .full⟩,  -- PAD_STATUS
   ⟨0x2100, 0x1, 1, 0x5, 1, .u32, .rw, .imm, 0x186A0, 0x0, .span 1000 10000000⟩,  -- ENTRY_DELAY_MAX
   ⟨0x2100, 0x1, 1, 0x6, 1, .bool, .rw, .imm, 0x1, 0x0, .full⟩,  -- WATCH_KEEP_DRAM
   ⟨0x2100, 0x1, 1, 0x7, 1, .u8, .rw, .imm, 0x8, 0x0, .span 2 255⟩,  -- STORM_COUNT
   ⟨0x2100, 0x1, 1, 0x8, 1, .u32, .rw, .imm, 0x3E8, 0x0, .span 10 600000⟩,  -- STORM_WINDOW
   ⟨0x2100, 0x1, 1, 0x9, 1, .u32, .rw, .imm, 0x3E8, 0x0, .span 0 600000⟩,  -- STORM_HOLDOFF
   ⟨0x2100, 0x1, 1, 0xA, 1, .u16, .ro, .imm, 0x0, 0x0, .full⟩,  -- WAKE_CAUSE
   ⟨0x2100, 0x1, 1, 0xB, 1, .u64, .ro, .imm, 0x0, 0x0, .full⟩,  -- WAKE_TS
   ⟨0x2100, 0x1, 1, 0xC, 1, .u32, .ro, .imm, 0x0, 0x0, .full⟩,  -- LAST_SLEEP_US
   ⟨0x2101, 0x1, 1, 0x0, 1, .u8, .ro, .imm, 0x11, 0x0, .full⟩,  -- HIGHEST_SUB
   ⟨0x2101, 0x1, 1, 0x1, 1, .u32, .ctr, .imm, 0x0, 0x0, .full⟩,  -- ENTRIES
   ⟨0x2101, 0x1, 1, 0x2, 1, .u32, .ctr, .imm, 0x0, 0x0, .full⟩,  -- DOZE_ENTRIES
   ⟨0x2101, 0x1, 1, 0x3, 1, .u32, .ctr, .imm, 0x0, 0x0, .full⟩,  -- WAKES
   ⟨0x2101, 0x1, 1, 0x4, 1, .u32, .ctr, .imm, 0x0, 0x0, .full⟩,  -- ENTRY_REFUSALS
   ⟨0x2101, 0x1, 1, 0x5, 1, .u8, .ro, .imm, 0xFF, 0x0, .full⟩,  -- LAST_REFUSER
   ⟨0x2101, 0x1, 1, 0x6, 1, .u8, .ro, .imm, 0x0, 0x0, .full⟩,  -- LAST_REFUSER_REASON
   ⟨0x2101, 0x1, 1, 0x7, 6, .u16, .ctr, .imm, 0x0, 0x0, .full⟩,  -- ABORTED_A0-ABORTED_A5
   ⟨0x2101, 0x1, 1, 0xD, 1, .u16, .ctr, .imm, 0x0, 0x0, .full⟩,  -- REVERSALS
   ⟨0x2101, 0x1, 1, 0xE, 1, .u16, .ctr, .imm, 0x0, 0x0, .full⟩,  -- REPLACED_REQUESTS
   ⟨0x2101, 0x1, 1, 0xF, 1, .u16, .ctr, .imm, 0x0, 0x0, .full⟩,  -- DELAY_EXPIRIES
   ⟨0x2101, 0x1, 1, 0x10, 1, .u16, .ctr, .imm, 0x0, 0x0, .full⟩,  -- STEP_OVERRUNS
   ⟨0x2101, 0x1, 1, 0x11, 1, .u16, .ctr, .imm, 0x0, 0x0, .full⟩,  -- STORM_RAISES
   ⟨0x2110, 0x1, 14, 0x0, 1, .u8, .ro, .imm, 0x5, 0x0, .full⟩,  -- HIGHEST_SUB
   ⟨0x2110, 0x1, 14, 0x1, 1, .u16, .ctr, .imm, 0x0, 0x0, .full⟩,  -- PART_REFUSALS
   ⟨0x2110, 0x1, 14, 0x2, 1, .u16, .ctr, .imm, 0x0, 0x0, .full⟩,  -- PART_DELAYS
   ⟨0x2110, 0x1, 14, 0x3, 1, .u8, .ro, .imm, 0x0, 0x0, .full⟩,  -- PART_LAST_REASON
   ⟨0x2110, 0x1, 14, 0x4, 1, .u64, .ro, .imm, 0x0, 0x0, .full⟩,  -- PART_LAST_TS
   ⟨0x2110, 0x1, 14, 0x5, 1, .u32, .ctr, .imm, 0x0, 0x0, .full⟩,  -- PART_DELAY_MAX
   ⟨0x2120, 0x1, 1, 0x0, 1, .u8, .ro, .imm, 0xE, 0x0, .full⟩,  -- HIGHEST_SUB
   ⟨0x2120, 0x1, 1, 0x1, 1, .u32, .rw, .imm, 0x3E8, 0x0, .span 1 60000⟩,  -- DM_PERIOD
   ⟨0x2120, 0x1, 1, 0x2, 1, .i16, .rw, .imm, 0x0, 0x0, .full⟩,  -- DM_TEMP_LO
   ⟨0x2120, 0x1, 1, 0x3, 1, .i16, .rw, .imm, 0x3B6, 0x0, .full⟩,  -- DM_TEMP_HI
   ⟨0x2120, 0x1, 1, 0x4, 1, .u16, .rw, .imm, 0x2A30, 0x0, .full⟩,  -- DM_VIN_LO
   ⟨0x2120, 0x1, 1, 0x5, 1, .u16, .rw, .imm, 0x3390, 0x0, .full⟩,  -- DM_VIN_HI
   ⟨0x2120, 0x1, 1, 0x6, 1, .u16, .rw, .imm, 0x2EE0, 0x0, .full⟩,  -- DM_VHOLD_LO
   ⟨0x2120, 0x1, 1, 0x7, 1, .u16, .rw, .imm, 0x38A4, 0x0, .full⟩]  -- DM_VHOLD_HI

/-- Rows 2 of the object tables in the span of rowsPower. -/
def rowsPower2 : List Row :=
  [⟨0x2120, 0x1, 1, 0x8, 1, .u16, .rw, .imm, 0x7, 0x0, .mask 0xFF07⟩,  -- DM_ENABLE_MASK
   ⟨0x2120, 0x1, 1, 0x9, 1, .dom, .rw, .imm, 0x0, 0x0, .full⟩,  -- DM_SENSORS
   ⟨0x2120, 0x1, 1, 0xA, 1, .u32, .ctr, .imm, 0x0, 0x0, .full⟩,  -- DM_SAMPLES
   ⟨0x2120, 0x1, 1, 0xB, 1, .dom, .ro, .imm, 0x0, 0x0, .full⟩,  -- DM_LAST
   ⟨0x2120, 0x1, 1, 0xC, 1, .u64, .ro, .imm, 0x0, 0x0, .full⟩,  -- DM_VIOLATION
   ⟨0x2120, 0x1, 1, 0xD, 1, .u16, .ctr, .imm, 0x0, 0x0, .full⟩,  -- DM_OVERRUNS
   ⟨0x2120, 0x1, 1, 0xE, 1, .u16, .ctr, .imm, 0x0, 0x0, .full⟩,  -- DM_NACKS
   ⟨0x2130, 0x1, 1, 0x0, 1, .u8, .ro, .imm, 0xC, 0x0, .full⟩,  -- HIGHEST_SUB
   ⟨0x2130, 0x1, 1, 0x1, 1, .u8, .cmd, .imm, 0x0, 0x0, .oneOf [1, 2]⟩,  -- RESET_CMD
   ⟨0x2130, 0x1, 1, 0x2, 1, .bool, .rw, .imm, 0x0, 0x0, .full⟩,  -- COLD_ERASE
   ⟨0x2130, 0x1, 1, 0x3, 1, .u8, .rw, .imm, 0x0, 0x0, .span 0 1⟩,  -- RESUME_MODE
   ⟨0x2130, 0x1, 1, 0x4, 1, .u16, .rw, .imm, 0x28, 0x0, .span 20 200⟩,  -- VIN_SLEEP_MJ
   ⟨0x2130, 0x1, 1, 0x5, 1, .u8, .ro, .imm, 0x1, 0x0, .full⟩,  -- LAST_START
   ⟨0x2130, 0x1, 1, 0x6, 1, .u64, .ro, .imm, 0x0, 0x0, .full⟩,  -- LAST_START_TS
   ⟨0x2130, 0x1, 1, 0x7, 1, .u32, .ro, .imm, 0x0, 0x0, .full⟩,  -- START_MS
   ⟨0x2130, 0x1, 1, 0x8, 1, .u16, .ctr, .imm, 0x0, 0x0, .full⟩,  -- COLD_RESETS
   ⟨0x2130, 0x1, 1, 0x9, 1, .u16, .ctr, .imm, 0x0, 0x0, .full⟩,  -- WARM_RESETS
   ⟨0x2130, 0x1, 1, 0xA, 1, .u16, .ctr, .imm, 0x0, 0x0, .full⟩,  -- VIN_PARKS
   ⟨0x2130, 0x1, 1, 0xB, 1, .u16, .ctr, .imm, 0x0, 0x0, .full⟩,  -- VIN_SLEEPS
   ⟨0x2130, 0x1, 1, 0xC, 1, .u16, .ctr, .imm, 0x0, 0x0, .full⟩,  -- PARK_MAX_NS
   ⟨0x2180, 0x1, 1, 0x0, 1, .u8, .ro, .imm, 0x14, 0x0, .full⟩,  -- HIGHEST_SUB
   ⟨0x2180, 0x1, 1, 0x1, 1, .u16, .ro, .imm, 0x28A, 0x0, .full⟩,  -- VCORE_TARGET
   ⟨0x2180, 0x1, 1, 0x2, 1, .u16, .ro, .imm, 0x0, 0x0, .full⟩,  -- VCORE_MEAS_V
   ⟨0x2180, 0x1, 1, 0x3, 1, .u32, .ro, .imm, 0x0, 0x0, .full⟩,  -- VCORE_MEAS_I
   ⟨0x2180, 0x1, 1, 0x4, 4, .i16, .rw, .imm, 0x0, 0x0, .sspan (-60) 40⟩,  -- VCORE_TRIM_OP0-OP3
   ⟨0x2180, 0x1, 1, 0x8, 1, .u8, .rw, .imm, 0x14, 0x0, .span 5 40⟩,  -- VCORE_SLEW
   ⟨0x2180, 0x1, 1, 0x9, 1, .u8, .rw, .imm, 0x14, 0x0, .span 0 50⟩,  -- LL_DOWN
   ⟨0x2180, 0x1, 1, 0xA, 1, .u8, .rw, .imm, 0xF, 0x0, .span 0 30⟩,  -- LL_UP
   ⟨0x2180, 0x1, 1, 0xB, 1, .i16, .ro, .imm, 0x0, 0x0, .full⟩,  -- LL_OFFSET
   ⟨0x2180, 0x1, 1, 0xC, 1, .u16, .ro, .imm, 0x1, 0x0, .full⟩,  -- VCORE_STATUS
   ⟨0x2180, 0x1, 1, 0xD, 1, .u8, .ro, .imm, 0x3F, 0x0, .full⟩,  -- PHASES_IN_SERVICE
   ⟨0x2180, 0x1, 1, 0xE, 1, .dom, .ro, .imm, 0x0, 0x0, .full⟩,  -- PHASE_CURRENTS
   ⟨0x2180, 0x1, 1, 0xF, 1, .u8, .cmd, .imm, 0x0, 0x0, .oneOf [1]⟩,  -- PHASE_RESTORE
   ⟨0x2180, 0x1, 1, 0x10, 1, .u8, .w1c, .imm, 0x0, 0x0, .mask 0x7F⟩,  -- REG_FAULT_CAUSE
   ⟨0x2180, 0x1, 1, 0x11, 1, .u16, .ctr, .imm, 0x0, 0x0, .full⟩,  -- PHASE_FAILS
   ⟨0x2180, 0x1, 1, 0x12, 1, .u16, .ctr, .imm, 0x0, 0x0, .full⟩,  -- SENSE_FAILS
   ⟨0x2180, 0x1, 1, 0x13, 1, .u16, .ctr, .imm, 0x0, 0x0, .full⟩,  -- FOLDBACKS
   ⟨0x2180, 0x1, 1, 0x14, 1, .u16, .ctr, .imm, 0x0, 0x0, .full⟩,  -- LL_PINNED_COUNT
   ⟨0x2181, 0x1, 1, 0x0, 1, .u8, .ro, .imm, 0x6, 0x0, .full⟩,  -- HIGHEST_SUB
   ⟨0x2181, 0x1, 1, 0x1, 1, .u8, .ro, .imm, 0x0, 0x0, .full⟩]  -- OP_STATE

/-- Rows 3 of the object tables in the span of rowsPower. -/
def rowsPower3 : List Row :=
  [⟨0x2181, 0x1, 1, 0x2, 1, .u8, .ro, .imm, 0xFF, 0x0, .full⟩,  -- OP_TARGET
   ⟨0x2181, 0x1, 1, 0x3, 1, .u8, .ro, .imm, 0x0, 0x0, .full⟩,  -- OP_LAST_REFUSAL
   ⟨0x2181, 0x1, 1, 0x4, 1, .u32, .ctr, .imm, 0x0, 0x0, .full⟩,  -- OP_CHANGES
   ⟨0x2181, 0x1, 1, 0x5, 1, .u16, .ctr, .imm, 0x0, 0x0, .full⟩,  -- FORCED_MOVES
   ⟨0x2181, 0x1, 1, 0x6, 1, .u32, .ro, .imm, 0x0, 0x0, .full⟩,  -- LAST_OP_US
   ⟨0x2190, 0x1, 2, 0x0, 1, .u8, .ro, .imm, 0x5, 0x0, .full⟩,  -- HIGHEST_SUB
   ⟨0x2190, 0x1, 2, 0x1, 1, .u8, .ro, .imm, 0x3F, 0x0, .full⟩,  -- DUT_PHASES_IN_SERVICE
   ⟨0x2190, 0x1, 2, 0x2, 1, .dom, .ro, .imm, 0x0, 0x0, .full⟩,  -- DUT_PHASE_CURRENTS
   ⟨0x2190, 0x1, 2, 0x3, 1, .u8, .cmd, .imm, 0x0, 0x0, .oneOf [1]⟩,  -- DUT_PHASE_RESTORE
   ⟨0x2190, 0x1, 2, 0x4, 1, .u16, .ctr, .imm, 0x0, 0x0, .full⟩,  -- DUT_PHASE_FAILS
   ⟨0x2190, 0x1, 2, 0x5, 1, .u16, .ctr, .imm, 0x0, 0x0, .full⟩,  -- DUT_SENSE_FAILS
   ⟨0x21A0, 0x1, 1, 0x0, 1, .u8, .ro, .imm, 0x11, 0x0, .full⟩,  -- HIGHEST_SUB
   ⟨0x21A0, 0x1, 1, 0x1, 1, .u16, .ro, .imm, 0x0, 0x0, .full⟩,  -- VIN_MEAS
   ⟨0x21A0, 0x1, 1, 0x2, 1, .u8, .ro, .imm, 0x0, 0x0, .full⟩,  -- VIN_STATUS
   ⟨0x21A0, 0x1, 1, 0x3, 1, .u16, .ro, .imm, 0x0, 0x0, .full⟩,  -- HOLDUP_V
   ⟨0x21A0, 0x1, 1, 0x4, 1, .u32, .ro, .imm, 0x0, 0x0, .full⟩,  -- HOLDUP_Q
   ⟨0x21A0, 0x1, 1, 0x5, 1, .u16, .ro, .imm, 0x0, 0x0, .full⟩,  -- HOLDUP_E_Q
   ⟨0x21A0, 0x1, 1, 0x6, 1, .u16, .ro, .imm, 0x0, 0x0, .full⟩,  -- HOLDUP_E_V
   ⟨0x21A0, 0x1, 1, 0x7, 1, .u16, .ro, .imm, 0x0, 0x0, .full⟩,  -- HOLDUP_E_ACT
   ⟨0x21A0, 0x1, 1, 0x8, 1, .u16, .ro, .imm, 0x82, 0x0, .full⟩,  -- HOLDUP_STATUS
   ⟨0x21A0, 0x1, 1, 0x9, 1, .u16, .rw, .imm, 0x78, 0x0, .span 60 250⟩,  -- HOLDUP_LOW_MJ
   ⟨0x21A0, 0x1, 1, 0xA, 1, .u16, .ro, .imm, 0x0, 0x0, .full⟩,  -- HOLDUP_C_MEAS
   ⟨0x21A0, 0x1, 1, 0xB, 1, .u16, .ro, .imm, 0xCE4, 0x0, .full⟩,  -- HOLDUP_C_EFF
   ⟨0x21A0, 0x1, 1, 0xC, 1, .u8, .cmd, .imm, 0x0, 0x0, .oneOf [1]⟩,  -- HOLDUP_TEST
   ⟨0x21A0, 0x1, 1, 0xD, 1, .u16, .rw, .imm, 0x18, 0x0, .span 0 8760⟩,  -- HOLDUP_TEST_PERIOD
   ⟨0x21A0, 0x1, 1, 0xE, 1, .u16, .ctr, .imm, 0x0, 0x0, .full⟩,  -- HOLDUP_DISAGREE_COUNT
   ⟨0x21A0, 0x1, 1, 0xF, 1, .u32, .ctr, .imm, 0x0, 0x0, .full⟩,  -- HOLDUP_RECALS
   ⟨0x21A0, 0x1, 1, 0x10, 1, .u16, .ctr, .imm, 0x0, 0x0, .full⟩,  -- VIN_LOSSES
   ⟨0x21A0, 0x1, 1, 0x11, 1, .u16, .ctr, .imm, 0x0, 0x0, .full⟩]  -- HOLDUP_TEST_FAILS

/-- Every row of the span 0x2100 to 0x21FF. -/
def rowsPower : List Row :=
  rowsPower1 ++ rowsPower2 ++ rowsPower3

/-- Rows 1 of the object tables in the span of rowsFault. -/
def rowsFault1 : List Row :=
  [⟨0x2200, 0x1, 1, 0x0, 1, .u8, .ro, .imm, 0xE, 0x0, .full⟩,  -- HIGHEST_SUB
   ⟨0x2200, 0x1, 1, 0x1, 1, .u8, .ro, .imm, 0x0, 0x0, .full⟩,  -- FLT_STATUS
   ⟨0x2200, 0x1, 1, 0x2, 1, .u8, .cmd, .imm, 0x0, 0x0, .oneOf [1]⟩,  -- HH_REQUEST
   ⟨0x2200, 0x1, 1, 0x3, 1, .u8, .cmd, .imm, 0x0, 0x0, .oneOf [1]⟩,  -- FLT_RESUME
   ⟨0x2200, 0x1, 1, 0x4, 1, .u8, .ro, .imm, 0xFF, 0x0, .full⟩,  -- HH_CAUSE
   ⟨0x2200, 0x1, 1, 0x5, 1, .u16, .ctr, .imm, 0x0, 0x0, .full⟩,  -- HH_ENTRIES
   ⟨0x2200, 0x1, 1, 0x6, 1, .u64, .ro, .imm, 0x0, 0x0, .full⟩,  -- HH_LAST_TS
   ⟨0x2200, 0x1, 1, 0x7, 1, .u8, .rw, .imm, 0xFF, 0x0, .spanOr 0 63 0xFF⟩,  -- FLT_VECTOR
   ⟨0x2200, 0x1, 1, 0x8, 1, .u64, .ro, .imm, 0x0, 0x0, .full⟩,  -- FTW_TRANSIENT
   ⟨0x2200, 0x1, 1, 0x9, 1, .u16, .ctr, .imm, 0x0, 0x0, .full⟩,  -- CLEAR_HELD
   ⟨0x2200, 0x1, 1, 0xA, 1, .u32, .ctr, .imm, 0x0, 0x0, .full⟩,  -- MERGED_TOTAL
   ⟨0x2200, 0x1, 1, 0xB, 1, .u32, .ctr, .imm, 0x0, 0x0, .full⟩,  -- REACTIONS_APPLIED
   ⟨0x2200, 0x1, 1, 0xC, 1, .u8, .rw, .imm, 0x64, 0x0, .span 60 105⟩,  -- THERM_WARN
   ⟨0x2200, 0x1, 1, 0xD, 1, .i16, .ro, .imm, 0x0, 0x0, .full⟩,  -- DIE_TEMP
   ⟨0x2200, 0x1, 1, 0xE, 1, .i16, .ctr, .imm, 0x0, 0x0, .full⟩,  -- MAX_DIE_TEMP
   ⟨0x2201, 0x1, 1, 0x0, 1, .u8, .ro, .imm, 0x1, 0x0, .full⟩,  -- HIGHEST_SUB
   ⟨0x2201, 0x1, 1, 0x1, 1, .u64, .w1c, .imm, 0x0, 0x0, .mask 0x800FFFFFFFFFFFFF⟩,  -- FTW
   ⟨0x2202, 0x1, 1, 0x0, 1, .u8, .ro, .imm, 0x1, 0x0, .full⟩,  -- HIGHEST_SUB
   ⟨0x2202, 0x1, 1, 0x1, 1, .u64, .ro, .imm, 0x0, 0x0, .full⟩,  -- LIVE
   ⟨0x2203, 0x1, 1, 0x0, 1, .u8, .ro, .imm, 0xA, 0x0, .full⟩,  -- HIGHEST_SUB
   ⟨0x2203, 0x1, 1, 0x1, 1, .u8, .ro, .imm, 0x0, 0x0, .full⟩,  -- EP_STATE
   ⟨0x2203, 0x1, 1, 0x2, 1, .u32, .ro, .imm, 0x0, 0x0, .full⟩,  -- EP_NUMBER
   ⟨0x2203, 0x1, 1, 0x3, 1, .u8, .ro, .imm, 0xFF, 0x0, .full⟩,  -- EP_FIRST_LINE
   ⟨0x2203, 0x1, 1, 0x4, 1, .u64, .ro, .imm, 0x0, 0x0, .full⟩,  -- EP_FIRST_TS
   ⟨0x2203, 0x1, 1, 0x5, 1, .u16, .ro, .imm, 0x0, 0x0, .full⟩,  -- EP_FIRST_SOURCE
   ⟨0x2203, 0x1, 1, 0x6, 1, .u8, .ro, .imm, 0x0, 0x0, .full⟩,  -- EP_FIRST_REACTION
   ⟨0x2203, 0x1, 1, 0x7, 1, .u64, .ro, .imm, 0x0, 0x0, .full⟩,  -- EP_LINES
   ⟨0x2203, 0x1, 1, 0x8, 1, .u16, .ro, .imm, 0x0, 0x0, .full⟩,  -- EP_MERGED
   ⟨0x2203, 0x1, 1, 0x9, 1, .u64, .ro, .imm, 0x0, 0x0, .full⟩,  -- EP_LAST_TS
   ⟨0x2203, 0x1, 1, 0xA, 1, .u64, .ro, .imm, 0x0, 0x0, .full⟩,  -- EP_CLOSED_TS
   ⟨0x2204, 0x1, 1, 0x0, 1, .u8, .ro, .imm, 0xA, 0x0, .full⟩,  -- HIGHEST_SUB
   ⟨0x2204, 0x1, 1, 0x1, 1, .u8, .ro, .imm, 0x0, 0x0, .full⟩,  -- EP_STATE
   ⟨0x2204, 0x1, 1, 0x2, 1, .u32, .ro, .imm, 0x0, 0x0, .full⟩,  -- EP_NUMBER
   ⟨0x2204, 0x1, 1, 0x3, 1, .u8, .ro, .imm, 0xFF, 0x0, .full⟩,  -- EP_FIRST_LINE
   ⟨0x2204, 0x1, 1, 0x4, 1, .u64, .ro, .imm, 0x0, 0x0, .full⟩,  -- EP_FIRST_TS
   ⟨0x2204, 0x1, 1, 0x5, 1, .u16, .ro, .imm, 0x0, 0x0, .full⟩,  -- EP_FIRST_SOURCE
   ⟨0x2204, 0x1, 1, 0x6, 1, .u8, .ro, .imm, 0x0, 0x0, .full⟩,  -- EP_FIRST_REACTION
   ⟨0x2204, 0x1, 1, 0x7, 1, .u64, .ro, .imm, 0x0, 0x0, .full⟩,  -- EP_LINES
   ⟨0x2204, 0x1, 1, 0x8, 1, .u16, .ro, .imm, 0x0, 0x0, .full⟩,  -- EP_MERGED
   ⟨0x2204, 0x1, 1, 0x9, 1, .u64, .ro, .imm, 0x0, 0x0, .full⟩]  -- EP_LAST_TS

/-- Rows 2 of the object tables in the span of rowsFault. -/
def rowsFault2 : List Row :=
  [⟨0x2204, 0x1, 1, 0xA, 1, .u64, .ro, .imm, 0x0, 0x0, .full⟩,  -- EP_CLOSED_TS
   ⟨0x2210, 0x1, 52, 0x0, 1, .u8, .ro, .imm, 0x5, 0x0, .full⟩,  -- HIGHEST_SUB
   ⟨0x2210, 0x1, 16, 0x1, 1, .u8, .rw, .imm, 0x80, 0x0, .full⟩,  -- REACTION
   ⟨0x2210, 0x1, 19, 0x2, 1, .u8, .ro, .imm, 0x0, 0x0, .full⟩,  -- REACTION_FIXED
   ⟨0x2210, 0x1, 52, 0x3, 1, .u32, .ctr, .imm, 0x0, 0x0, .full⟩,  -- RAISES
   ⟨0x2210, 0x1, 52, 0x4, 1, .u64, .ro, .imm, 0x0, 0x0, .full⟩,  -- LAST_RAISE_TS
   ⟨0x2210, 0x1, 52, 0x5, 1, .u16, .ro, .imm, 0x0, 0x0, .full⟩,  -- LAST_SOURCE
   ⟨0x2220, 0x1, 1, 0x1, 1, .u8, .rw, .imm, 0x84, 0x0, .full⟩,  -- REACTION
   ⟨0x2221, 0x1, 2, 0x1, 1, .u8, .rw, .imm, 0x80, 0x0, .full⟩,  -- REACTION
   ⟨0x2223, 0x1, 1, 0x1, 1, .u8, .rw, .imm, 0x88, 0x0, .full⟩,  -- REACTION
   ⟨0x2223, 0x1, 1, 0x2, 1, .u8, .ro, .imm, 0x8, 0x0, .full⟩,  -- REACTION_FIXED
   ⟨0x2224, 0x1, 1, 0x1, 1, .u8, .rw, .imm, 0x84, 0x0, .full⟩,  -- REACTION
   ⟨0x2224, 0x1, 3, 0x2, 1, .u8, .ro, .imm, 0x0, 0x0, .full⟩,  -- REACTION_FIXED
   ⟨0x2225, 0x1, 2, 0x1, 1, .u8, .rw, .imm, 0x80, 0x0, .full⟩,  -- REACTION
   ⟨0x2227, 0x1, 1, 0x1, 1, .u8, .rw, .imm, 0x88, 0x0, .full⟩,  -- REACTION
   ⟨0x2227, 0x1, 1, 0x2, 1, .u8, .ro, .imm, 0x8, 0x0, .full⟩,  -- REACTION_FIXED
   ⟨0x2228, 0x1, 5, 0x1, 1, .u8, .rw, .imm, 0x80, 0x0, .full⟩,  -- REACTION
   ⟨0x2228, 0x1, 19, 0x2, 1, .u8, .ro, .imm, 0x0, 0x0, .full⟩,  -- REACTION_FIXED
   ⟨0x222D, 0x1, 3, 0x1, 1, .u8, .rw, .imm, 0x0, 0x0, .full⟩,  -- REACTION
   ⟨0x2230, 0x1, 9, 0x1, 1, .u8, .rw, .imm, 0x80, 0x0, .full⟩,  -- REACTION
   ⟨0x2239, 0x1, 1, 0x1, 1, .u8, .rw, .imm, 0x0, 0x0, .full⟩,  -- REACTION
   ⟨0x223A, 0x1, 1, 0x1, 1, .u8, .rw, .imm, 0x80, 0x0, .full⟩,  -- REACTION
   ⟨0x223B, 0x1, 1, 0x1, 1, .u8, .rw, .imm, 0xC0, 0x0, .full⟩,  -- REACTION
   ⟨0x223B, 0x1, 1, 0x2, 1, .u8, .ro, .imm, 0x40, 0x0, .full⟩,  -- REACTION_FIXED
   ⟨0x223C, 0x1, 2, 0x1, 1, .u8, .rw, .imm, 0x80, 0x0, .full⟩,  -- REACTION
   ⟨0x223C, 0x1, 8, 0x2, 1, .u8, .ro, .imm, 0x0, 0x0, .full⟩,  -- REACTION_FIXED
   ⟨0x223E, 0x1, 3, 0x1, 1, .u8, .rw, .imm, 0x0, 0x0, .full⟩,  -- REACTION
   ⟨0x2241, 0x1, 2, 0x1, 1, .u8, .rw, .imm, 0x80, 0x0, .full⟩,  -- REACTION
   ⟨0x2243, 0x1, 1, 0x1, 1, .u8, .rw, .imm, 0x0, 0x0, .full⟩]  -- REACTION

/-- Every row of the span 0x2200 to 0x22FF. -/
def rowsFault : List Row :=
  rowsFault1 ++ rowsFault2

/-- Rows 1 of the object tables in the span of rowsPorts. -/
def rowsPorts1 : List Row :=
  [⟨0x2300, 0x1, 1, 0x0, 1, .u8, .ro, .imm, 0x18, 0x0, .full⟩,  -- HIGHEST_SUB
   ⟨0x2300, 0x1, 1, 0x1, 4, .u32, .cmd, .imm, 0x0, 0x0, .full⟩,  -- NVS_SAVE_1-4
   ⟨0x2300, 0x1, 1, 0x5, 4, .u32, .cmd, .at .reset, 0x0, 0x0, .full⟩,  -- NVS_LOAD_1-4
   ⟨0x2300, 0x1, 1, 0x9, 1, .u16, .ro, .imm, 0x0, 0x0, .full⟩,  -- NVS_STATUS
   ⟨0x2300, 0x1, 1, 0xA, 1, .u8, .w1c, .imm, 0x0, 0x0, .mask 0x3F⟩,  -- NVS_FAULT_CAUSE
   ⟨0x2300, 0x1, 1, 0xB, 1, .u8, .ro, .imm, 0xFF, 0x0, .full⟩,  -- ACTIVE_SLOT
   ⟨0x2300, 0x1, 1, 0xC, 1, .u32, .ro, .imm, 0x0, 0x0, .full⟩,  -- ACTIVE_SEQ
   ⟨0x2300, 0x1, 1, 0xD, 1, .u8, .ro, .imm, 0xFF, 0x0, .full⟩,  -- SYSREC_BANK
   ⟨0x2300, 0x1, 1, 0xE, 1, .dom, .ro, .imm, 0x0, 0x0, .full⟩,  -- SLOT_WEAR
   ⟨0x2300, 0x1, 1, 0xF, 1, .dom, .ro, .imm, 0x0, 0x0, .full⟩,  -- PAGE_WEAR
   ⟨0x2300, 0x1, 1, 0x10, 1, .u32, .ctr, .imm, 0x0, 0x0, .full⟩,  -- STORES
   ⟨0x2300, 0x1, 1, 0x11, 1, .u16, .ctr, .imm, 0x0, 0x0, .full⟩,  -- STORE_FAILS
   ⟨0x2300, 0x1, 1, 0x12, 1, .u16, .ctr, .imm, 0x0, 0x0, .full⟩,  -- STORE_REFUSALS
   ⟨0x2300, 0x1, 1, 0x13, 1, .u32, .ro, .imm, 0x0, 0x0, .full⟩,  -- LAST_STORE_US
   ⟨0x2300, 0x1, 1, 0x14, 1, .u16, .ro, .imm, 0x0, 0x0, .full⟩,  -- SLOT_SKIPPED
   ⟨0x2300, 0x1, 1, 0x15, 1, .u8, .cmd, .imm, 0x0, 0x0, .span 0 99⟩,  -- AREA_WRITE
   ⟨0x2300, 0x1, 1, 0x16, 1, .u8, .cmd, .imm, 0x0, 0x0, .span 0 99⟩,  -- AREA_ERASE
   ⟨0x2300, 0x1, 1, 0x17, 1, .u8, .ro, .imm, 0x3C, 0x0, .full⟩,  -- AREA_FREE_PAGES
   ⟨0x2300, 0x1, 1, 0x18, 1, .dom, .ro, .imm, 0x0, 0x0, .full⟩,  -- AREA_DIRECTORY
   ⟨0x2301, 0x1, 1, 0x0, 1, .u8, .ro, .imm, 0x64, 0x0, .full⟩,  -- HIGHEST_SUB
   ⟨0x2301, 0x1, 1, 0x1, 100, .dom, .ro, .imm, 0x0, 0x0, .full⟩,  -- AREA_00-AREA_99
   ⟨0x2400, 0x1, 1, 0x0, 1, .u8, .ro, .imm, 0x8, 0x0, .full⟩,  -- HIGHEST_SUB
   ⟨0x2400, 0x1, 1, 0x1, 1, .u64, .ro, .imm, 0x0, 0x0, .full⟩,  -- TS_NOW
   ⟨0x2400, 0x1, 1, 0x2, 1, .u8, .rw, .at .frame, 0x0, 0x0, .oneOf [0, 1]⟩,  -- TS_MODE
   ⟨0x2400, 0x1, 1, 0x3, 1, .u8, .ro, .imm, 0x0, 0x0, .full⟩,  -- TS_STATUS
   ⟨0x2400, 0x1, 1, 0x4, 1, .i64, .ro, .imm, 0x0, 0x0, .full⟩,  -- TS_LAST_STEP
   ⟨0x2400, 0x1, 1, 0x5, 1, .i32, .ro, .imm, 0x0, 0x0, .full⟩,  -- TS_DC_ERROR
   ⟨0x2400, 0x1, 1, 0x6, 1, .u16, .rw, .imm, 0x64, 0x0, .span 1 500⟩,  -- TS_SLEW_LIMIT
   ⟨0x2400, 0x1, 1, 0x7, 1, .u16, .ctr, .imm, 0x0, 0x0, .full⟩,  -- TS_UNLOCK_COUNT
   ⟨0x2400, 0x1, 1, 0x8, 1, .u32, .rw, .imm, 0x2710, 0x0, .span 100 1000000⟩,  -- TS_UNLOCK_WINDOW
   ⟨0x2500, 0x1, 1, 0x0, 1, .u8, .ro, .imm, 0xA, 0x0, .full⟩,  -- HIGHEST_SUB
   ⟨0x2500, 0x1, 1, 0x1, 1, .u8, .rw, .quiet, 0x4E, 0x0, .sbAddress⟩,  -- SB_ADDRESS
   ⟨0x2500, 0x1, 1, 0x2, 1, .u8, .rw, .imm, 0x0, 0x0, .span 0 1⟩,  -- SB_PEC
   ⟨0x2500, 0x1, 1, 0x3, 1, .bool, .rw, .imm, 0x1, 0x0, .full⟩,  -- OWL_ENABLE
   ⟨0x2500, 0x1, 1, 0x4, 1, .u32, .ctr, .imm, 0x0, 0x0, .full⟩,  -- SB_TRANSFERS
   ⟨0x2500, 0x1, 1, 0x5, 1, .u16, .ctr, .imm, 0x0, 0x0, .full⟩,  -- SB_NACKS
   ⟨0x2500, 0x1, 1, 0x6, 1, .u16, .ctr, .imm, 0x0, 0x0, .full⟩,  -- SB_PEC_ERRORS
   ⟨0x2500, 0x1, 1, 0x7, 1, .u16, .ctr, .imm, 0x0, 0x0, .full⟩,  -- SB_TIMEOUTS
   ⟨0x2500, 0x1, 1, 0x8, 1, .u8, .rw, .imm, 0x0, 0x0, .span 0 1⟩,  -- BCN_MODE
   ⟨0x2500, 0x1, 1, 0x9, 1, .u8, .rw, .imm, 0x0, 0x0, .full⟩]  -- BCN_USER

/-- Rows 2 of the object tables in the span of rowsPorts. -/
def rowsPorts2 : List Row :=
  [⟨0x2500, 0x1, 1, 0xA, 1, .u8, .ro, .imm, 0x7, 0x0, .full⟩,  -- BCN_NOW
   ⟨0x2600, 0x1, 1, 0x0, 1, .u8, .ro, .imm, 0xA, 0x0, .full⟩,  -- HIGHEST_SUB
   ⟨0x2600, 0x1, 1, 0x1, 1, .u16, .ro, .imm, 0x0, 0x0, .full⟩,  -- PCIE_LINK
   ⟨0x2600, 0x1, 1, 0x2, 1, .u8, .rw, .at .linkRetrain, 0x5, 0x0, .span 1 5⟩,  -- PCIE_MAX_SPEED
   ⟨0x2600, 0x1, 1, 0x3, 1, .u8, .cmd, .imm, 0x0, 0x0, .oneOf [1]⟩,  -- PCIE_RETRAIN
   ⟨0x2600, 0x1, 1, 0x4, 1, .u32, .ctr, .imm, 0x0, 0x0, .full⟩,  -- PCIE_CORRECTABLE
   ⟨0x2600, 0x1, 1, 0x5, 1, .u16, .ctr, .imm, 0x0, 0x0, .full⟩,  -- PCIE_UNCORRECTABLE
   ⟨0x2600, 0x1, 1, 0x6, 1, .u16, .ctr, .imm, 0x0, 0x0, .full⟩,  -- PCIE_POISONED_RX
   ⟨0x2600, 0x1, 1, 0x7, 1, .u16, .ctr, .imm, 0x0, 0x0, .full⟩,  -- PCIE_LINK_DOWNS
   ⟨0x2600, 0x1, 1, 0x8, 1, .u16, .ctr, .imm, 0x0, 0x0, .full⟩,  -- PCIE_FLRS
   ⟨0x2600, 0x1, 1, 0x9, 1, .u32, .ctr, .imm, 0x0, 0x0, .full⟩,  -- PCIE_MSIX_SENT
   ⟨0x2600, 0x1, 1, 0xA, 1, .u16, .ctr, .imm, 0x0, 0x0, .full⟩]  -- PCIE_RETRAINS

/-- Every row of the span 0x2300 to 0x26FF. -/
def rowsPorts : List Row :=
  rowsPorts1 ++ rowsPorts2

/-- Rows 1 of the object tables in the span of rowsStore. -/
def rowsStore1 : List Row :=
  [⟨0x3010, 0x100, 4, 0x0, 1, .u8, .ro, .imm, 0xE, 0x0, .full⟩,  -- HIGHEST_SUB
   ⟨0x3010, 0x100, 4, 0x1, 1, .u8, .rw, .at .wheelWrap, 0x0, 0x0, .span 0 1⟩,  -- PAGE_POLICY
   ⟨0x3010, 0x100, 4, 0x2, 1, .u16, .rw, .at .wheelWrap, 0x10, 0x0, .span 1 1024⟩,  -- PAGE_IDLE
   ⟨0x3010, 0x100, 4, 0x3, 1, .u16, .rw, .at .wheelWrap, 0x100, 0x0, .span 64 16384⟩,  -- AGE_CAP
   ⟨0x3010, 0x100, 4, 0x4, 1, .u8, .rw, .at .wheelWrap, 0x30, 0x0, .span 0 64⟩,  -- WQ_HIGH
   ⟨0x3010, 0x100, 4, 0x5, 1, .u8, .rw, .at .wheelWrap, 0x10, 0x0, .span 0 64⟩,  -- WQ_LOW
   ⟨0x3010, 0x100, 4, 0x6, 1, .u8, .rw, .at .wheelWrap, 0x8, 0x0, .span 1 32⟩,  -- WR_BATCH
   ⟨0x3010, 0x100, 4, 0x7, 1, .u16, .rw, .at .wheelWrap, 0x200, 0x0, .span 64 16384⟩,  -- DRAIN_READ_MAX
   ⟨0x3010, 0x100, 4, 0x8, 1, .u32, .rw, .imm, 0x10000, 0x0, .span 1024 16777216⟩,  -- SCHED_WATCHDOG
   ⟨0x3010, 0x100, 4, 0x9, 1, .u32, .ro, .imm, 0x0, 0x0, .full⟩,  -- QUEUE_LEVELS
   ⟨0x3010, 0x100, 4, 0xA, 1, .u8, .ro, .imm, 0x0, 0x0, .full⟩,  -- SCHED_STATUS
   ⟨0x3010, 0x100, 4, 0xB, 1, .u32, .ctr, .imm, 0x0, 0x0, .full⟩,  -- DRAIN_ENTRIES
   ⟨0x3010, 0x100, 4, 0xC, 1, .u32, .ctr, .imm, 0x0, 0x0, .full⟩,  -- HAZARD_WAITS
   ⟨0x3010, 0x100, 4, 0xD, 1, .u16, .ctr, .imm, 0x0, 0x0, .full⟩,  -- SCHED_WATCHDOG_BITES
   ⟨0x3010, 0x100, 4, 0xE, 1, .u16, .ctr, .imm, 0x0, 0x0, .full⟩,  -- TIMING_BLOCKS
   ⟨0x3020, 0x100, 4, 0x0, 1, .u8, .ro, .imm, 0x1F, 0x0, .full⟩,  -- HIGHEST_SUB
   ⟨0x3020, 0x100, 4, 0x1, 25, .u16, .ro, .imm, 0x0, 0x0, .full⟩,  -- RULE_1-RULE_25
   ⟨0x3020, 0x100, 4, 0x1A, 4, .u16, .ro, .imm, 0x0, 0x0, .full⟩,  -- RULE_1_HOT-RULE_4_HOT
   ⟨0x3020, 0x100, 4, 0x1E, 1, .u16, .ro, .imm, 0x0, 0x0, .full⟩,  -- READ_DATA
   ⟨0x3020, 0x100, 4, 0x1F, 1, .u16, .ro, .imm, 0x0, 0x0, .full⟩,  -- WRITE_DATA
   ⟨0x3030, 0x100, 4, 0x0, 1, .u8, .ro, .imm, 0xC, 0x0, .full⟩,  -- HIGHEST_SUB
   ⟨0x3030, 0x100, 4, 0x1, 1, .u16, .ro, .imm, 0x0, 0x0, .full⟩,  -- WHEEL_POS
   ⟨0x3030, 0x100, 4, 0x2, 1, .u64, .ro, .imm, 0x0, 0x0, .full⟩,  -- WHEEL_WRAP_TS
   ⟨0x3030, 0x100, 4, 0x3, 1, .u16, .ro, .imm, 0x0, 0x0, .full⟩,  -- LS_LEAD
   ⟨0x3030, 0x100, 4, 0x4, 1, .u16, .ro, .imm, 0x0, 0x0, .full⟩,  -- LS_FIXED
   ⟨0x3030, 0x100, 4, 0x5, 1, .u32, .ro, .imm, 0x0, 0x0, .full⟩,  -- LS_POSITIONS
   ⟨0x3030, 0x100, 4, 0x6, 1, .dom, .ro, .at .wheelWrap, 0x0, 0x0, .full⟩,  -- WHEEL_MAP
   ⟨0x3030, 0x100, 4, 0x7, 1, .u32, .ctr, .imm, 0x0, 0x0, .full⟩,  -- LS_SLOTTED
   ⟨0x3030, 0x100, 4, 0x8, 1, .u32, .ctr, .imm, 0x0, 0x0, .full⟩,  -- LATE_NO_SLOT
   ⟨0x3030, 0x100, 4, 0x9, 1, .u16, .ctr, .imm, 0x0, 0x0, .full⟩,  -- LATE_HAZARD
   ⟨0x3030, 0x100, 4, 0xA, 1, .u16, .ctr, .imm, 0x0, 0x0, .full⟩,  -- LATE_STOPPED
   ⟨0x3030, 0x100, 4, 0xB, 1, .u16, .ctr, .imm, 0x0, 0x0, .full⟩,  -- LATE_REPLAY
   ⟨0x3030, 0x100, 4, 0xC, 1, .u16, .ctr, .imm, 0x0, 0x0, .full⟩,  -- LS_REPLAYS
   ⟨0x3040, 0x100, 4, 0x0, 1, .u8, .ro, .imm, 0xA, 0x0, .full⟩,  -- HIGHEST_SUB
   ⟨0x3040, 0x100, 4, 0x1, 1, .u16, .rw, .imm, 0x800, 0x0, .span 256 65535⟩,  -- ARB_WATCHDOG
   ⟨0x3040, 0x100, 4, 0x2, 1, .u32, .rw, .at .wheelWrap, 0x1000, 0x0, .span 1024 1048576⟩,  -- BG_MAX_WAIT
   ⟨0x3040, 0x100, 4, 0x3, 1, .u16, .ro, .imm, 0x10, 0x0, .full⟩,  -- MG_QUOTA
   ⟨0x3040, 0x100, 4, 0x4, 1, .u16, .ro, .imm, 0x0, 0x0, .full⟩,  -- FREE_SLOTS
   ⟨0x3040, 0x100, 4, 0x5, 1, .u16, .ro, .imm, 0x10, 0x0, .full⟩,  -- HIGH_LOAD
   ⟨0x3040, 0x100, 4, 0x6, 1, .u16, .ro, .imm, 0xFFFF, 0x0, .full⟩]  -- HOLDER

/-- Rows 2 of the object tables in the span of rowsStore. -/
def rowsStore2 : List Row :=
  [⟨0x3040, 0x100, 4, 0x7, 1, .u16, .ctr, .imm, 0x0, 0x0, .full⟩,  -- WATCHDOG_BITES
   ⟨0x3040, 0x100, 4, 0x8, 1, .u16, .ro, .imm, 0xFFFF, 0x0, .full⟩,  -- LAST_BITE_HOLDER
   ⟨0x3040, 0x100, 4, 0x9, 1, .u64, .ro, .imm, 0x0, 0x0, .full⟩,  -- LAST_BITE_TS
   ⟨0x3040, 0x100, 4, 0xA, 1, .u32, .ctr, .imm, 0x0, 0x0, .full⟩,  -- IDLE_FREE_SLOTS
   ⟨0x3050, 0x100, 4, 0x0, 1, .u8, .ro, .imm, 0xE, 0x0, .full⟩,  -- HIGHEST_SUB
   ⟨0x3050, 0x100, 4, 0x1, 1, .u8, .rw, .quiet, 0x1, 0x0, .span 0 1⟩,  -- REF_MODE
   ⟨0x3050, 0x100, 4, 0x2, 1, .u8, .rw, .quiet, 0x1, 0x0, .oneOf [1, 2, 4]⟩,  -- REF_MULT_MIN
   ⟨0x3050, 0x100, 4, 0x3, 1, .u8, .rw, .at .refreshInterval, 0x4, 0x0, .oneOf [1, 2, 4]⟩,  -- REF_MULT_MAX
   ⟨0x3050, 0x100, 4, 0x4, 1, .u8, .ro, .imm, 0x5, 0x0, .full⟩,  -- REF_STATE
   ⟨0x3050, 0x100, 4, 0x5, 1, .u8, .ro, .imm, 0x0, 0x0, .full⟩,  -- REF_POS_PER_RANK
   ⟨0x3050, 0x100, 4, 0x6, 1, .u16, .ro, .imm, 0x0, 0x0, .full⟩,  -- REF_INTERVAL
   ⟨0x3050, 0x100, 4, 0x7, 1, .u32, .ro, .imm, 0x0, 0x0, .full⟩,  -- MR4_LAST
   ⟨0x3050, 0x100, 4, 0x8, 1, .u32, .ctr, .imm, 0x0, 0x0, .full⟩,  -- REF_ISSUED
   ⟨0x3050, 0x100, 4, 0x9, 1, .u16, .ctr, .imm, 0x0, 0x0, .full⟩,  -- HOT_ENTRIES
   ⟨0x3050, 0x100, 4, 0xA, 1, .u16, .ctr, .imm, 0x0, 0x0, .full⟩,  -- REF_OVERDUE
   ⟨0x3050, 0x100, 4, 0xB, 1, .u16, .ctr, .imm, 0x0, 0x0, .full⟩,  -- REF_PINNED_COUNT
   ⟨0x3050, 0x100, 4, 0xC, 1, .u16, .ctr, .imm, 0x0, 0x0, .full⟩,  -- MR4_STALE_COUNT
   ⟨0x3050, 0x100, 4, 0xD, 1, .u8, .w1c, .imm, 0x0, 0x0, .mask 0xF⟩,  -- REF_FAULT_CAUSE
   ⟨0x3050, 0x100, 4, 0xE, 1, .u16, .ctr, .imm, 0x0, 0x0, .full⟩,  -- REF_CATCHUPS
   ⟨0x3060, 0x100, 4, 0x0, 1, .u8, .ro, .imm, 0x11, 0x0, .full⟩,  -- HIGHEST_SUB
   ⟨0x3060, 0x100, 4, 0x1, 1, .u8, .rw, .quiet, 0x0, 0x0, .span 0 1⟩,  -- NR_MODE
   ⟨0x3060, 0x100, 4, 0x2, 1, .u8, .rw, .quiet, 0x1, 0x0, .oneOf [1, 2]⟩,  -- NR_DISTANCE
   ⟨0x3060, 0x100, 4, 0x3, 1, .u16, .rw, .quiet, 0x100, 0x0, .span 0 4095⟩,  -- NR_K_MAX
   ⟨0x3060, 0x100, 4, 0x4, 1, .u16, .rw, .at .refreshInterval, 0x40, 0x0, .span 0 4095⟩,  -- NR_K_FLOOR
   ⟨0x3060, 0x100, 4, 0x5, 1, .u16, .ro, .imm, 0x40, 0x0, .full⟩,  -- NR_K_EFF
   ⟨0x3060, 0x100, 4, 0x6, 1, .u8, .rw, .quiet, 0x0, 0x0, .span 0 8⟩,  -- NR_SPARE
   ⟨0x3060, 0x100, 4, 0x7, 1, .u16, .rw, .at .refreshInterval, 0x200, 0x0, .span 16 65535⟩,  -- NR_BOOST_ACTS
   ⟨0x3060, 0x100, 4, 0x8, 1, .u16, .ro, .imm, 0x0, 0x0, .full⟩,  -- NR_POSITIONS
   ⟨0x3060, 0x100, 4, 0x9, 1, .u8, .rw, .quiet, 0x0, 0x0, .span 0 1⟩,  -- ADJ_MODE
   ⟨0x3060, 0x100, 4, 0xA, 1, .dom, .rw, .quiet, 0x0, 0x0, .full⟩,  -- ADJ_PERM
   ⟨0x3060, 0x100, 4, 0xB, 1, .u32, .rw, .quiet, 0x0, 0x0, .mask 0x1F01FFFF⟩,  -- ADJ_XOR
   ⟨0x3060, 0x100, 4, 0xC, 1, .u8, .ro, .imm, 0x1, 0x0, .full⟩,  -- NR_STATUS
   ⟨0x3060, 0x100, 4, 0xD, 1, .u32, .ctr, .imm, 0x0, 0x0, .full⟩,  -- NR_DRAWS
   ⟨0x3060, 0x100, 4, 0xE, 1, .u32, .ctr, .imm, 0x0, 0x0, .full⟩,  -- NR_ROWS
   ⟨0x3060, 0x100, 4, 0xF, 1, .u32, .ctr, .imm, 0x0, 0x0, .full⟩,  -- NR_DEFERRED
   ⟨0x3060, 0x100, 4, 0x10, 1, .u16, .ctr, .imm, 0x0, 0x0, .full⟩,  -- NR_DROPPED
   ⟨0x3060, 0x100, 4, 0x11, 1, .u16, .ctr, .imm, 0x0, 0x0, .full⟩,  -- NR_PINNED_COUNT
   ⟨0x3070, 0x100, 4, 0x0, 1, .u8, .ro, .imm, 0x12, 0x0, .full⟩,  -- HIGHEST_SUB
   ⟨0x3070, 0x100, 4, 0x1, 1, .u8, .rw, .at .reset, 0xF, 0x0, .maskWith 0x0F 0x08⟩,  -- TRAIN_OP_MASK
   ⟨0x3070, 0x100, 4, 0x2, 1, .u8, .cmd, .imm, 0x0, 0x0, .oneOf [1, 2]⟩]  -- TRAIN_CMD

/-- Rows 3 of the object tables in the span of rowsStore. -/
def rowsStore3 : List Row :=
  [⟨0x3070, 0x100, 4, 0x3, 1, .u8, .ro, .imm, 0x0, 0x0, .full⟩,  -- TRAIN_STATE
   ⟨0x3070, 0x100, 4, 0x4, 1, .u8, .ro, .imm, 0x0, 0x0, .full⟩,  -- TRAIN_STEP
   ⟨0x3070, 0x100, 4, 0x5, 1, .u32, .ro, .imm, 0x0, 0x0, .full⟩,  -- TRAIN_FAIL
   ⟨0x3070, 0x100, 4, 0x6, 1, .u8, .ro, .imm, 0x0, 0x0, .full⟩,  -- LAST_WAY
   ⟨0x3070, 0x100, 4, 0x7, 1, .u32, .ro, .imm, 0x0, 0x0, .full⟩,  -- LAST_TRAIN_US
   ⟨0x3070, 0x100, 4, 0x8, 1, .u8, .rw, .at .training, 0x13, 0x0, .span 8 48⟩,  -- EYE_MIN
   ⟨0x3070, 0x100, 4, 0x9, 1, .u8, .rw, .at .training, 0x6, 0x0, .span 2 20⟩,  -- VREF_MIN
   ⟨0x3070, 0x100, 4, 0xA, 1, .u8, .rw, .imm, 0x1, 0x0, .span 0 1⟩,  -- RETRAIN_POLICY
   ⟨0x3070, 0x100, 4, 0xB, 1, .u8, .ro, .imm, 0x0, 0x0, .full⟩,  -- SET_VALID
   ⟨0x3070, 0x100, 4, 0xC, 1, .u32, .ro, .imm, 0x0, 0x0, .full⟩,  -- MARGIN_SUMMARY
   ⟨0x3070, 0x100, 4, 0xD, 1, .u8, .w1c, .imm, 0x0, 0x0, .mask 0x7⟩,  -- PHY_FAULT_CAUSE
   ⟨0x3070, 0x100, 4, 0xE, 1, .bool, .ro, .imm, 0x0, 0x0, .full⟩,  -- SAVE_PENDING
   ⟨0x3070, 0x100, 4, 0xF, 1, .u16, .ctr, .imm, 0x0, 0x0, .full⟩,  -- TRAININGS
   ⟨0x3070, 0x100, 4, 0x10, 1, .u16, .ctr, .imm, 0x0, 0x0, .full⟩,  -- TRAIN_FAILURES
   ⟨0x3070, 0x100, 4, 0x11, 1, .u16, .ctr, .imm, 0x0, 0x0, .full⟩,  -- RESUMES
   ⟨0x3070, 0x100, 4, 0x12, 1, .u16, .ctr, .imm, 0x0, 0x0, .full⟩,  -- RESUME_CHECK_FAILS
   ⟨0x3080, 0x100, 4, 0x0, 1, .u8, .ro, .imm, 0x4, 0x0, .full⟩,  -- HIGHEST_SUB
   ⟨0x3080, 0x100, 4, 0x1, 4, .dom, .ro, .imm, 0x0, 0x0, .full⟩,  -- TRAINED_SET_OP0-OP3
   ⟨0x3090, 0x100, 4, 0x0, 1, .u8, .ro, .imm, 0x9, 0x0, .full⟩,  -- HIGHEST_SUB
   ⟨0x3090, 0x100, 4, 0x1, 1, .bool, .rw, .at .wheelWrap, 0x1, 0x0, .full⟩,  -- TRACK_ENABLE
   ⟨0x3090, 0x100, 4, 0x2, 1, .u8, .rw, .at .wheelWrap, 0x10, 0x0, .span 4 32⟩,  -- DRIFT_WINDOW
   ⟨0x3090, 0x100, 4, 0x3, 1, .u8, .rw, .at .wheelWrap, 0x40, 0x0, .span 16 96⟩,  -- GATE_WINDOW
   ⟨0x3090, 0x100, 4, 0x4, 1, .u8, .ro, .imm, 0x4, 0x0, .full⟩,  -- DRIFT_STATUS
   ⟨0x3090, 0x100, 4, 0x5, 1, .u8, .ctr, .imm, 0x0, 0x0, .full⟩,  -- DRIFT_MAX
   ⟨0x3090, 0x100, 4, 0x6, 1, .u32, .ctr, .imm, 0x0, 0x0, .full⟩,  -- TRACK_UPDATES
   ⟨0x3090, 0x100, 4, 0x7, 1, .u16, .ctr, .imm, 0x0, 0x0, .full⟩,  -- DRIFT_PINNED_COUNT
   ⟨0x3090, 0x100, 4, 0x8, 1, .dom, .ro, .imm, 0x0, 0x0, .full⟩,  -- LANE_OFFSETS
   ⟨0x3090, 0x100, 4, 0x9, 1, .u16, .ctr, .imm, 0x0, 0x0, .full⟩,  -- TRACK_STALE_COUNT
   ⟨0x30A0, 0x100, 4, 0x0, 1, .u8, .ro, .imm, 0x11, 0x0, .full⟩,  -- HIGHEST_SUB
   ⟨0x30A0, 0x100, 4, 0x1, 1, .u8, .rw, .at .reset, 0x0, 0x0, .span 0 1⟩,  -- INIT_MODE
   ⟨0x30A0, 0x100, 4, 0x2, 1, .u8, .ro, .imm, 0x0, 0x0, .full⟩,  -- FILL_STATE
   ⟨0x30A0, 0x100, 4, 0x3, 1, .u64, .ro, .imm, 0x0, 0x0, .full⟩,  -- FILL_POSITION
   ⟨0x30A0, 0x100, 4, 0x4, 1, .bool, .rw, .imm, 0x1, 0x0, .full⟩,  -- SCRUB_ENABLE
   ⟨0x30A0, 0x100, 4, 0x5, 1, .u32, .rw, .at .scrubPass, 0x15180, 0x0, .span 60 2592000⟩,  -- SCRUB_PERIOD
   ⟨0x30A0, 0x100, 4, 0x6, 1, .u64, .ro, .imm, 0x0, 0x0, .full⟩,  -- SCRUB_POSITION
   ⟨0x30A0, 0x100, 4, 0x7, 1, .u8, .ro, .imm, 0x0, 0x0, .full⟩,  -- SCRUB_STATUS
   ⟨0x30A0, 0x100, 4, 0x8, 1, .u32, .ctr, .imm, 0x0, 0x0, .full⟩,  -- TRANSIENT_READS
   ⟨0x30A0, 0x100, 4, 0x9, 1, .u32, .ctr, .imm, 0x0, 0x0, .full⟩,  -- PERSISTENT_READS
   ⟨0x30A0, 0x100, 4, 0xA, 1, .u32, .ctr, .imm, 0x0, 0x0, .full⟩,  -- WCRC_RETRIES
   ⟨0x30A0, 0x100, 4, 0xB, 1, .u16, .ctr, .imm, 0x0, 0x0, .full⟩]  -- WCRC_FAILED

/-- Rows 4 of the object tables in the span of rowsStore. -/
def rowsStore4 : List Row :=
  [⟨0x30A0, 0x100, 4, 0xC, 1, .u32, .ctr, .imm, 0x0, 0x0, .full⟩,  -- REREADS
   ⟨0x30A0, 0x100, 4, 0xD, 1, .u32, .ctr, .imm, 0x0, 0x0, .full⟩,  -- POISON_WRITTEN
   ⟨0x30A0, 0x100, 4, 0xE, 1, .u32, .ctr, .imm, 0x0, 0x0, .full⟩,  -- SCRUB_PASSES
   ⟨0x30A0, 0x100, 4, 0xF, 1, .u32, .ctr, .imm, 0x0, 0x0, .full⟩,  -- SCRUB_TRANSIENT
   ⟨0x30A0, 0x100, 4, 0x10, 1, .u32, .ctr, .imm, 0x0, 0x0, .full⟩,  -- SCRUB_PERSISTENT
   ⟨0x30A0, 0x100, 4, 0x11, 1, .u8, .w1c, .imm, 0x0, 0x0, .mask 0x7⟩,  -- PARITY_FAULT_CAUSE
   ⟨0x30B0, 0x100, 4, 0x0, 1, .u8, .ro, .imm, 0xF, 0x0, .full⟩,  -- HIGHEST_SUB
   ⟨0x30B0, 0x100, 4, 0x1, 1, .u64, .rw, .imm, 0x0, 0x0, .mask 0xFFFFFFFFFF⟩,  -- FLIP_MASK_A
   ⟨0x30B0, 0x100, 4, 0x2, 1, .u64, .rw, .imm, 0x0, 0x0, .mask 0xFFFFFFFFFF⟩,  -- FLIP_MASK_B
   ⟨0x30B0, 0x100, 4, 0x3, 1, .u16, .rw, .imm, 0xFFFF, 0x0, .full⟩,  -- FLIP_BEATS_A
   ⟨0x30B0, 0x100, 4, 0x4, 1, .u16, .rw, .imm, 0xFFFF, 0x0, .full⟩,  -- FLIP_BEATS_B
   ⟨0x30B0, 0x100, 4, 0x5, 1, .u8, .cmd, .imm, 0x0, 0x0, .span 0 3⟩,  -- FLIP_ARM
   ⟨0x30B0, 0x100, 4, 0x6, 1, .u8, .ro, .imm, 0x0, 0x0, .full⟩,  -- FLIP_STATUS
   ⟨0x30B0, 0x100, 4, 0x7, 1, .u64, .ro, .imm, 0xFFFFFFFFFFFFFFFF, 0x0, .full⟩,  -- FLIP_LAST_A
   ⟨0x30B0, 0x100, 4, 0x8, 1, .u64, .ro, .imm, 0xFFFFFFFFFFFFFFFF, 0x0, .full⟩,  -- FLIP_LAST_B
   ⟨0x30B0, 0x100, 4, 0x9, 1, .u8, .rw, .imm, 0x0, 0x0, .mask 3⟩,  -- SPLIT_ENABLE
   ⟨0x30B0, 0x100, 4, 0xA, 1, .u16, .rw, .imm, 0xFFFF, 0x0, .full⟩,  -- SPLIT_REQUESTER
   ⟨0x30B0, 0x100, 4, 0xB, 1, .dom, .rw, .imm, 0x0, 0x0, .full⟩,  -- SPLIT_CHECK
   ⟨0x30B0, 0x100, 4, 0xC, 1, .u64, .cmd, .imm, 0x0, 0x0, .full⟩,  -- PEEK_ADDRESS
   ⟨0x30B0, 0x100, 4, 0xD, 1, .dom, .ro, .imm, 0x0, 0x0, .full⟩,  -- PEEK_DATA
   ⟨0x30B0, 0x100, 4, 0xE, 1, .u64, .ro, .imm, 0x0, 0x0, .full⟩,  -- PEEK_MISMATCH
   ⟨0x30B0, 0x100, 4, 0xF, 1, .u16, .ctr, .imm, 0x0, 0x0, .full⟩]  -- FLIP_INJECTIONS

/-- Every row of the span 0x3000 to 0x33FF. -/
def rowsStore : List Row :=
  rowsStore1 ++ rowsStore2 ++ rowsStore3 ++ rowsStore4

/-- Rows 1 of the object tables in the span of rowsMap. -/
def rowsMap1 : List Row :=
  [⟨0x3400, 0x1, 1, 0x0, 1, .u8, .ro, .imm, 0x10, 0x0, .full⟩,  -- HIGHEST_SUB
   ⟨0x3400, 0x1, 1, 0x1, 1, .u8, .rw, .quiet, 0xF, 0x0, .mask 15⟩,  -- INTERLEAVE_MASK
   ⟨0x3400, 0x1, 1, 0x2, 1, .u8, .rw, .quiet, 0x6, 0x0, .span 6 20⟩,  -- INTERLEAVE_GRAIN
   ⟨0x3400, 0x1, 1, 0x3, 1, .bool, .rw, .quiet, 0x1, 0x0, .full⟩,  -- BANK_HASH
   ⟨0x3400, 0x1, 1, 0x4, 1, .u64, .ro, .imm, 0x0, 0x0, .full⟩,  -- MAP_TOP
   ⟨0x3400, 0x1, 1, 0x5, 4, .u64, .ro, .imm, 0x0, 0x0, .full⟩,  -- CAPACITY_SC0-SC3
   ⟨0x3400, 0x1, 1, 0x9, 1, .u64, .ro, .imm, 0x0, 0x0, .full⟩,  -- INTERLEAVED_TOP
   ⟨0x3400, 0x1, 1, 0xA, 4, .u64, .ro, .imm, 0xFFFFFFFFFFFFFFFF, 0x0, .full⟩,  -- LINEAR_BASE_SC0-SC3
   ⟨0x3400, 0x1, 1, 0xE, 1, .u64, .rw, .imm, 0x0, 0x0, .full⟩,  -- DECODE_ADDRESS
   ⟨0x3400, 0x1, 1, 0xF, 1, .u64, .ro, .imm, 0x0, 0x0, .full⟩,  -- DECODE_RESULT
   ⟨0x3400, 0x1, 1, 0x10, 1, .u8, .ro, .imm, 0x0, 0x0, .full⟩,  -- MAP_STATUS
   ⟨0x3410, 0x1, 16, 0x0, 1, .u8, .ro, .imm, 0x5, 0x0, .full⟩,  -- HIGHEST_SUB
   ⟨0x3410, 0x1, 16, 0x1, 1, .u64, .rw, .at .frame, 0x0, 0x0, .mult 0x100000⟩,  -- REGION_BASE
   ⟨0x3410, 0x1, 16, 0x2, 1, .u64, .rw, .at .frame, 0x0, 0x0, .mult 0x100000⟩,  -- REGION_SIZE
   ⟨0x3410, 0x1, 16, 0x3, 1, .u16, .rw, .at .frame, 0x0, 0x0, .full⟩,  -- REGION_PORTS
   ⟨0x3410, 0x1, 16, 0x4, 1, .bool, .ro, .imm, 0x0, 0x0, .full⟩,  -- REGION_ACTIVE
   ⟨0x3410, 0x1, 16, 0x5, 1, .u32, .ctr, .imm, 0x0, 0x0, .full⟩,  -- REGION_DENIALS
   ⟨0x3480, 0x1, 1, 0x0, 1, .u8, .ro, .imm, 0x9, 0x0, .full⟩,  -- HIGHEST_SUB
   ⟨0x3480, 0x1, 1, 0x1, 1, .u8, .ro, .imm, 0x0, 0x0, .full⟩,  -- LOCKS_HELD
   ⟨0x3480, 0x1, 1, 0x2, 1, .u16, .ro, .imm, 0x0, 0x0, .full⟩,  -- LOCK_WAITERS
   ⟨0x3480, 0x1, 1, 0x3, 1, .u32, .ro, .imm, 0x0, 0x0, .full⟩,  -- LOG_WRITTEN
   ⟨0x3480, 0x1, 1, 0x4, 1, .dom, .ro, .imm, 0x0, 0x0, .full⟩,  -- LOCK_LOG
   ⟨0x3480, 0x1, 1, 0x5, 1, .u32, .ctr, .imm, 0x0, 0x0, .full⟩,  -- LOCK_GRANTS
   ⟨0x3480, 0x1, 1, 0x6, 1, .u16, .ctr, .imm, 0x0, 0x0, .full⟩,  -- LOCK_EXPIRED
   ⟨0x3480, 0x1, 1, 0x7, 1, .u16, .ctr, .imm, 0x0, 0x0, .full⟩,  -- LOCK_ORPHANED
   ⟨0x3480, 0x1, 1, 0x8, 1, .u16, .ctr, .imm, 0x0, 0x0, .full⟩,  -- LOCK_DENIED
   ⟨0x3480, 0x1, 1, 0x9, 1, .u8, .cmd, .imm, 0x0, 0x0, .oneOf [1]⟩,  -- LOCK_RELEASE_ALL
   ⟨0x3500, 0x1, 1, 0x0, 1, .u8, .ro, .imm, 0x3, 0x0, .full⟩,  -- HIGHEST_SUB
   ⟨0x3500, 0x1, 1, 0x1, 1, .u32, .ro, .imm, 0x0, 0x0, .full⟩,  -- PLOG_WRITTEN
   ⟨0x3500, 0x1, 1, 0x2, 1, .dom, .ro, .imm, 0x0, 0x0, .full⟩,  -- PARITY_LOG
   ⟨0x3500, 0x1, 1, 0x3, 1, .u32, .ctr, .imm, 0x0, 0x0, .full⟩,  -- PLOG_SUPPRESSED
   ⟨0x3510, 0x1, 1, 0x0, 1, .u8, .ro, .imm, 0x6, 0x0, .full⟩,  -- HIGHEST_SUB
   ⟨0x3510, 0x1, 1, 0x1, 1, .u16, .ro, .imm, 0x0, 0x0, .full⟩,  -- RETIRE_COUNT
   ⟨0x3510, 0x1, 1, 0x2, 1, .u64, .cmd, .imm, 0x0, 0x0, .full⟩,  -- RETIRE_ADD
   ⟨0x3510, 0x1, 1, 0x3, 1, .u64, .cmd, .imm, 0x0, 0x0, .full⟩,  -- RETIRE_REMOVE
   ⟨0x3510, 0x1, 1, 0x4, 1, .dom, .ro, .imm, 0x0, 0x0, .full⟩,  -- RETIRE_TABLE
   ⟨0x3510, 0x1, 1, 0x5, 1, .u32, .ctr, .imm, 0x0, 0x0, .full⟩,  -- RETIRED_HITS
   ⟨0x3510, 0x1, 1, 0x6, 1, .u8, .cmd, .imm, 0x0, 0x0, .oneOf [1]⟩]  -- RETIRE_CLEAR

/-- Every row of the span 0x3400 to 0x35FF. -/
def rowsMap : List Row :=
  rowsMap1

/-- Rows 1 of the object tables in the span of rowsProbe. -/
def rowsProbe1 : List Row :=
  [⟨0x3800, 0x100, 2, 0x0, 1, .u8, .ro, .imm, 0x9, 0x0, .full⟩,  -- HIGHEST_SUB
   ⟨0x3800, 0x100, 2, 0x1, 1, .bool, .rw, .imm, 0x0, 0x0, .full⟩,  -- PB_ENABLE
   ⟨0x3800, 0x100, 2, 0x2, 1, .u8, .ro, .imm, 0x0, 0x0, .full⟩,  -- PB_STATE
   ⟨0x3800, 0x100, 2, 0x3, 1, .u8, .cmd, .imm, 0x0, 0x0, .oneOf [1, 2]⟩,  -- PB_CURL
   ⟨0x3800, 0x100, 2, 0x4, 1, .u8, .ro, .imm, 0x0, 0x0, .full⟩,  -- CURL_CAUSE
   ⟨0x3800, 0x100, 2, 0x5, 1, .u8, .rw, .quiet, 0x28, 0x0, .evenSpan 20 127⟩,  -- PB_CL
   ⟨0x3800, 0x100, 2, 0x6, 1, .u8, .rw, .quiet, 0x2, 0x0, .span 1 4⟩,  -- PB_RD_PREAMBLE
   ⟨0x3800, 0x100, 2, 0x7, 1, .u8, .rw, .quiet, 0x2, 0x0, .span 2 4⟩,  -- PB_WR_PREAMBLE
   ⟨0x3800, 0x100, 2, 0x8, 1, .u16, .ctr, .imm, 0x0, 0x0, .full⟩,  -- CURLS
   ⟨0x3800, 0x100, 2, 0x9, 1, .u16, .ctr, .imm, 0x0, 0x0, .full⟩,  -- CLAMP_EVENTS
   ⟨0x3801, 0x100, 2, 0x0, 1, .u8, .ro, .imm, 0xA, 0x0, .full⟩,  -- HIGHEST_SUB
   ⟨0x3801, 0x100, 2, 0x1, 8, .u8, .rw, .quiet, 0x0, 0x0, .oneOf [0, 1, 2, 3, 4, 5]⟩,  -- SITE_CONFIG_0-7
   ⟨0x3801, 0x100, 2, 0x9, 1, .u8, .w1c, .imm, 0x0, 0x0, .mask 0xFF⟩,  -- ALERT_STATUS
   ⟨0x3801, 0x100, 2, 0xA, 1, .u32, .ctr, .imm, 0x0, 0x0, .full⟩,  -- ALERT_COUNT
   ⟨0x3802, 0x100, 2, 0x0, 1, .u8, .ro, .imm, 0xB, 0x0, .full⟩,  -- HIGHEST_SUB
   ⟨0x3802, 0x100, 2, 0x1, 1, .u8, .rw, .quiet, 0x20, 0x0, .span 1 64⟩,  -- SEQ_PREFILL
   ⟨0x3802, 0x100, 2, 0x2, 1, .u8, .ro, .imm, 0x0, 0x0, .full⟩,  -- SEQ_STATUS
   ⟨0x3802, 0x100, 2, 0x3, 1, .u8, .ro, .imm, 0x0, 0x0, .full⟩,  -- QUEUE_LEVEL
   ⟨0x3802, 0x100, 2, 0x4, 1, .u32, .ctr, .imm, 0x0, 0x0, .full⟩,  -- BURSTS
   ⟨0x3802, 0x100, 2, 0x5, 1, .u32, .ctr, .imm, 0x0, 0x0, .full⟩,  -- COMMANDS
   ⟨0x3802, 0x100, 2, 0x6, 1, .u32, .ctr, .imm, 0x0, 0x0, .full⟩,  -- UNDERRUNS
   ⟨0x3802, 0x100, 2, 0x7, 1, .u32, .ctr, .imm, 0x0, 0x0, .full⟩,  -- DATA_UNDERRUNS
   ⟨0x3802, 0x100, 2, 0x8, 1, .u16, .ctr, .imm, 0x0, 0x0, .full⟩,  -- MALFORMED
   ⟨0x3802, 0x100, 2, 0x9, 1, .u8, .ro, .imm, 0xA, 0x0, .full⟩,  -- PB_PIPE
   ⟨0x3802, 0x100, 2, 0xA, 1, .dom, .ro, .imm, 0x0, 0x0, .full⟩,  -- MARK_LOG
   ⟨0x3802, 0x100, 2, 0xB, 1, .u32, .ro, .imm, 0x0, 0x0, .full⟩,  -- MARKS_WRITTEN
   ⟨0x3803, 0x100, 2, 0x0, 1, .u8, .ro, .imm, 0x8, 0x0, .full⟩,  -- HIGHEST_SUB
   ⟨0x3803, 0x100, 2, 0x1, 1, .u8, .rw, .at .burst, 0x0, 0x0, .span 0 3⟩,  -- GUARD_MODE
   ⟨0x3803, 0x100, 2, 0x2, 1, .bool, .rw, .at .burst, 0x0, 0x0, .full⟩,  -- GUARD_ALLOW_BYPASS
   ⟨0x3803, 0x100, 2, 0x3, 1, .dom, .rw, .at .burst, 0x0, 0x0, .full⟩,  -- GUARD_RULES
   ⟨0x3803, 0x100, 2, 0x4, 1, .u32, .ctr, .imm, 0x0, 0x0, .full⟩,  -- GUARD_HOLDS
   ⟨0x3803, 0x100, 2, 0x5, 1, .u32, .ctr, .imm, 0x0, 0x0, .full⟩,  -- GUARD_BLOCKS
   ⟨0x3803, 0x100, 2, 0x6, 1, .u32, .ctr, .imm, 0x0, 0x0, .full⟩,  -- GUARD_LOGGED
   ⟨0x3803, 0x100, 2, 0x7, 1, .u32, .ctr, .imm, 0x0, 0x0, .full⟩,  -- GUARD_BYPASSED
   ⟨0x3803, 0x100, 2, 0x8, 1, .u64, .ro, .imm, 0x0, 0x0, .full⟩,  -- GUARD_LAST
   ⟨0x3804, 0x100, 2, 0x0, 1, .u8, .ro, .imm, 0x6, 0x0, .full⟩,  -- HIGHEST_SUB
   ⟨0x3804, 0x100, 2, 0x1, 1, .u8, .rw, .imm, 0xFF, 0x0, .full⟩,  -- MR_SITES
   ⟨0x3804, 0x100, 2, 0x2, 1, .u8, .rw, .imm, 0x0, 0x0, .full⟩,  -- MR_ADDRESS
   ⟨0x3804, 0x100, 2, 0x3, 1, .u8, .rw, .imm, 0x0, 0x0, .full⟩,  -- MR_DATA
   ⟨0x3804, 0x100, 2, 0x4, 1, .u8, .cmd, .imm, 0x0, 0x0, .oneOf [1, 2]⟩]  -- MR_CMD

/-- Rows 2 of the object tables in the span of rowsProbe. -/
def rowsProbe2 : List Row :=
  [⟨0x3804, 0x100, 2, 0x5, 1, .dom, .ro, .imm, 0x0, 0x0, .full⟩,  -- MR_RESULT
   ⟨0x3804, 0x100, 2, 0x6, 1, .u8, .ro, .imm, 0x0, 0x0, .full⟩,  -- MR_RESULT_VALID
   ⟨0x3810, 0x100, 2, 0x0, 1, .u8, .ro, .imm, 0x9, 0x0, .full⟩,  -- HIGHEST_SUB
   ⟨0x3810, 0x100, 2, 0x1, 1, .dom, .rw, .quiet, 0x0, 0x0, .full⟩,  -- DRIVE_DESKEW
   ⟨0x3810, 0x100, 2, 0x2, 1, .dom, .rw, .quiet, 0x0, 0x0, .full⟩,  -- STROBE_DESKEW
   ⟨0x3810, 0x100, 2, 0x3, 1, .dom, .rw, .at .burst, 0x0, 0x0, .full⟩,  -- DRIVE_OFFSET
   ⟨0x3810, 0x100, 2, 0x4, 1, .dom, .rw, .at .burst, 0x0, 0x0, .full⟩,  -- STROBE_OFFSET
   ⟨0x3810, 0x100, 2, 0x5, 1, .i16, .rw, .at .burst, 0x0, 0x0, .full⟩,  -- DRIVE_SHIFT_DATA
   ⟨0x3810, 0x100, 2, 0x6, 1, .i16, .rw, .at .burst, 0x0, 0x0, .full⟩,  -- DRIVE_SHIFT_CA
   ⟨0x3810, 0x100, 2, 0x7, 1, .i16, .rw, .at .burst, 0x0, 0x0, .full⟩,  -- STROBE_SHIFT
   ⟨0x3810, 0x100, 2, 0x8, 1, .dom, .rw, .quiet, 0x0, 0x0, .full⟩,  -- ROUND_TRIP
   ⟨0x3810, 0x100, 2, 0x9, 1, .u16, .ctr, .imm, 0x0, 0x0, .full⟩,  -- EDGE_CLAMPS
   ⟨0x3811, 0x100, 2, 0x0, 1, .u8, .ro, .imm, 0xB, 0x0, .full⟩,  -- HIGHEST_SUB
   ⟨0x3811, 0x100, 2, 0x1, 1, .u8, .cmd, .imm, 0x0, 0x0, .oneOf [1, 2]⟩,  -- CAL_CMD
   ⟨0x3811, 0x100, 2, 0x2, 1, .u8, .rw, .imm, 0x1, 0x0, .span 0 1⟩,  -- CAL_AUTO
   ⟨0x3811, 0x100, 2, 0x3, 1, .u8, .ro, .imm, 0x0, 0x0, .full⟩,  -- CAL_STATUS
   ⟨0x3811, 0x100, 2, 0x4, 1, .i16, .ro, .imm, 0x0, 0x0, .full⟩,  -- CAL_DRIFT
   ⟨0x3811, 0x100, 2, 0x5, 1, .u8, .rw, .imm, 0x6, 0x0, .span 2 10⟩,  -- CAL_DRIFT_LIMIT
   ⟨0x3811, 0x100, 2, 0x6, 1, .u8, .rw, .imm, 0x5, 0x0, .span 1 20⟩,  -- CAL_TEMP_LIMIT
   ⟨0x3811, 0x100, 2, 0x7, 1, .i16, .ro, .imm, 0x0, 0x0, .full⟩,  -- CAL_TEMP
   ⟨0x3811, 0x100, 2, 0x8, 1, .u16, .ro, .imm, 0x0, 0x0, .full⟩,  -- CAL_VDDQ
   ⟨0x3811, 0x100, 2, 0x9, 1, .u16, .ro, .imm, 0x0, 0x0, .full⟩,  -- CAL_WORST
   ⟨0x3811, 0x100, 2, 0xA, 1, .u16, .ctr, .imm, 0x0, 0x0, .full⟩,  -- CALIBRATIONS
   ⟨0x3811, 0x100, 2, 0xB, 1, .u8, .w1c, .imm, 0x0, 0x0, .mask 0x7⟩,  -- CAL_FAULT_CAUSE
   ⟨0x3812, 0x100, 2, 0x0, 1, .u8, .ro, .imm, 0xA, 0x0, .full⟩,  -- HIGHEST_SUB
   ⟨0x3812, 0x100, 2, 0x1, 1, .bool, .rw, .quiet, 0x1, 0x0, .full⟩,  -- EXPECT_BROADCAST
   ⟨0x3812, 0x100, 2, 0x2, 1, .bool, .rw, .quiet, 0x0, 0x0, .full⟩,  -- MASK_DYNAMIC
   ⟨0x3812, 0x100, 2, 0x3, 1, .u16, .rw, .at .burst, 0x0, 0x0, .full⟩,  -- WINDOW_WIDTH
   ⟨0x3812, 0x100, 2, 0x4, 1, .u8, .rw, .imm, 0xFF, 0x0, .full⟩,  -- FAIL_SITES
   ⟨0x3812, 0x100, 2, 0x5, 1, .u8, .rw, .imm, 0x0, 0x0, .span 0 1⟩,  -- FAIL_MODE
   ⟨0x3812, 0x100, 2, 0x6, 1, .u16, .rw, .imm, 0x8, 0x0, .span 4 1000⟩,  -- FAIL_HOLD
   ⟨0x3812, 0x100, 2, 0x7, 1, .u8, .cmd, .imm, 0x0, 0x0, .oneOf [1]⟩,  -- FAIL_CLEAR
   ⟨0x3812, 0x100, 2, 0x8, 1, .u32, .ctr, .imm, 0x0, 0x0, .full⟩,  -- MAP_DROPPED
   ⟨0x3812, 0x100, 2, 0x9, 1, .u32, .ctr, .imm, 0x0, 0x0, .full⟩,  -- NO_COMPARE_COUNT
   ⟨0x3812, 0x100, 2, 0xA, 1, .u32, .ctr, .imm, 0x0, 0x0, .full⟩,  -- RECORDS_DISCARDED
   ⟨0x3818, 0x1, 8, 0x0, 1, .u8, .ro, .imm, 0xD, 0x0, .full⟩,  -- HIGHEST_SUB
   ⟨0x3818, 0x1, 8, 0x1, 1, .u8, .rw, .at .burst, 0x0, 0x0, .span 0 1⟩,  -- COMPARE_MODE
   ⟨0x3818, 0x1, 8, 0x2, 1, .u8, .rw, .at .burst, 0x0, 0x0, .span 0 2⟩,  -- CAPTURE_MAP
   ⟨0x3818, 0x1, 8, 0x3, 1, .u16, .rw, .at .burst, 0x0, 0x0, .full⟩,  -- PIN_MASK
   ⟨0x3818, 0x1, 8, 0x4, 1, .u8, .rw, .at .burst, 0x0, 0x0, .span 0 1⟩]  -- FF_SCOPE

/-- Rows 3 of the object tables in the span of rowsProbe. -/
def rowsProbe3 : List Row :=
  [⟨0x3818, 0x1, 8, 0x5, 1, .u8, .cmd, .imm, 0x0, 0x0, .oneOf [1]⟩,  -- FF_ARM
   ⟨0x3818, 0x1, 8, 0x6, 1, .bool, .rw, .at .burst, 0x1, 0x0, .full⟩,  -- COUNT_RECORDS
   ⟨0x3818, 0x1, 8, 0x7, 1, .u32, .ctr, .imm, 0x0, 0x0, .full⟩,  -- FAIL_BITS
   ⟨0x3818, 0x1, 8, 0x8, 1, .u32, .ctr, .imm, 0x0, 0x0, .full⟩,  -- FAIL_DBURSTS
   ⟨0x3818, 0x1, 8, 0x9, 1, .u32, .ctr, .imm, 0x0, 0x0, .full⟩,  -- COMPARED_DBURSTS
   ⟨0x3818, 0x1, 8, 0xA, 1, .u64, .ro, .imm, 0x0, 0x0, .full⟩,  -- FIRST_FAIL_TS
   ⟨0x3818, 0x1, 8, 0xB, 1, .u32, .ro, .imm, 0x0, 0x0, .full⟩,  -- FIRST_FAIL_AT
   ⟨0x3818, 0x1, 8, 0xC, 1, .u8, .ro, .imm, 0x1, 0x0, .full⟩,  -- SITE_STATUS
   ⟨0x3818, 0x1, 8, 0xD, 1, .u8, .ctr, .imm, 0x0, 0x0, .full⟩,  -- QUEUE_MAX
   ⟨0x3918, 0x1, 8, 0x0, 1, .u8, .ro, .imm, 0xD, 0x0, .full⟩,  -- HIGHEST_SUB
   ⟨0x3918, 0x1, 8, 0x1, 1, .u8, .rw, .at .burst, 0x0, 0x0, .span 0 1⟩,  -- COMPARE_MODE
   ⟨0x3918, 0x1, 8, 0x2, 1, .u8, .rw, .at .burst, 0x0, 0x0, .span 0 2⟩,  -- CAPTURE_MAP
   ⟨0x3918, 0x1, 8, 0x3, 1, .u16, .rw, .at .burst, 0x0, 0x0, .full⟩,  -- PIN_MASK
   ⟨0x3918, 0x1, 8, 0x4, 1, .u8, .rw, .at .burst, 0x0, 0x0, .span 0 1⟩,  -- FF_SCOPE
   ⟨0x3918, 0x1, 8, 0x5, 1, .u8, .cmd, .imm, 0x0, 0x0, .oneOf [1]⟩,  -- FF_ARM
   ⟨0x3918, 0x1, 8, 0x6, 1, .bool, .rw, .at .burst, 0x1, 0x0, .full⟩,  -- COUNT_RECORDS
   ⟨0x3918, 0x1, 8, 0x7, 1, .u32, .ctr, .imm, 0x0, 0x0, .full⟩,  -- FAIL_BITS
   ⟨0x3918, 0x1, 8, 0x8, 1, .u32, .ctr, .imm, 0x0, 0x0, .full⟩,  -- FAIL_DBURSTS
   ⟨0x3918, 0x1, 8, 0x9, 1, .u32, .ctr, .imm, 0x0, 0x0, .full⟩,  -- COMPARED_DBURSTS
   ⟨0x3918, 0x1, 8, 0xA, 1, .u64, .ro, .imm, 0x0, 0x0, .full⟩,  -- FIRST_FAIL_TS
   ⟨0x3918, 0x1, 8, 0xB, 1, .u32, .ro, .imm, 0x0, 0x0, .full⟩,  -- FIRST_FAIL_AT
   ⟨0x3918, 0x1, 8, 0xC, 1, .u8, .ro, .imm, 0x1, 0x0, .full⟩,  -- SITE_STATUS
   ⟨0x3918, 0x1, 8, 0xD, 1, .u8, .ctr, .imm, 0x0, 0x0, .full⟩]  -- QUEUE_MAX

/-- Every row of the span 0x3800 to 0x39FF. -/
def rowsProbe : List Row :=
  rowsProbe1 ++ rowsProbe2 ++ rowsProbe3

/-- Rows 1 of the object tables in the span of rowsSupply. -/
def rowsSupply1 : List Row :=
  [⟨0x3A00, 0x40, 2, 0x0, 1, .u8, .ro, .imm, 0x5, 0x0, .full⟩,  -- HIGHEST_SUB
   ⟨0x3A00, 0x40, 2, 0x1, 1, .u8, .cmd, .imm, 0x0, 0x0, .oneOf [1, 2]⟩,  -- DUT_POWER
   ⟨0x3A00, 0x40, 2, 0x2, 1, .u8, .ro, .imm, 0x0, 0x0, .full⟩,  -- POWER_STATE
   ⟨0x3A00, 0x40, 2, 0x3, 1, .u16, .rw, .at .ramp, 0xA, 0x0, .span 1 100⟩,  -- DUT_RAMP
   ⟨0x3A00, 0x40, 2, 0x4, 1, .u16, .w1c, .imm, 0x0, 0x0, .mask 0x3FFF⟩,  -- SUPPLY_FAULT_CAUSE
   ⟨0x3A00, 0x40, 2, 0x5, 1, .u16, .ctr, .imm, 0x0, 0x0, .full⟩,  -- SUPPLY_FAULTS
   ⟨0x3A10, 0x40, 2, 0x0, 1, .u8, .ro, .imm, 0x11, 0x0, .full⟩,  -- HIGHEST_SUB
   ⟨0x3A10, 0x40, 2, 0x1, 1, .u16, .rw, .imm, 0x2AF8, 0x0, .full⟩,  -- SETPOINT
   ⟨0x3A10, 0x40, 2, 0x2, 1, .u16, .rw, .imm, 0x64, 0x0, .span 1 1000⟩,  -- SLEW
   ⟨0x3A10, 0x40, 2, 0x3, 1, .u16, .rw, .imm, 0x5DC0, 0x0, .span 100 24000⟩,  -- I_LIMIT
   ⟨0x3A10, 0x40, 2, 0x4, 1, .u16, .rw, .imm, 0x14, 0x0, .span 1 1000⟩,  -- I_LIMIT_TIME
   ⟨0x3A10, 0x40, 2, 0x5, 1, .u16, .rw, .imm, 0x1F4, 0x0, .span 50 2000⟩,  -- UV_MARGIN
   ⟨0x3A10, 0x40, 2, 0x6, 1, .u16, .rw, .imm, 0x1F4, 0x0, .span 50 2000⟩,  -- OV_MARGIN
   ⟨0x3A10, 0x40, 2, 0x7, 1, .u16, .rw, .imm, 0x258, 0x0, .span 0 1500⟩,  -- SENSE_MAX_CORR
   ⟨0x3A10, 0x40, 2, 0x8, 1, .u16, .ro, .imm, 0x0, 0x0, .full⟩,  -- MEAS_V
   ⟨0x3A10, 0x40, 2, 0x9, 1, .u32, .ro, .imm, 0x0, 0x0, .full⟩,  -- MEAS_I
   ⟨0x3A10, 0x40, 2, 0xA, 1, .u16, .rw, .imm, 0x10, 0x0, .span 1 1024⟩,  -- MEAS_AVG
   ⟨0x3A10, 0x40, 2, 0xB, 1, .u16, .ro, .imm, 0xFFFF, 0x0, .full⟩,  -- V_MIN
   ⟨0x3A10, 0x40, 2, 0xC, 1, .u16, .ro, .imm, 0x0, 0x0, .full⟩,  -- V_MAX
   ⟨0x3A10, 0x40, 2, 0xD, 1, .u32, .ro, .imm, 0x0, 0x0, .full⟩,  -- I_MAX
   ⟨0x3A10, 0x40, 2, 0xE, 1, .u8, .cmd, .imm, 0x0, 0x0, .oneOf [1]⟩,  -- TRACK_RESET
   ⟨0x3A10, 0x40, 2, 0xF, 1, .i16, .ro, .imm, 0x0, 0x0, .full⟩,  -- SENSE_CORR
   ⟨0x3A10, 0x40, 2, 0x10, 1, .u8, .ro, .imm, 0x0, 0x0, .full⟩,  -- SUPPLY_STATUS
   ⟨0x3A10, 0x40, 2, 0x11, 1, .u16, .ctr, .imm, 0x0, 0x0, .full⟩,  -- SENSE_PINNED_COUNT
   ⟨0x3A11, 0x40, 2, 0x0, 1, .u8, .ro, .imm, 0x11, 0x0, .full⟩,  -- HIGHEST_SUB
   ⟨0x3A11, 0x40, 2, 0x1, 1, .u16, .rw, .imm, 0x2AF8, 0x0, .full⟩,  -- SETPOINT
   ⟨0x3A11, 0x40, 2, 0x2, 1, .u16, .rw, .imm, 0x64, 0x0, .span 1 1000⟩,  -- SLEW
   ⟨0x3A11, 0x40, 2, 0x3, 1, .u16, .rw, .imm, 0x1F40, 0x0, .span 100 8000⟩,  -- I_LIMIT
   ⟨0x3A11, 0x40, 2, 0x4, 1, .u16, .rw, .imm, 0x14, 0x0, .span 1 1000⟩,  -- I_LIMIT_TIME
   ⟨0x3A11, 0x40, 2, 0x5, 1, .u16, .rw, .imm, 0x1F4, 0x0, .span 50 2000⟩,  -- UV_MARGIN
   ⟨0x3A11, 0x40, 2, 0x6, 1, .u16, .rw, .imm, 0x1F4, 0x0, .span 50 2000⟩,  -- OV_MARGIN
   ⟨0x3A11, 0x40, 2, 0x7, 1, .u16, .rw, .imm, 0x258, 0x0, .span 0 1500⟩,  -- SENSE_MAX_CORR
   ⟨0x3A11, 0x40, 2, 0x8, 1, .u16, .ro, .imm, 0x0, 0x0, .full⟩,  -- MEAS_V
   ⟨0x3A11, 0x40, 2, 0x9, 1, .u32, .ro, .imm, 0x0, 0x0, .full⟩,  -- MEAS_I
   ⟨0x3A11, 0x40, 2, 0xA, 1, .u16, .rw, .imm, 0x10, 0x0, .span 1 1024⟩,  -- MEAS_AVG
   ⟨0x3A11, 0x40, 2, 0xB, 1, .u16, .ro, .imm, 0xFFFF, 0x0, .full⟩,  -- V_MIN
   ⟨0x3A11, 0x40, 2, 0xC, 1, .u16, .ro, .imm, 0x0, 0x0, .full⟩,  -- V_MAX
   ⟨0x3A11, 0x40, 2, 0xD, 1, .u32, .ro, .imm, 0x0, 0x0, .full⟩,  -- I_MAX
   ⟨0x3A11, 0x40, 2, 0xE, 1, .u8, .cmd, .imm, 0x0, 0x0, .oneOf [1]⟩,  -- TRACK_RESET
   ⟨0x3A11, 0x40, 2, 0xF, 1, .i16, .ro, .imm, 0x0, 0x0, .full⟩]  -- SENSE_CORR

/-- Rows 2 of the object tables in the span of rowsSupply. -/
def rowsSupply2 : List Row :=
  [⟨0x3A11, 0x40, 2, 0x10, 1, .u8, .ro, .imm, 0x0, 0x0, .full⟩,  -- SUPPLY_STATUS
   ⟨0x3A11, 0x40, 2, 0x11, 1, .u16, .ctr, .imm, 0x0, 0x0, .full⟩,  -- SENSE_PINNED_COUNT
   ⟨0x3A12, 0x40, 2, 0x0, 1, .u8, .ro, .imm, 0x11, 0x0, .full⟩,  -- HIGHEST_SUB
   ⟨0x3A12, 0x40, 2, 0x1, 1, .u16, .rw, .imm, 0x4650, 0x0, .full⟩,  -- SETPOINT
   ⟨0x3A12, 0x40, 2, 0x2, 1, .u16, .rw, .imm, 0x64, 0x0, .span 1 1000⟩,  -- SLEW
   ⟨0x3A12, 0x40, 2, 0x3, 1, .u16, .rw, .imm, 0x1F4, 0x0, .span 100 500⟩,  -- I_LIMIT
   ⟨0x3A12, 0x40, 2, 0x4, 1, .u16, .rw, .imm, 0x14, 0x0, .span 1 1000⟩,  -- I_LIMIT_TIME
   ⟨0x3A12, 0x40, 2, 0x5, 1, .u16, .rw, .imm, 0x1F4, 0x0, .span 50 2000⟩,  -- UV_MARGIN
   ⟨0x3A12, 0x40, 2, 0x6, 1, .u16, .rw, .imm, 0x1F4, 0x0, .span 50 2000⟩,  -- OV_MARGIN
   ⟨0x3A12, 0x40, 2, 0x7, 1, .u16, .rw, .imm, 0x258, 0x0, .span 0 1500⟩,  -- SENSE_MAX_CORR
   ⟨0x3A12, 0x40, 2, 0x8, 1, .u16, .ro, .imm, 0x0, 0x0, .full⟩,  -- MEAS_V
   ⟨0x3A12, 0x40, 2, 0x9, 1, .u32, .ro, .imm, 0x0, 0x0, .full⟩,  -- MEAS_I
   ⟨0x3A12, 0x40, 2, 0xA, 1, .u16, .rw, .imm, 0x10, 0x0, .span 1 1024⟩,  -- MEAS_AVG
   ⟨0x3A12, 0x40, 2, 0xB, 1, .u16, .ro, .imm, 0xFFFF, 0x0, .full⟩,  -- V_MIN
   ⟨0x3A12, 0x40, 2, 0xC, 1, .u16, .ro, .imm, 0x0, 0x0, .full⟩,  -- V_MAX
   ⟨0x3A12, 0x40, 2, 0xD, 1, .u32, .ro, .imm, 0x0, 0x0, .full⟩,  -- I_MAX
   ⟨0x3A12, 0x40, 2, 0xE, 1, .u8, .cmd, .imm, 0x0, 0x0, .oneOf [1]⟩,  -- TRACK_RESET
   ⟨0x3A12, 0x40, 2, 0xF, 1, .i16, .ro, .imm, 0x0, 0x0, .full⟩,  -- SENSE_CORR
   ⟨0x3A12, 0x40, 2, 0x10, 1, .u8, .ro, .imm, 0x0, 0x0, .full⟩,  -- SUPPLY_STATUS
   ⟨0x3A12, 0x40, 2, 0x11, 1, .u16, .ctr, .imm, 0x0, 0x0, .full⟩]  -- SENSE_PINNED_COUNT

/-- Every row of the span 0x3A00 to 0x3AFF. -/
def rowsSupply : List Row :=
  rowsSupply1 ++ rowsSupply2

/-- Rows 1 of the object tables in the span of rowsClient. -/
def rowsClient1 : List Row :=
  [⟨0x4000, 0x1, 256, 0x0, 1, .u8, .ro, .imm, 0x1F, 0x0, .full⟩,  -- HIGHEST_SUB
   ⟨0x4000, 0x1, 256, 0x1, 1, .bool, .rw, .imm, 0x0, 0x0, .full⟩,  -- CLIENT_ENABLE
   ⟨0x4000, 0x1, 256, 0x2, 1, .u8, .ro, .imm, 0x0, 0x0, .full⟩,  -- CLIENT_STATE
   ⟨0x4000, 0x1, 256, 0x3, 1, .u8, .rw, .quiet, 0x4, 0x0, .span 1 16⟩,  -- CLIENT_CREDITS
   ⟨0x4000, 0x1, 256, 0x4, 1, .u32, .rw, .imm, 0x0, 0x0, .span 0 1000000⟩,  -- CLIENT_WATCHDOG
   ⟨0x4000, 0x1, 256, 0x5, 1, .u8, .cmd, .imm, 0x0, 0x0, .oneOf [1]⟩,  -- CLIENT_ABORT
   ⟨0x4000, 0x1, 256, 0x6, 1, .u8, .ro, .imm, 0x0, 0x0, .full⟩,  -- OUTSTANDING
   ⟨0x4000, 0x1, 256, 0x7, 1, .u32, .ctr, .imm, 0x0, 0x0, .full⟩,  -- REQUESTS
   ⟨0x4000, 0x1, 256, 0x8, 1, .u32, .ctr, .imm, 0x0, 0x0, .full⟩,  -- NON_OK_RESPONSES
   ⟨0x4000, 0x1, 256, 0x9, 1, .u16, .ctr, .imm, 0x0, 0x0, .full⟩,  -- POSTED_FAILED
   ⟨0x4000, 0x1, 256, 0xA, 1, .u16, .ctr, .imm, 0x0, 0x0, .full⟩,  -- WATCHDOG_EXPIRIES
   ⟨0x4000, 0x1, 256, 0xB, 1, .u16, .ctr, .imm, 0x0, 0x0, .full⟩,  -- LATE_COUNT
   ⟨0x4000, 0x1, 256, 0xC, 1, .u16, .ctr, .imm, 0x0, 0x0, .full⟩,  -- PROTOCOL_ERRORS
   ⟨0x4000, 0x1, 256, 0x10, 1, .u8, .rw, .quiet, 0x2, 0x0, .span 0 3⟩,  -- ARB_CLASS
   ⟨0x4000, 0x1, 256, 0x11, 1, .u16, .rw, .at .wheelWrap, 0x8, 0x0, .span 1 4096⟩,  -- HIGH_QUOTA
   ⟨0x4000, 0x1, 256, 0x12, 1, .u32, .rw, .at .wheelWrap, 0x400, 0x0, .span 64 1048576⟩,  -- HIGH_WINDOW
   ⟨0x4000, 0x1, 256, 0x13, 1, .u8, .rw, .at .wheelWrap, 0x1, 0x0, .span 1 16⟩,  -- RR_WEIGHT
   ⟨0x4000, 0x1, 256, 0x14, 1, .u16, .rw, .imm, 0x0, 0x0, .span 0 4096⟩,  -- REG_RATE
   ⟨0x4000, 0x1, 256, 0x15, 1, .u16, .rw, .imm, 0x40, 0x0, .span 1 4096⟩,  -- REG_DEPTH
   ⟨0x4000, 0x1, 256, 0x16, 1, .i32, .ro, .imm, 0x0, 0x0, .full⟩,  -- REG_LEVEL
   ⟨0x4000, 0x1, 256, 0x17, 1, .u16, .rw, .quiet, 0x78, 0x0, .span 120 2047⟩,  -- LOCKSTEP_LATENCY
   ⟨0x4000, 0x1, 256, 0x18, 1, .u8, .rw, .at .wheelWrap, 0x0, 0x0, .span 0 64⟩,  -- LOCKSTEP_SLOTS
   ⟨0x4000, 0x1, 256, 0x19, 1, .bool, .rw, .quiet, 0x0, 0x0, .full⟩,  -- CUT_THROUGH
   ⟨0x4000, 0x1, 256, 0x1A, 1, .u32, .ctr, .imm, 0x0, 0x0, .full⟩,  -- REG_WAITS
   ⟨0x4000, 0x1, 256, 0x1B, 1, .u32, .ctr, .imm, 0x0, 0x0, .full⟩,  -- QUOTA_MASKS
   ⟨0x4000, 0x1, 256, 0x1C, 1, .u32, .ctr, .imm, 0x0, 0x0, .full⟩,  -- GRANTS
   ⟨0x4000, 0x1, 256, 0x1D, 1, .u16, .ctr, .imm, 0x0, 0x0, .full⟩,  -- WATCHDOG_REVOKES
   ⟨0x4000, 0x1, 256, 0x1E, 1, .u32, .ctr, .imm, 0x0, 0x0, .full⟩,  -- MAX_REG_WAIT
   ⟨0x4000, 0x1, 256, 0x1F, 1, .u8, .ro, .imm, 0x0, 0x0, .full⟩]  -- ARB_STATUS

/-- Every row of the span 0x4000 to 0x40FF. -/
def rowsClient : List Row :=
  rowsClient1

/-- Rows 1 of the object tables in the span of rowsHost. -/
def rowsHost1 : List Row :=
  [⟨0x4100, 0x1, 4, 0x0, 1, .u8, .ro, .imm, 0x1F, 0x0, .full⟩,  -- HIGHEST_SUB
   ⟨0x4100, 0x1, 4, 0x1, 1, .u8, .cmd, .imm, 0x0, 0x0, .oneOf [1]⟩,  -- HQ_ABORT (H0-H3)
   ⟨0x4100, 0x1, 4, 0x2, 1, .bool, .rw, .imm, 0x0, 0x0, .full⟩,  -- HQ_ENABLE
   ⟨0x4100, 0x1, 4, 0x3, 1, .u64, .rw, .imm, 0x0, 0x400000000, .multUpTo 0x40000000 0x7FC0000000⟩,  -- HQ_WINDOW_BASE
   ⟨0x4100, 0x1, 4, 0x4, 1, .u8, .rw, .quiet, 0x0, 0x0, .span 0 1⟩,  -- HQ_ORDER_MODE
   ⟨0x4100, 0x1, 4, 0x5, 1, .u8, .rw, .imm, 0x0, 0x0, .span 0 1⟩,  -- HQ_FAIL_MODE
   ⟨0x4100, 0x1, 4, 0x6, 1, .u16, .rw, .imm, 0x40, 0x0, .span 16 4096⟩,  -- HQ_MERGE_WAIT
   ⟨0x4100, 0x1, 4, 0x7, 1, .u8, .rw, .imm, 0xFF, 0x0, .spanOr 0 63 0xFF⟩,  -- HQ_VECTOR
   ⟨0x4100, 0x1, 4, 0x8, 1, .u8, .ro, .imm, 0x0, 0x0, .full⟩,  -- HQ_OUTSTANDING
   ⟨0x4100, 0x1, 4, 0x9, 1, .u32, .ctr, .imm, 0x0, 0x0, .full⟩,  -- HQ_READ_LINES
   ⟨0x4100, 0x1, 4, 0xA, 1, .u32, .ctr, .imm, 0x0, 0x0, .full⟩,  -- HQ_WRITE_LINES
   ⟨0x4100, 0x1, 4, 0xB, 1, .u32, .ctr, .imm, 0x0, 0x0, .full⟩,  -- HQ_NON_OK
   ⟨0x4100, 0x1, 4, 0xC, 1, .u16, .ctr, .imm, 0x0, 0x0, .full⟩,  -- HQ_POSTED_FAILED
   ⟨0x4100, 0x1, 4, 0xD, 1, .u64, .ro, .imm, 0x0, 0x0, .full⟩,  -- HQ_LAST_FAIL
   ⟨0x4100, 0x1, 4, 0xE, 1, .u16, .ctr, .imm, 0x0, 0x0, .full⟩,  -- HQ_CMD_DISCARDED
   ⟨0x4100, 0x1, 4, 0x10, 1, .u8, .rw, .quiet, 0x2, 0x0, .span 1 3⟩,  -- ARB_CLASS
   ⟨0x4100, 0x1, 4, 0x11, 1, .u16, .rw, .at .wheelWrap, 0x8, 0x0, .span 1 4096⟩,  -- HIGH_QUOTA
   ⟨0x4100, 0x1, 4, 0x12, 1, .u32, .rw, .at .wheelWrap, 0x400, 0x0, .span 64 1048576⟩,  -- HIGH_WINDOW
   ⟨0x4100, 0x1, 4, 0x13, 1, .u8, .rw, .at .wheelWrap, 0x1, 0x0, .span 1 16⟩,  -- RR_WEIGHT
   ⟨0x4100, 0x1, 4, 0x14, 1, .u16, .rw, .imm, 0x0, 0x0, .span 0 4096⟩,  -- REG_RATE
   ⟨0x4100, 0x1, 4, 0x15, 1, .u16, .rw, .imm, 0x40, 0x0, .span 1 4096⟩,  -- REG_DEPTH
   ⟨0x4100, 0x1, 4, 0x16, 1, .i32, .ro, .imm, 0x0, 0x0, .full⟩,  -- REG_LEVEL
   ⟨0x4100, 0x1, 4, 0x1A, 1, .u32, .ctr, .imm, 0x0, 0x0, .full⟩,  -- REG_WAITS
   ⟨0x4100, 0x1, 4, 0x1B, 1, .u32, .ctr, .imm, 0x0, 0x0, .full⟩,  -- QUOTA_MASKS
   ⟨0x4100, 0x1, 4, 0x1C, 1, .u32, .ctr, .imm, 0x0, 0x0, .full⟩,  -- GRANTS
   ⟨0x4100, 0x1, 4, 0x1D, 1, .u16, .ctr, .imm, 0x0, 0x0, .full⟩,  -- WATCHDOG_REVOKES
   ⟨0x4100, 0x1, 4, 0x1E, 1, .u32, .ctr, .imm, 0x0, 0x0, .full⟩,  -- MAX_REG_WAIT
   ⟨0x4100, 0x1, 4, 0x1F, 1, .u8, .ro, .imm, 0x0, 0x0, .full⟩]  -- ARB_STATUS

/-- Every row of the span 0x4100 to 0x41FF. -/
def rowsHost : List Row :=
  rowsHost1

/-- Rows 1 of the object tables in the span of rowsStream. -/
def rowsStream1 : List Row :=
  [⟨0x4200, 0x1, 1, 0x0, 1, .u8, .ro, .imm, 0x4, 0x0, .full⟩,  -- HIGHEST_SUB
   ⟨0x4200, 0x1, 1, 0x1, 1, .u16, .rw, .imm, 0x10, 0x0, .span 1 65535⟩,  -- CRC_BURST_LIMIT
   ⟨0x4200, 0x1, 1, 0x2, 1, .u32, .rw, .imm, 0x3E8, 0x0, .span 1 1000000⟩,  -- CRC_BURST_WINDOW
   ⟨0x4200, 0x1, 1, 0x3, 1, .u16, .ro, .imm, 0x0, 0x0, .full⟩,  -- LINKS_UP
   ⟨0x4200, 0x1, 1, 0x4, 1, .bool, .rw, .imm, 0x1, 0x0, .full⟩,  -- AUTO_RETRAIN
   ⟨0x4210, 0x1, 16, 0x0, 1, .u8, .ro, .imm, 0xC, 0x0, .full⟩,  -- HIGHEST_SUB
   ⟨0x4210, 0x1, 16, 0x1, 1, .bool, .rw, .imm, 0x0, 0x0, .full⟩,  -- PORT_ENABLE
   ⟨0x4210, 0x1, 16, 0x2, 1, .u8, .ro, .imm, 0x0, 0x0, .full⟩,  -- LINK_STATE
   ⟨0x4210, 0x1, 16, 0x3, 1, .u8, .ro, .imm, 0x1, 0x0, .full⟩,  -- LINK_DOWN_REASON
   ⟨0x4210, 0x1, 16, 0x4, 1, .u8, .cmd, .imm, 0x0, 0x0, .oneOf [1]⟩,  -- PORT_ABORT
   ⟨0x4210, 0x1, 16, 0x5, 1, .u8, .cmd, .imm, 0x0, 0x0, .oneOf [1]⟩,  -- RETRAIN
   ⟨0x4210, 0x1, 16, 0x6, 1, .u8, .ro, .imm, 0x0, 0x0, .full⟩,  -- RX_ALIGN
   ⟨0x4210, 0x1, 16, 0x7, 1, .u32, .ctr, .imm, 0x0, 0x0, .full⟩,  -- CRC_ERRORS
   ⟨0x4210, 0x1, 16, 0x8, 1, .u32, .ctr, .imm, 0x0, 0x0, .full⟩,  -- REPLAYS
   ⟨0x4210, 0x1, 16, 0x9, 1, .u16, .ctr, .imm, 0x0, 0x0, .full⟩,  -- LINK_DOWNS
   ⟨0x4210, 0x1, 16, 0xA, 1, .u16, .ctr, .imm, 0x0, 0x0, .full⟩,  -- PROTOCOL_ERRORS
   ⟨0x4210, 0x1, 16, 0xB, 1, .u16, .ctr, .imm, 0x0, 0x0, .full⟩,  -- LOCKSTEP_COLLISIONS
   ⟨0x4210, 0x1, 16, 0xC, 1, .u16, .ro, .imm, 0x0, 0x0, .full⟩]  -- LAST_TRAIN_US

/-- Every row of the span 0x4200 to 0x42FF. -/
def rowsStream : List Row :=
  rowsStream1

/-- Rows 1 of the object tables in the span of rowsMsg. -/
def rowsMsg1 : List Row :=
  [⟨0x4400, 0x1, 32, 0x0, 1, .u8, .ro, .imm, 0x20, 0x0, .full⟩,  -- HIGHEST_SUB
   ⟨0x4400, 0x1, 32, 0x1, 16, .u32, .rw, .imm, 0x0, 0x0, .full⟩,  -- MSG_REG_0-MSG_REG_15
   ⟨0x4400, 0x1, 32, 0x11, 1, .u8, .cmd, .imm, 0x0, 0x0, .oneOf [1]⟩,  -- MSG_GO
   ⟨0x4400, 0x1, 32, 0x12, 1, .u8, .cmd, .imm, 0x0, 0x0, .oneOf [1]⟩,  -- MSG_RELEASE
   ⟨0x4400, 0x1, 32, 0x13, 1, .bool, .rw, .imm, 0x0, 0x0, .full⟩,  -- MSG_ENABLE
   ⟨0x4400, 0x1, 32, 0x14, 1, .u8, .rw, .quiet, 0x10, 0x0, .span 8 16⟩,  -- MSG_WIDTH
   ⟨0x4400, 0x1, 32, 0x15, 1, .u8, .rw, .quiet, 0x0, 0x0, .mask 7⟩,  -- MSG_MODE
   ⟨0x4400, 0x1, 32, 0x16, 1, .u32, .rw, .at .go, 0x3E8, 0x0, .span 1 1000000⟩,  -- MSG_TIMEOUT
   ⟨0x4400, 0x1, 32, 0x17, 1, .u16, .rw, .quiet, 0x0, 0x0, .full⟩,  -- MSG_RECEIVER
   ⟨0x4400, 0x1, 32, 0x18, 1, .u8, .rw, .quiet, 0x0, 0x0, .span 0 63⟩,  -- MSG_VECTOR
   ⟨0x4400, 0x1, 32, 0x19, 1, .u8, .ro, .imm, 0x0, 0x0, .full⟩,  -- MSG_STATE
   ⟨0x4400, 0x1, 32, 0x1A, 1, .u32, .ro, .imm, 0x0, 0x0, .full⟩,  -- MSG_SENDER
   ⟨0x4400, 0x1, 32, 0x1B, 1, .u8, .ro, .imm, 0x0, 0x0, .full⟩,  -- MSG_SEQ
   ⟨0x4400, 0x1, 32, 0x1C, 1, .u8, .w1c, .imm, 0x0, 0x0, .mask 0x1F⟩,  -- MSG_FLAGS
   ⟨0x4400, 0x1, 32, 0x1D, 1, .u32, .ctr, .imm, 0x0, 0x0, .full⟩,  -- MSG_SENT
   ⟨0x4400, 0x1, 32, 0x1E, 1, .u16, .ctr, .imm, 0x0, 0x0, .full⟩,  -- MSG_TIMEOUTS
   ⟨0x4400, 0x1, 32, 0x1F, 1, .u16, .ctr, .imm, 0x0, 0x0, .full⟩,  -- MSG_DISCARDED
   ⟨0x4400, 0x1, 32, 0x20, 1, .u16, .ctr, .imm, 0x0, 0x0, .full⟩]  -- MSG_REFUSED

/-- Every row of the span 0x4400 to 0x44FF. -/
def rowsMsg : List Row :=
  rowsMsg1

/-- Rows 1 of the object tables in the span of rowsFabric. -/
def rowsFabric1 : List Row :=
  [⟨0x4800, 0x1, 1, 0x0, 1, .u8, .ro, .imm, 0xB, 0x0, .full⟩,  -- HIGHEST_SUB
   ⟨0x4800, 0x1, 1, 0x1, 1, .u8, .cmd, .imm, 0x0, 0x0, .oneOf [1]⟩,  -- FAB_ABORT_FG
   ⟨0x4800, 0x1, 1, 0x2, 1, .u8, .cmd, .imm, 0x0, 0x0, .oneOf [1]⟩,  -- FAB_ABORT_BG
   ⟨0x4800, 0x1, 1, 0x3, 1, .u8, .ro, .imm, 0x0, 0x0, .full⟩,  -- FAB_STATE
   ⟨0x4800, 0x1, 1, 0x4, 1, .u8, .w1c, .imm, 0x0, 0x0, .mask 0x1F⟩,  -- FAB_FAULT_CAUSE
   ⟨0x4800, 0x1, 1, 0x5, 1, .u16, .ctr, .imm, 0x0, 0x0, .full⟩,  -- TRAP_COUNT
   ⟨0x4800, 0x1, 1, 0x6, 1, .u64, .ro, .imm, 0x0, 0x0, .full⟩,  -- LAST_TRAP
   ⟨0x4800, 0x1, 1, 0x7, 1, .u64, .ro, .imm, 0x0, 0x0, .full⟩,  -- LAST_TRAP_TS
   ⟨0x4800, 0x1, 1, 0x8, 1, .u32, .rw, .imm, 0x10000, 0x0, .span 1024 16777216⟩,  -- STALL_LIMIT
   ⟨0x4800, 0x1, 1, 0x9, 1, .u16, .ctr, .imm, 0x0, 0x0, .full⟩,  -- STALLS
   ⟨0x4800, 0x1, 1, 0xA, 1, .u32, .ro, .imm, 0x0, 0x0, .full⟩,  -- STALL_AT
   ⟨0x4800, 0x1, 1, 0xB, 1, .u16, .ctr, .imm, 0x0, 0x0, .full⟩,  -- CHECK_ERRORS
   ⟨0x4810, 0x1, 2, 0x0, 1, .u8, .ro, .imm, 0xC, 0x0, .full⟩,  -- HIGHEST_SUB
   ⟨0x4810, 0x1, 2, 0x1, 1, .u8, .cmd, .imm, 0x0, 0x0, .oneOf [1, 2, 3]⟩,  -- CTX_CMD
   ⟨0x4810, 0x1, 2, 0x2, 5, .u16, .ro, .imm, 0x0, 0x0, .full⟩,  -- TILES_RUNNING, TILES_STOPPED, TILES_HALTED, TILES_TRAPPED, TILES_LOADED
   ⟨0x4810, 0x1, 2, 0x7, 1, .u64, .ro, .imm, 0x0, 0x0, .full⟩,  -- IMAGE_ID
   ⟨0x4810, 0x1, 2, 0x8, 1, .u8, .rw, .imm, 0x0, 0x0, .mask 7⟩,  -- AUTO_DRAIN
   ⟨0x4810, 0x1, 2, 0x9, 1, .u8, .rw, .imm, 0x6, 0x1, .span 0 7⟩,  -- DRAIN_FRAME
   ⟨0x4810, 0x1, 2, 0xA, 1, .u16, .ctr, .imm, 0x0, 0x0, .full⟩,  -- DRAINS
   ⟨0x4810, 0x1, 2, 0xB, 1, .u16, .ctr, .imm, 0x0, 0x0, .full⟩,  -- DRAINS_SKIPPED
   ⟨0x4810, 0x1, 2, 0xC, 1, .u8, .rw, .at .reset, 0xFF, 0x0, .spanOr 0 99 0xFF⟩,  -- BOOT_IMAGE
   ⟨0x4812, 0x1, 1, 0x0, 1, .u8, .ro, .imm, 0x2, 0x0, .full⟩,  -- HIGHEST_SUB
   ⟨0x4812, 0x1, 1, 0x1, 1, .u8, .cmd, .imm, 0x0, 0x0, .oneOf [1]⟩,  -- SWAP
   ⟨0x4812, 0x1, 1, 0x2, 1, .u32, .ctr, .imm, 0x0, 0x0, .full⟩,  -- SWAPS
   ⟨0x4820, 0x1, 16, 0x0, 1, .u8, .ro, .imm, 0x3, 0x0, .full⟩,  -- HIGHEST_SUB
   ⟨0x4820, 0x1, 16, 0x1, 1, .u16, .rw, .quiet, 0x0, 0x0, .full⟩,  -- FAB_CLIENTS
   ⟨0x4820, 0x1, 16, 0x2, 1, .u16, .ctr, .imm, 0x0, 0x0, .full⟩,  -- FAB_RESP_DISCARDED
   ⟨0x4820, 0x1, 16, 0x3, 1, .u16, .ctr, .imm, 0x0, 0x0, .full⟩,  -- FAB_LATE
   ⟨0x4840, 0x1, 1, 0x0, 1, .u8, .ro, .imm, 0x1, 0x0, .full⟩,  -- HIGHEST_SUB
   ⟨0x4840, 0x1, 1, 0x1, 1, .dom, .ro, .imm, 0x0, 0x0, .full⟩,  -- EDGE_BIND
   ⟨0x4850, 0x1, 1, 0x0, 1, .u8, .ro, .imm, 0xA, 0x0, .full⟩,  -- HIGHEST_SUB
   ⟨0x4850, 0x1, 1, 0x1, 1, .u8, .cmd, .imm, 0x0, 0x0, .oneOf [1, 2]⟩,  -- IMAGE_CMD
   ⟨0x4850, 0x1, 1, 0x2, 1, .u8, .rw, .imm, 0x0, 0x0, .span 0 2⟩,  -- IMAGE_SOURCE
   ⟨0x4850, 0x1, 1, 0x3, 1, .u64, .rw, .imm, 0x0, 0x0, .mult 64⟩,  -- IMAGE_ADDRESS
   ⟨0x4850, 0x1, 1, 0x4, 1, .u8, .rw, .imm, 0x0, 0x0, .span 0 99⟩,  -- IMAGE_AREA_ENTRY
   ⟨0x4850, 0x1, 1, 0x5, 1, .dom, .rw, .imm, 0x0, 0x0, .full⟩,  -- IMAGE_STAGING
   ⟨0x4850, 0x1, 1, 0x6, 1, .u8, .ro, .imm, 0x0, 0x0, .full⟩,  -- IMAGE_RESULT
   ⟨0x4850, 0x1, 1, 0x7, 1, .u8, .rw, .imm, 0x5, 0x0, .span 0 7⟩,  -- LOAD_FRAME
   ⟨0x4850, 0x1, 1, 0x8, 1, .u16, .ctr, .imm, 0x0, 0x0, .full⟩,  -- IMAGE_LOADS
   ⟨0x4850, 0x1, 1, 0x9, 1, .u16, .ctr, .imm, 0x0, 0x0, .full⟩]  -- IMAGE_FAILS

/-- Rows 2 of the object tables in the span of rowsFabric. -/
def rowsFabric2 : List Row :=
  [⟨0x4850, 0x1, 1, 0xA, 1, .u32, .ro, .imm, 0x0, 0x0, .full⟩,  -- IMAGE_FAIL_OFFSET
   ⟨0x4860, 0x1, 1, 0x0, 1, .u8, .ro, .imm, 0xA, 0x0, .full⟩,  -- HIGHEST_SUB
   ⟨0x4860, 0x1, 1, 0x1, 1, .u8, .cmd, .imm, 0x0, 0x0, .oneOf [1, 2, 3]⟩,  -- SCAN_CMD
   ⟨0x4860, 0x1, 1, 0x2, 1, .u8, .rw, .imm, 0x0, 0x0, .span 0 3⟩,  -- SCAN_TARGET
   ⟨0x4860, 0x1, 1, 0x3, 1, .u8, .rw, .imm, 0x0, 0x0, .span 0 7⟩,  -- SCAN_FRAME_OUT
   ⟨0x4860, 0x1, 1, 0x4, 1, .u8, .rw, .imm, 0x3, 0x0, .span 0 7⟩,  -- SCAN_FRAME_IN
   ⟨0x4860, 0x1, 1, 0x5, 1, .u8, .rw, .imm, 0x0, 0x0, .mask 3⟩,  -- SCAN_FLAGS
   ⟨0x4860, 0x1, 1, 0x6, 1, .u8, .ro, .imm, 0x0, 0x0, .full⟩,  -- SCAN_STATUS
   ⟨0x4860, 0x1, 1, 0x7, 1, .u32, .ctr, .imm, 0x0, 0x0, .full⟩,  -- SCANS
   ⟨0x4860, 0x1, 1, 0x8, 1, .u16, .ctr, .imm, 0x0, 0x0, .full⟩,  -- SCAN_ERRORS
   ⟨0x4860, 0x1, 1, 0x9, 1, .u32, .ctr, .imm, 0x0, 0x0, .full⟩,  -- SCAN_PURGED
   ⟨0x4860, 0x1, 1, 0xA, 1, .u16, .ro, .imm, 0x0, 0x0, .full⟩,  -- LAST_SCAN_C
   ⟨0x4868, 0x1, 8, 0x0, 1, .u8, .ro, .imm, 0x7, 0x0, .full⟩,  -- HIGHEST_SUB
   ⟨0x4868, 0x1, 8, 0x1, 1, .u8, .ro, .imm, 0x0, 0x0, .full⟩,  -- FRAME_KIND
   ⟨0x4868, 0x1, 8, 0x2, 1, .u64, .ro, .imm, 0x0, 0x0, .full⟩,  -- FRAME_TS
   ⟨0x4868, 0x1, 8, 0x3, 1, .u64, .ro, .imm, 0x0, 0x0, .full⟩,  -- FRAME_IMAGE_ID
   ⟨0x4868, 0x1, 8, 0x4, 1, .u32, .ro, .imm, 0x0, 0x0, .full⟩,  -- FRAME_CRC
   ⟨0x4868, 0x1, 8, 0x5, 1, .dom, .ro, .imm, 0x0, 0x0, .full⟩,  -- FRAME_DATA
   ⟨0x4868, 0x1, 8, 0x6, 1, .u64, .rw, .imm, 0x0, 0x0, .mult 4096⟩,  -- FRAME_ADDRESS
   ⟨0x4868, 0x1, 8, 0x7, 1, .u8, .cmd, .imm, 0x0, 0x0, .oneOf [1, 2, 3, 4]⟩,  -- FRAME_MOVE
   ⟨0x4880, 0x1, 16, 0x0, 1, .u8, .ro, .imm, 0x1F, 0x0, .full⟩,  -- HIGHEST_SUB
   ⟨0x4880, 0x1, 16, 0x1, 1, .bool, .rw, .imm, 0x0, 0x0, .full⟩,  -- FE_ENABLE
   ⟨0x4880, 0x1, 16, 0x2, 1, .u8, .ro, .imm, 0x0, 0x0, .full⟩,  -- FE_STATE
   ⟨0x4880, 0x1, 16, 0x3, 1, .u8, .ro, .imm, 0x0, 0x0, .full⟩,  -- FE_OUTSTANDING
   ⟨0x4880, 0x1, 16, 0x4, 1, .u32, .ctr, .imm, 0x0, 0x0, .full⟩,  -- FE_REQUESTS
   ⟨0x4880, 0x1, 16, 0x5, 1, .u32, .ctr, .imm, 0x0, 0x0, .full⟩,  -- FE_NON_OK
   ⟨0x4880, 0x1, 16, 0x6, 1, .u16, .ctr, .imm, 0x0, 0x0, .full⟩,  -- FE_POSTED_FAILED
   ⟨0x4880, 0x1, 16, 0x7, 1, .u16, .ctr, .imm, 0x0, 0x0, .full⟩,  -- FE_PROTOCOL_ERRORS
   ⟨0x4880, 0x1, 16, 0x10, 1, .u8, .rw, .quiet, 0x2, 0x0, .span 1 3⟩,  -- ARB_CLASS
   ⟨0x4880, 0x1, 16, 0x11, 1, .u16, .rw, .at .wheelWrap, 0x8, 0x0, .span 1 4096⟩,  -- HIGH_QUOTA
   ⟨0x4880, 0x1, 16, 0x12, 1, .u32, .rw, .at .wheelWrap, 0x400, 0x0, .span 64 1048576⟩,  -- HIGH_WINDOW
   ⟨0x4880, 0x1, 16, 0x13, 1, .u8, .rw, .at .wheelWrap, 0x1, 0x0, .span 1 16⟩,  -- RR_WEIGHT
   ⟨0x4880, 0x1, 16, 0x14, 1, .u16, .rw, .imm, 0x0, 0x0, .span 0 4096⟩,  -- REG_RATE
   ⟨0x4880, 0x1, 16, 0x15, 1, .u16, .rw, .imm, 0x40, 0x0, .span 1 4096⟩,  -- REG_DEPTH
   ⟨0x4880, 0x1, 16, 0x16, 1, .i32, .ro, .imm, 0x0, 0x0, .full⟩,  -- REG_LEVEL
   ⟨0x4880, 0x1, 16, 0x1A, 1, .u32, .ctr, .imm, 0x0, 0x0, .full⟩,  -- REG_WAITS
   ⟨0x4880, 0x1, 16, 0x1B, 1, .u32, .ctr, .imm, 0x0, 0x0, .full⟩,  -- QUOTA_MASKS
   ⟨0x4880, 0x1, 16, 0x1C, 1, .u32, .ctr, .imm, 0x0, 0x0, .full⟩,  -- GRANTS
   ⟨0x4880, 0x1, 16, 0x1D, 1, .u16, .ctr, .imm, 0x0, 0x0, .full⟩,  -- WATCHDOG_REVOKES
   ⟨0x4880, 0x1, 16, 0x1E, 1, .u32, .ctr, .imm, 0x0, 0x0, .full⟩]  -- MAX_REG_WAIT

/-- Rows 3 of the object tables in the span of rowsFabric. -/
def rowsFabric3 : List Row :=
  [⟨0x4880, 0x1, 16, 0x1F, 1, .u8, .ro, .imm, 0x0, 0x0, .full⟩]  -- ARB_STATUS

/-- Every row of the span 0x4800 to 0x48FF. -/
def rowsFabric : List Row :=
  rowsFabric1 ++ rowsFabric2 ++ rowsFabric3

/-- Rows 1 of the object tables in the span of rowsField. -/
def rowsField1 : List Row :=
  [⟨0x5100, 0x1, 1, 0x0, 1, .u8, .ro, .imm, 0x8, 0x0, .full⟩,  -- HIGHEST_SUB
   ⟨0x5100, 0x1, 1, 0x1, 1, .u8, .ro, .imm, 0x1, 0x0, .full⟩,  -- ECT_AL_STATE
   ⟨0x5100, 0x1, 1, 0x2, 1, .u16, .ro, .imm, 0x0, 0x0, .full⟩,  -- ECT_AL_STATUS_CODE
   ⟨0x5100, 0x1, 1, 0x3, 1, .u8, .ro, .imm, 0x0, 0x0, .full⟩,  -- ECT_PORTS
   ⟨0x5100, 0x1, 1, 0x4, 1, .bool, .ro, .imm, 0x0, 0x0, .full⟩,  -- ECT_DC_VALID
   ⟨0x5100, 0x1, 1, 0x5, 1, .u16, .ctr, .imm, 0x0, 0x0, .full⟩,  -- ECT_WATCHDOG_BITES
   ⟨0x5100, 0x1, 1, 0x6, 1, .u32, .ctr, .imm, 0x0, 0x0, .full⟩,  -- ECT_EMCY_SENT
   ⟨0x5100, 0x1, 1, 0x7, 1, .u16, .ctr, .imm, 0x0, 0x0, .full⟩,  -- ECT_EMCY_LOST
   ⟨0x5100, 0x1, 1, 0x8, 1, .u16, .ctr, .imm, 0x0, 0x0, .full⟩]  -- ECT_FOE_FAILS

/-- Every row of the span 0x5100 to 0x51FF. -/
def rowsField : List Row :=
  rowsField1

/-- The rows of the page an index lies in (R55). -/
def rowsOfPage (pg : Nat) : List Row :=
  if 0x10 ≤ pg ∧ pg ≤ 0x1F then rowsProfile
  else if pg = 0x20 then rowsEngine
  else if pg = 0x21 then rowsPower
  else if pg = 0x22 then rowsFault
  else if 0x23 ≤ pg ∧ pg ≤ 0x26 then rowsPorts
  else if 0x30 ≤ pg ∧ pg ≤ 0x33 then rowsStore
  else if 0x34 ≤ pg ∧ pg ≤ 0x35 then rowsMap
  else if 0x38 ≤ pg ∧ pg ≤ 0x39 then rowsProbe
  else if pg = 0x3A then rowsSupply
  else if pg = 0x40 then rowsClient
  else if pg = 0x41 then rowsHost
  else if pg = 0x42 then rowsStream
  else if pg = 0x44 then rowsMsg
  else if pg = 0x48 then rowsFabric
  else if pg = 0x51 then rowsField
  else []

/-- The row covers the index. -/
def Row.hasIndex (r : Row) (ix : Nat) : Bool :=
  r.idx ≤ ix && (ix - r.idx) % r.stride == 0 && decide ((ix - r.idx) / r.stride < r.count)

/-- The row covers the subindex. -/
def Row.hasSub (r : Row) (sb : Nat) : Bool := r.sub ≤ sb && decide (sb < r.sub + r.subs)

/-- The row of an object, by its key. -/
def rowOf (k : Nat) : Option Row :=
  (rowsOfPage (k / 0x10000)).find? fun r => r.hasIndex (k / 0x100) && r.hasSub (k % 0x100)

/-- Some object has the index. -/
def indexExists (ix : Nat) : Bool := (rowsOfPage (ix / 0x100)).any fun r => r.hasIndex ix

/-- The bytes of a value of the type (R57). -/
def Ty.size : Ty → Nat
  | .bool => 1 | .i16 => 2 | .i32 => 4 | .u8 => 1 | .u16 => 2 | .u32 => 4 | .r32 => 4 | .u64 => 8 | .i64 => 8 | .str => 0 | .dom => 0

/-- The default a row gives the object of the key. -/
def Row.defaultAt (r : Row) (k : Nat) : Nat := r.dflt + r.dstep * ((k / 0x100 - r.idx) / r.stride)

/-- The default reaction of an error line (R543). -/
def reactionDefault (n : Nat) : Nat :=
  if n = 16 ∨ n = 20 then 0x84
  else if n = 19 ∨ n = 23 then 0x88
  else if n = 43 then 0xC0
  else if [29, 30, 31, 41, 46, 47, 48, 51].contains n then 0x00
  else 0x80

/-- The fixed bits of an error line's reaction (R543). -/
def reactionFixedBits (n : Nat) : Nat :=
  if n = 19 ∨ n = 23 then 0x08 else if n = 43 then 0x40 else 0

/-- What an object holds before anything has changed it: its Default column. -/
def objDefault (k : Nat) : Nat :=
  let ix := k / 0x100
  if 0x2210 ≤ ix ∧ ix ≤ 0x2243 ∧ k % 0x100 = 1 then reactionDefault (ix - 0x2210)
  else if 0x2210 ≤ ix ∧ ix ≤ 0x2243 ∧ k % 0x100 = 2 then reactionFixedBits (ix - 0x2210)
  else ((rowOf k).map fun r => r.defaultAt k).getD 0

/-- The largest value of the object's type. -/
def objMax (k : Nat) : Nat := 2 ^ (8 * (((rowOf k).map fun r => r.ty.size).getD 8)) - 1

/-- The written value lies in the range of the object (R57, R8). -/
def Rng.ok (r : Rng) (bits v : Nat) : Bool :=
  match r with
  | .full => true
  | .span lo hi => lo ≤ v && decide (v ≤ hi)
  | .sspan lo hi => decide (lo ≤ toInt bits v) && decide (toInt bits v ≤ hi)
  | .spanOr lo hi o => (lo ≤ v && decide (v ≤ hi)) || v == o
  | .evenSpan lo hi => lo ≤ v && decide (v ≤ hi) && v % 2 == 0
  | .oneOf l => l.contains v
  | .mask m => clearBits v m == 0
  | .maskWith m must => clearBits v m == 0 && v &&& must == must
  | .mult n => v % n == 0
  | .multUpTo n hi => v % n == 0 && decide (v ≤ hi)
  | .sbAddress => 0x10 ≤ v && decide (v ≤ 0x6F) && v != 0x28 && v != 0x37 && v != 0x61

end Sys2Proof.Machine
end

