-- ==== Sys2Proof/Machine/State.lean ====
section
/-! DEFINITION. The state of the engine as plain data: the queue of waiting commands, the object dictionary with every
object of the spec, and block by block the state that no object shows. Arrays are sparse maps whose unlisted entries
are the block's state after a power-on. -/

namespace Sys2Proof.Machine

/-- No command stops the engine with a fault: every failure the spec describes is a next state. -/
inductive Fault
  deriving DecidableEq, Repr

/-- Why a command has no meaning here. -/
inductive Refusal
  /-- Raised by an arm of exec whose command has no meaning yet. Safe: the machine stops. -/
  | notModelled (mnemonic : String)
  deriving DecidableEq, Repr

/-- The two parts of the family (R23 to R27). -/
inductive Part | ft4216 | ft4016
  deriving DecidableEq, Repr

/-- A value accepted for an object that acts at a boundary (R62): the dictionary holds the accepted value, and this
record the value that still acts. -/
structure Shadow where
  key : Nat
  acting : Nat
  actingBytes : List Byte
  bound : Bound
  deriving DecidableEq, Repr

/-- How a write reached the dictionary: at the slot or by SDO or transfer, or through DOMAIN_COMMIT
(R77). -/
inductive WrForm | slot | commit
  deriving DecidableEq, Repr

/-- A write at the dictionary write port (R81). `aligned` is false for a BAR0 request that is not aligned to a slot or
does not enable its bytes from byte 0 up (R75). -/
structure Wr where
  path : Path
  index : Nat
  sub : Nat
  data : List Byte
  aligned : Bool
  poisoned : Bool
  form : WrForm
  deriving DecidableEq, Repr

/-- The configuration session (R68 to R73): the owner's code (0 free, 1 CoE, 2 PCIe, 3 sideband), the time the lease runs
out, and the writes of the open batch, oldest first. -/
structure Session where
  owner : Nat := 0
  due : Nat := 0
  batch : Option (List Wr) := none
  deriving DecidableEq, Repr

/-- A BAR0 read that waits for the host's own earlier writes (R78): how many groups of the write port are still before it. A read of BAR4 has
the byte of its page instead of a subindex (R473). -/
structure PortRead where
  index : Nat
  sub : Nat
  size : Nat
  aligned : Bool
  behind : Nat
  page : Option Nat := none
  deriving DecidableEq, Repr

/-- The dictionary write port (R81): the group of writes held for a cross-object check (empty while the port is free), and the groups of writes behind it. A
group of more than one write is a complete-access download, one batch (R73). `tailN` groups at the end of the queue arrived on the c `tailAt` (R82);
`reads` are the host's reads behind its writes, oldest first. -/
structure WritePort where
  held : List Wr := []
  queue : List (List Wr) := []
  tailAt : Nat := 0
  tailN : Nat := 0
  reads : List PortRead := []
  deriving DecidableEq, Repr

/-- What the last access of a control path was answered: the path, the reason code of a refusal (0 when accepted), and
the data of a read. -/
structure Answer where
  path : Path := .fabric
  reason : Nat := 0
  data : List Byte := []
  deriving DecidableEq, Repr

/-- One raise of an error line within the command being executed (R544): the line and LAST_SOURCE (R545). -/
structure Raise where
  line : Nat
  source : Nat
  deriving DecidableEq, Repr

/-- What the engine sends to the outside world on its control links: an MSI-X message on a vector (R490), and an EtherCAT
emergency with its code, error-register byte and data bytes (R498), a completion of a host queue's read with its engine
address and a line status, 0xFF for Completer Abort (R486), an AER report (R491), and the data of a BAR0 read that had to wait for the host's own
writes (R78). -/
inductive Emit
  | msix (vector : Nat)
  | emcy (code reg : Nat) (data : List Byte)
  | completion (queue addr status : Nat) (poisoned : Bool) (data : List Byte)
  | aer (error : Nat)
  | bar0Data (data : List Byte)
  deriving DecidableEq, Repr

/-- The PCI Express function (R480 to R492): whether the function can send (its data link layer is up and it is not in
reset), the D state (0 or 3), Bus Master Enable, the MSI-X enable and function mask bits, the vectors' mask and pending
bits, the AER Uncorrectable Error Severity register, and whether the 1 s window of configuration retries runs (R513). -/
structure Pcie where
  perst : Bool := true
  dState : Nat := 0
  bme : Bool := false
  msixEnable : Bool := false
  msixFnMask : Bool := false
  msixMask : Nat := 0xFFFFFFFFFFFFFFFF
  msixPba : Nat := 0
  severity : Nat := 0x00462030
  crsUntil : Nat := 0
  uncorrectable : Nat := 0
  correctable : Nat := 0
  deriving DecidableEq, Repr

/-- A segmented SDO download or a FoE write in progress (R496, R499): what it writes (0 SDO, 1 FABRIC_FG, 2 FABRIC_BG, 3 AREA, 4 FIRMWARE), the
object index or the entry, and what is staged so far: the bytes of a file, or those of each subindex. -/
structure Transfer where
  kind : Nat := 0
  key : Nat := 0
  parts : List (Nat × List Byte) := []
  data : List Byte := []
  deriving DecidableEq, Repr

/-- The EtherCAT slave controller (R493 to R500, R510): the links of its two ports and whether it forwards, what the master has set, the
emergencies waiting in the queue of 8, the error indication, a state request held over BOOT (R513), when the process-data watchdog expires,
the last SM3 buffer sampled, and the transfer in progress. -/
structure Ect where
  link0 : Bool := false
  link1 : Bool := false
  forwards : Bool := true
  set : MasterSet := {}
  emcy : List Emit := []
  errInd : Bool := false
  heldRequest : Option Nat := none
  pdDue : Nat := 0
  pdo : List Byte := []
  transfer : Option Transfer := none
  deriving DecidableEq, Repr

/-- The sideband target (R501 to R505): the result of the last WRITE and its staging buffer. -/
structure Sideband where
  result : Nat := 0
  staging : List Byte := []
  deriving DecidableEq, Repr

/-- The six request opcodes (R111). -/
inductive ReqKind | read | write | masked | fence | lock | unlock
  deriving DecidableEq, Repr

/-- Where a request stands (R12): handed to the fabric that serves its client (R416), in front of its regulator, at the crossbar, or with its lines beyond the crossbar; `arriving` is a lockstep read in the receive crossing, which is slotted on c a + 4 (R217). -/
inductive Stage | fabric | arriving | regulator | crossbar | lines
  deriving DecidableEq, Repr

/-- A store request. `serial` numbers the requests in the order they arrived; `rq` is the requester code (R141); `addr` an
engine address; `mask` and `poison` have one bit for each byte of the request; `got` is how many bytes of a cut-through
write's data have arrived; `ctx` is the fabric context of an FE request (0 FG, 1 BG). `status` and `back` are filled
line by line. `credited` says that its credit has been returned, and `words` are the packet blocks of a request handed to the fabric. `arrived` and `xat` are the c of arrival and of leaving the regulator for the crossbar, `due` the client watchdog. -/
structure Req where
  serial : Nat
  rq : Nat
  kind : ReqKind
  tag : Nat := 0
  addr : Nat := 0
  lines : Nat := 1
  posted : Bool := false
  ordered : Bool := false
  lockstep : Bool := false
  data : List Byte := []
  mask : Nat := 0
  poison : Nat := 0
  openData : Bool := false
  range : Nat := 0
  lease : Nat := 0
  ctx : Nat := 0
  stage : Stage := .regulator
  arrived : Nat := 0
  xserial : Nat := 0
  xat : Nat := 0
  due : Option Nat := none
  waited : Bool := false
  complete : Bool := false
  credited : Bool := false
  words : List Nat := []
  depart : Nat := 0
  slot : Nat := 0
  status : List (Option Nat) := []
  back : List (List Byte) := []
  deriving DecidableEq, Repr

/-- Where a line stands: in its requester's input queue at the arbiter, in a read queue, in a write queue, issued to DRAM
and not checked yet, its replay waiting or issued, or slotted as a lockstep line. -/
inductive LineStage | input | readQ | writeQ | issued | replayQ | replayed | slotted | retry | retryQ
  deriving DecidableEq, Repr

/-- One line beyond the crossbar. `serial` is its place in the order of grants, `req` the serial of its request, `ix` its
number within it, `line` the line index L of R168. `isOpen` is an open write (R152). `broken` marks a read that waited on
a discarded write. `first` is the data of the first read while a replay runs. `pos` is the wheel c a lockstep line is
slotted at. `reread` marks a read in flight whose data will be discarded and `redo` one whose data was (R300); `failTs` is the
timestamp of the first failed check or the first alert (R316). In the retry buffer `attempts` counts the bursts and `windowEnd` ends the CRC window (R299); `vis`
is the place of a write in the order of visibility and `ord` the place of a line in the order of grants. -/
structure Ent where
  serial : Nat
  req : Nat
  rq : Nat
  ix : Nat
  ch : Nat
  line : Nat
  isWrite : Bool
  data : List Byte := []
  mask : Nat := 0
  poison : Nat := 0
  isOpen : Bool := false
  stage : LineStage := .input
  granted : Nat := 0
  issued : Nat := 0
  hazard : Bool := false
  broken : Bool := false
  reread : Bool := false
  got : List Byte := []
  check : List Byte := []
  first : Option (List Byte × List Byte) := none
  pos : Nat := 0
  attempts : Nat := 0
  windowEnd : Nat := 0
  vis : Nat := 0
  ord : Nat := 0
  addr : Nat := 0
  firstMask : Nat := 0
  alerted : Nat := 0
  redo : Bool := false
  failTs : Option Nat := none
  watch : Option Nat := none
  firstAt : Nat := 0
  deriving DecidableEq, Repr

/-- The DRAM commands of R202 that the timing rules speak of. -/
inductive DramKind | act | pre | rd | wr | refab | refsb | rfmsb | mrw | mrr | sre | srx | pdx
  deriving DecidableEq, Repr

/-- A command: its rank (DIMM and rank as one number), bank group and bank, row, whether a write burst is masked or a column
command carries auto-precharge, its c, and whether it is issued under the bracketed counts of R212. -/
structure DramCmd where
  kind : DramKind
  rank : Nat
  bg : Nat
  bank : Nat
  row : Nat
  masked : Bool
  autoPre : Bool
  at' : Nat
  hot : Bool
  deriving DecidableEq, Repr

/-- A subchannel: its mode and the writes issued since DRAIN was entered, the c it entered and the thresholds that it runs under
(R224), the open rows by bank number with the c each was last hit, and the commands of the last 512 c; the c until which it stays in READ
mode after a drain that ended early (R207), and the free positions that tracking took in the last 16 wheels (R275). -/
structure SubCh where
  drain : Bool := false
  drained : Nat := 0
  drainAt : Nat := 0
  dLow : Nat := 0
  dBatch : Nat := 0
  dMax : Nat := 0
  rows : SMap (Option (Nat × Nat)) := []
  hist : List DramCmd := []
  readUntil : Nat := 0
  took : List Nat := []
  deriving DecidableEq, Repr

/-- A row-disturbance event waiting for its neighbour-refresh positions (R239 to R245): the aggressor, whether an RFMsb serves it and
whether RAA asked for it (it is no draw), the rows still to be refreshed with the c of the position each is assigned to (0 while it
has none), the c its ACT in progress was issued, and whether the timing checker holds its command. -/
structure NrEvent where
  rank : Nat
  bg : Nat
  bank : Nat
  sub : Nat := 0
  rfm : Bool := false
  raa : Bool := false
  todo : List (Nat × Nat) := []
  openAt : Option Nat := none
  held : Bool := false
  deriving DecidableEq, Repr

/-- The refresh state of one rank of one subchannel: where its rotation of banks stands, the c of each bank's last refresh,
the accumulated ACT counts, and whether the timing checker holds its refresh (R231 to R243, R251). -/
structure RankRefresh where
  next : Nat := 0
  passLeft : Nat := 0
  lastAt : SMap Nat := []
  raa : SMap Nat := []
  acts : SMap Nat := []
  overdue : Nat := 0
  held : Bool := false
  deriving DecidableEq, Repr

/-- A trained set held in retention memory (R272, R273): whether it is valid, and its 2,304 bytes. -/
structure TrainedSet where
  valid : Bool := false
  bytes : List Byte := []
  deriving DecidableEq, Repr

/-- Why a channel is training (R281) and how far it has come: the operating points left, whether the search is FULL, whether a
TRAIN_CMD asked for it, whether it runs yet and since when, the operating point the channel will run at, the time each step of the run
takes in microseconds, and whether its step 5 has saved the training rows (R265, R268). -/
structure TrainRun where
  ops : List Nat := []
  full : Bool := true
  command : Bool := false
  running : Bool := false
  started : Nat := 0
  finalOp : Nat := 3
  times : List Nat := []
  saved : Bool := false
  deriving DecidableEq, Repr

/-- A store channel: its DIMMs, acceptance, whether step 2 of a training has passed since the reset (R287), parking and self-refresh; queues are in the lists of lines. The rest is refresh,
training, scrub and fill state that no object shows: among it the c of the MRRs, oscillator runs, reads and lane updates of tracking (R237,
R275), the LFSR of the entropy source and whether its start-up test has passed (R240, R255), the c at which the multiplier last changed
(R250), and the operating points of start-up that a reset left untrained (R270). -/
structure Chan where
  dimms : List Dimm := []
  accepted : Bool := false
  failed : Bool := false
  caPassed : Bool := false
  parked : Bool := false
  resuming : Bool := false
  selfRefresh : Bool := false
  subA : SubCh := {}
  subB : SubCh := {}
  refresh : SMap RankRefresh := []
  nr : List NrEvent := []
  kQuiet : Nat := 0
  tempFirst : Bool := false
  tempCool : Nat := 0
  mr4At : SMap Nat := []
  mr4Sent : SMap Nat := []
  oscRun : SMap Nat := []
  oscAt : SMap Nat := []
  readAt : SMap Nat := []
  laneAt : SMap Nat := []
  lfsr : BitVec 32 := 0
  entropyUp : Bool := false
  multAt : Nat := 0
  opsLeft : List Nat := []
  mr4Seen : List Nat := []
  mr4Worst : Nat := 0
  mr4Late : List Nat := []
  place : List Nat := []
  shed : List Nat := []
  grantAt : Nat := 0
  cmdA : Nat := 0
  cmdB : Nat := 0
  quotaStart : Nat := 0
  quotaBase : SMap Nat := []
  quotaUsed : SMap (Nat × Nat) := []
  rrHigh : Nat := 0
  rrNormal : Nat := 0
  rrLeft : Nat := 0
  rrBack : Nat := 0
  fsWait : Option Nat := none
  guardFired : Bool := false
  pathHolder : Option Nat := none
  pathSince : Nat := 0
  train : Option TrainRun := none
  sets : List TrainedSet := [{}, {}, {}, {}]
  trackAt : SMap Nat := []
  fillNext : Nat := 0
  filled : Bool := false
  scrubSince : Nat := 0
  mustTrain : Bool := false
  keptOffsets : Bool := true
  saveBuf : List (Nat × List Byte × List Byte) := []
  stoppedAt : Nat := 0
  deriving DecidableEq, Repr

/-- A held range lock (R184): holder, start line, range, lease in microseconds, the timestamp of the grant or renewal, and
the lines written into it. -/
structure Lock where
  holder : Nat
  start : Nat
  range : Nat
  lease : Nat
  since : Nat
  written : Nat := 0
  deriving DecidableEq, Repr

/-- A response packet (R116) or ABORT_DONE. -/
structure Packet where
  opcode : Nat
  sub : Nat
  tag : Nat
  status : Nat
  lines : Nat
  lineStatus : Nat
  data : List Byte
  lockstep : Bool := false
  depart : Nat := 0
  deriving DecidableEq, Repr

/-- A block of a lane (R100): the control blocks by their types with their fields, and a data block. `counts` are the credits returned, three bits for
each sub-ID. -/
inductive LaneBlock
  | idle
  | train (port : Nat) (seen : Bool)
  | ack (seq : Nat)
  | nak (seq : Nat)
  | credit (counts : Nat)
  | sop (seq kind len : Nat) (replayed : Bool)
  | eop (seq crc : Nat)
  | data (w : Nat)
  deriving DecidableEq, Repr

/-- A packet the partner has not acknowledged: its SEQ, how often it has been replayed, and when it was last sent. -/
structure SentPacket where
  seq : Nat
  packet : Packet
  replays : Nat := 0
  sentAt : Nat := 0
  waiting : Bool := false
  deriving DecidableEq, Repr

/-- A stream port (R99 to R137): training and its failures in a row, the sequence numbers, discarding after a bad packet, the
responses waiting to be sent, the unacknowledged packets, the packets accepted since the last ACK and when it is due, a NAK and the credits by sub-ID
that wait to be sent, the times of the bad packets, the departure intervals reserved, and the blocks that the lane sent last. -/
structure StreamPort where
  trainFrom : Option Nat := none
  retryAt : Option Nat := none
  failsInRow : Nat := 0
  txSeq : Nat := 0
  rxSeq : Nat := 0
  discarding : Bool := false
  txq : List Packet := []
  unacked : List SentPacket := []
  ackOwed : Nat := 0
  ackDue : Nat := 0
  bad : List Nat := []
  reserved : List (Nat × Nat) := []
  busyUntil : Nat := 0
  nakOwed : Option Nat := none
  owed : SMap Nat := []
  lane : List LaneBlock := []
  deriving DecidableEq, Repr

/-- What an abort names (R123): a client, a stream port, a host queue, a fabric context. -/
inductive AbortTarget
  | client (c : Nat)
  | port (p : Nat)
  | host (q : Nat)
  | ctx (i : Nat)
  deriving DecidableEq, Repr

/-- A running abort (R123, R124): its target, the cause its orphaned locks are logged with, the c it is done at, and whether the target is disabled
then (R130). -/
structure AbortRun where
  target : AbortTarget
  why : Nat
  ends : Nat
  off : Bool := false
  deriving DecidableEq, Repr

/-- A word in an edge queue of the fabric (R406, R409): its data and flags, the c from which it can be taken, and for a word of a
stream-port request the request it belongs to. -/
structure EdgeWord where
  data : Word
  last : Bool := false
  poison : Bool := false
  ready : Nat := 0
  req : Option Nat := none
  tail : Bool := false
  src : Nat := 0
  deriving DecidableEq, Repr

/-- What waits in a host queue in link order (R483, R488): a write TLP with its BAR2 offset, bytes and byte enables, Relaxed Ordering
and poison; a read TLP; a command of its page with the registers in force at the write. -/
inductive HostItem
  | write (off : Nat) (data : List Byte) (be : Nat) (relaxed poisoned : Bool)
  | read (off len : Nat)
  | command (op addr range lease : Nat)
  deriving DecidableEq, Repr

/-- An open line of a host queue (R485): its request, its address, the BAR2 offset of the byte that would continue it, the bytes it
holds, and the c at which it stops waiting. -/
structure HostOpen where
  req : Nat
  addr : Nat
  next : Nat
  data : List Byte
  mask : Nat
  poisoned : Bool
  due : Nat
  deriving DecidableEq, Repr

/-- One line of a read TLP: its request, its address, and its status and data once it has them. -/
structure HostLine where
  req : Nat
  addr : Nat
  result : Option (Nat × List Byte) := none
  deriving DecidableEq, Repr

/-- A read TLP being completed (R486): its first byte and its end, and the lines not completed yet. -/
structure HostRead where
  first : Nat
  last : Nat
  lines : List HostLine
  deriving DecidableEq, Repr

/-- A host queue (R483 to R488): what waits in link order, its open line, its reads, the registers of its command page, RESULT, and
the request of the command that is pending. -/
structure HostQueue where
  items : List HostItem := []
  openLine : Option HostOpen := none
  reads : List HostRead := []
  addr : Nat := 0
  range : Nat := 0
  lease : Nat := 0
  result : Nat := 0
  pending : Option Nat := none
  waiting : Bool := false
  deriving DecidableEq, Repr
/-- One command as the guard table remembers it (R341, R342): its class, its site, whether it names banks, the bank group and bank it
names (none: every one), and the CK of its first CA cycle. -/
structure GuardCmd where
  cls : Nat
  site : Nat
  banked : Bool := false
  bg : Option Nat := none
  bank : Option Nat := none
  ck : Nat := 0
  deriving DecidableEq, Repr

/-- A data burst on its way to its compare, or the end of a burst behind them (R382, R384, R387): the CK of the command, its TAG, BL
and sites, the NO_COMPARE reason (0 when it is compared) and the words of its expected entry. -/
structure DBurst where
  ck : Nat := 0
  tag : Nat := 0
  bl : Nat := 0
  sites : Nat := 0
  reason : Nat := 0
  words : List Nat := []
  ending : Bool := false
  deriving DecidableEq, Repr

/-- A DUT supply (R345 to R350): its path (a start, the time of it, a target, and a rate in 0.1 mV per ms), voltages in 0.1 mV; whether
it regulates on local sense, is pinned, or is in foldback; the last samples; how many samples in a row each fault condition has
held; and whether TRACK_RESET waits for a sample. -/
structure Supply where
  v0 : Nat := 0
  t0 : Nat := 0
  target : Nat := 0
  rate : Nat := 0
  onLocal : Bool := false
  pinned : Bool := false
  fold : Bool := false
  volts : List Nat := []
  amps : List Nat := []
  overFor : Nat := 0
  underFor : Nat := 0
  aboveFor : Nat := 0
  openFor : Nat := 0
  trackArm : Bool := false
  sampleAt : Nat := 0
  deriving DecidableEq, Repr

/-- A probe channel (R329 to R344, R373 to R389). `last` is the CK of the last cycle of the last command, counted as c times N; `late`
says that an underrun has been counted for the instruction to come. `resetN` is the level of PBn_RESET_N, none when
high-impedance; `driven` the last command put on CA and CS_n. `cap` and `held` are the capture queues and the holding registers of the
sites, a record as its words; `capPart` is the rest of a record whose first words have been delivered. `cal` is the running
calibration (whether it is FULL and whether CAL_CMD asked for it); `calOwed` says that a FULL one is due on entry to IDLE. -/
structure ProbeCh where
  queue : List Nat := []
  pairAt : Nat := 0
  last : Nat := 0
  late : Bool := false
  resetN : Option Bool := none
  driven : Option (Nat × Nat × Nat) := none
  hist : List GuardCmd := []
  lowPower : Nat := 0
  due : List DBurst := []
  expected : List Nat := []
  expTurn : Nat := 0
  expAt : Nat := 0
  prev : List Nat := []
  owed : List (Nat × Nat) := []
  cap : SMap (List (List Nat)) := []
  capPart : SMap (List Nat) := []
  capAt : SMap Nat := []
  held : SMap (List (List Nat)) := []
  counts : SMap (Nat × Nat × Nat) := []
  cal : Option (Bool × Bool) := none
  calStart : Nat := 0
  calOwed : Bool := false
  calJust : Bool := false
  replicaAt : Nat := 0
  mr : Option Nat := none
  failHigh : Bool := false
  failUntil : Nat := 0
  failCyc : Nat := 0
  supplies : List Supply := [{}, {}, {}]
  stage : Nat := 0
  rampRate : Nat := 10000
  kept : List Nat := []
  tested : Bool := false
  deriving DecidableEq, Repr
/-- A word in an inbox: its data and flags, and the c from which it can be popped (R398, R406). -/
structure InWord where
  data : Word
  last : Bool := false
  poison : Bool := false
  ready : Nat := 0
  deriving DecidableEq, Repr

/-- A flit on the mesh: its word, the destination of R404 and the c from which it can move. -/
structure Flit where
  data : Word
  last : Bool := false
  poison : Bool := false
  dest : Nat := 0
  ready : Nat := 0
  deriving DecidableEq, Repr

/-- One context of a tile (R398): context memory (words past its end are NOP), g1–g15 with their poison bits, O0–O3, the inboxes, the
PC, the run state (0 NOT_LOADED, 1 RUNNING, 2 HALTED, 3 STOPPED, 4 TRAPPED), the WAITC count (while RUNNING the c from which it issues
again, else the c remaining), the flags RFLG reads, the trap record, and the c of its last START. -/
structure Ctx where
  mem : List Word := []
  regs : SMap Word := []
  poison : Nat := 0
  routes : List Nat := [0, 0, 0, 0]
  inboxes : List (List InWord) := [[], [], [], []]
  pc : Nat := 0
  run : Nat := 0
  wait : Nat := 0
  flags : List Nat := [0, 0, 0, 0, 0, 0]
  trapCause : Nat := 0
  trapImm : Nat := 0
  since : Nat := 0
  deriving DecidableEq, Repr

/-- A tile: its two contexts, the router's input queues N, E, S, W, L, the round-robin positions and the next free c of its outputs, and
the next c it can issue on. -/
structure Tile where
  fg : Ctx := {}
  bg : Ctx := {}
  queues : List (List Flit) := [[], [], [], [], []]
  turn : List Nat := [0, 0, 0, 0, 0]
  free : List Nat := [0, 0, 0, 0, 0]
  next : Nat := 0
  deriving DecidableEq, Repr

/-- A running scan operation (R440): 1 OUT, 2 IN, 3 EXCHANGE, with its target, frames, flags and the c of its last pass. -/
structure ScanJob where
  op : Nat
  target : Nat
  out : Nat
  inn : Nat
  flags : Nat
  ends : Nat
  deriving DecidableEq, Repr

/-- A running image load (R431, R433): its context, the bytes it has, the next store address and the bytes wanted in all while lines are
being read, and whether a line was not OK or the source is too short. -/
structure ImageJob where
  ctx : Nat
  bytes : List Byte := []
  addr : Nat := 0
  want : Nat := 0
  reading : Bool := false
  bad : Bool := false
  deriving DecidableEq, Repr

/-- A running frame move (R443): 1 SAVE, 2 FETCH, the frame, the next line, whether a line was not OK, and the words fetched. -/
structure MoveJob where
  op : Nat
  frame : Nat
  addr : Nat
  line : Nat := 0
  waiting : Bool := false
  bad : Bool := false
  words : SMap Nat := []
  tail : List Byte := []
  deriving DecidableEq, Repr
/-- A message channel's hidden state (R461, R467): the filler's party code (0 none) and its last write, and when the message is given up. -/
structure MsgCh where
  filler : Nat := 0
  fillAt : Nat := 0
  due : Nat := 0
  deriving DecidableEq, Repr

/-- An MB port taking a SEND (R468): its channel and the data words taken, or the words of a refused one being discarded. -/
structure MbPort where
  chan : Option Nat := none
  taken : Nat := 0
  drop : Bool := false
  deriving DecidableEq, Repr
/-- A settings slot (R521, R522): the fields of its header, the stored values by object key with the bytes of each, and whether its CRC
matches. -/
structure NvsSlot where
  seq : Nat := 0
  part : Nat := 0
  firmware : Nat := 0
  ts : Nat := 0
  kind : Nat := 1
  flags : Nat := 0
  bank : Nat := 0xFF
  bankSeq : Nat := 0
  body : List (Nat × List Byte) := []
  whole : Bool := true
  deriving DecidableEq, Repr

/-- A system-record bank (R523): its sequence number and timestamp, the trained sets at 4 * channel + operating point, the fenced pages,
and whether its CRCs match. -/
structure NvsBank where
  seq : Nat := 0
  ts : Nat := 0
  sets : SMap TrainedSet := []
  fence : List Nat := []
  whole : Bool := false
  deriving DecidableEq, Repr

/-- A user entry (R524): its number, entry sequence number and timestamp, its content, the image-area pages that hold it, and whether the
CRC of the content matches. -/
structure NvsEntry where
  number : Nat
  seq : Nat
  ts : Nat
  content : List Byte
  pages : List Nat
  whole : Bool := true
  deriving DecidableEq, Repr

/-- A running store, restore or user-entry write (R528, R530): the object its status is read at, when it was accepted, and what it
writes: a bank, a slot with its place, or an entry. -/
structure NvsOp where
  status : Nat
  started : Nat
  bank : Option (Nat × NvsBank) := none
  slot : Option (Nat × NvsSlot) := none
  entry : Option NvsEntry := none
  deriving DecidableEq, Repr

/-- The settings store (R520 to R531): the slots, the two banks, the user entries, the slots and pages marked bad, the running operation,
whether the newest slot is a restore that has not acted, and the firmware packages: the one that runs, the one in the other bank,
and how many have been loaded. `bootOp` is the vendor copy of OP_BOOT (R633). -/
structure Nvs where
  slots : SMap (Option NvsSlot) := []
  banks : SMap NvsBank := []
  entries : List NvsEntry := []
  badSlots : List Nat := []
  badPages : List Nat := []
  op : Option NvsOp := none
  fwRunning : Nat := 0
  fwIdle : Option Nat := none
  fwLoads : Nat := 0
  fwWaiting : Bool := false
  bootOp : Option Nat := none
  deriving DecidableEq, Repr
/-- An operating-point transition that is running (R611, R613): its target, whether it is a forced move, its step (the codes of OP_STATE),
the time step 2 began, the operating point it began at, whether the channels it put into self-refresh are to resume, and when the retune of step 4
began (R48, R49). -/
structure OpRun where
  target : Nat
  forced : Bool := false
  step : Nat := 2
  began : Nat := 0
  fromOp : Nat := 3
  resume : Bool := true
  drained : List Nat := []
  retuneAt : Nat := 0
  deriving DecidableEq, Repr

/-- The clocks (R29 to R51): the running transition and the request waiting behind it, a forced move held by a power-state entry, the time
of a clock failure, whether a forced move was cut short and is to be completed, the operating point whose frequency the holdover keeps when it is
not OP_CURRENT (R51), the times of the last
shmoo step and of the last slew of the timestamp, whether the timestamp's step is armed, whether the c edges lie on the frame grid again while
alignment is not yet shown (R35), and whether the stamps are uncertain for a past holdover or sleep (R50, R586). -/
structure Clocks where
  run : Option OpRun := none
  waiting : Option Nat := none
  heldForce : Option Bool := none
  failedAt : Nat := 0
  recoverAt3 : Bool := false
  holdsOp : Option Nat := none
  slewAt : Nat := 0
  adjustAt : Nat := 0
  armed : Bool := false
  regrid : Bool := false
  unsure : Bool := false
  deriving DecidableEq, Repr

/-- The VCORE regulator and the hold-up bank (R601 to R624). The output heads from `v0` at `t0` for `target`, in 0.1 mV, at `rate` 0.1 mV per
microsecond. `ll` is LL_OFFSET in 0.1 mV. `senseOff` and `dutSense` are the phases shut off for a sense failure, `checks` counts failed
checks in a row by supply; `fold` says that VCORE is in foldback and `forcedEnd` when the last forced move ended. `chargeFrom` is the
start of the charge, `coldAt` the time the withholding of line 40 counts from, `testFrom` the start of a running bank test; `testDue`
is when the next one is due. -/
structure Regs where
  on : Bool := true
  v0 : Nat := 6500
  t0 : Nat := 0
  target : Nat := 6500
  rate : Nat := 0
  ll : Int := 0
  senseOff : Nat := 0
  dutSense : Nat := 0
  checks : SMap Nat := []
  fold : Bool := false
  forcedEnd : Option Nat := none
  restoreFrom : SMap Nat := []
  chargeFrom : Option Nat := none
  coldAt : Nat := 0
  firstTest : Bool := true
  testDue : Option Nat := none
  testFrom : Option Nat := none
  ready : Bool := true
  deriving DecidableEq, Repr
/-- A power-state entry in progress (R573 to R579): its target, when it began, the participants asked whose reply has not come, those that
delay with their code and the time of their first delay, when they were last asked, the last abort point reached (none before A0), whether it is to
be abandoned at the next one, the wake event that came after A5, and CHANNELS_READY at its start. -/
structure Entry where
  target : Nat
  began : Nat
  asked : List Nat := []
  delaying : List (Nat × Nat × Nat) := []
  askedAt : Nat := 0
  point : Option Nat := none
  abandon : Bool := false
  late : Option (Nat × Nat) := none
  ready : Nat := 0
  deriving DecidableEq, Repr

/-- The always-on wake record of a WATCH entry (R585): the channels whose FILL_STATE was DONE, WATCH_KEEP_DRAM, OWL_ENABLE and SB_ADDRESS, and
whether it holds (between A5 and PAD_RELEASE). The timestamp, the pad latch and the WAKE objects are kept where they are. -/
structure WakeRecord where
  valid : Bool := false
  filled : List Nat := []
  keep : Bool := true
  owl : Bool := true
  address : Nat := 0x4E
  deriving DecidableEq, Repr

/-- The power controller (R568 to R597). `mode` is 0 RUN, 1 DOZE, 2 DORMOUSE, 3 RETAIN, 4 WATCH, 5 OFF; `waking` says that a wake is under
way, `waiting` the request behind the transition; `lastPoint` is the last abort point reached. `slept` is the time of the point of no return and
`sleptOp` the operating point at entry. `storms` are the times of the entries abandoned, `holdoff` the end of a holdoff. `owlArmed` is Owl's
arming and `owlAt` the time it matched, with SCL held. `sampleAt` is when the next sample starts, `sampling` says that one runs. `wakeLow` is the
level of WAKE_N; `hotHold` holds a wake after a thermal shutdown. -/
structure Pwr where
  mode : Nat := 0
  entry : Option Entry := none
  waking : Bool := false
  waiting : Option Nat := none
  lastPoint : Nat := 7
  slept : Nat := 0
  sleptOp : Nat := 3
  storms : List Nat := []
  holdoff : Nat := 0
  owlArmed : Bool := false
  owlAt : Option Nat := none
  sampleAt : Nat := 0
  sampling : Bool := false
  wakeLow : Bool := false
  hotHold : Bool := false
  record : WakeRecord := {}
  deriving DecidableEq, Repr

/-- Resets and start-up (R628 to R653): the levels of RESET_N and WARM_N, the step at which a start waits (0 none, 2 for VIN, 3 for VCORE,
4 for REF_CLK), the LAST_START code the start will record and when it began, what BOOT follows (0 cold start, 1 warm reset, 2 wake from WATCH),
the always-on copy of COLD_ERASE, whether the channels wait in self-refresh for PAD_RELEASE under RESUME_MODE HOLD, whether the engine is parked on
the bank, whether training at start-up (step 6) is still owed, whether a return of parked channels is under way, whether the wake follows a
shutdown, whether START_MS still counts, and until when the DUT supplies ramp down in a cold reset, with the FAIL pins high. -/
structure Rst where
  coldLow : Bool := false
  warmLow : Bool := false
  wait : Nat := 0
  start : Nat := 1
  began : Nat := 0
  follow : Nat := 0
  coldErase : Bool := false
  hold : Bool := false
  vinParked : Bool := false
  step6 : Bool := false
  resumeOwed : Bool := false
  shutdown : Bool := false
  counting : Bool := true
  rampsUntil : Nat := 0
  deriving DecidableEq, Repr

/-- The engine. -/
structure State where
  /-- The commands that are waiting, first in, first out. -/
  pending : List Instr
  /-- The part's fuse (R23). -/
  part : Part
  /-- Time since the power-on, in units of 5/36 ns: every clock period of R30 is a whole number of them. -/
  now : Nat
  /-- CCLK cycles counted since the power-on (CYC). -/
  cyc : Nat
  /-- How much of the c in progress has gone by, in 1/720,000 of a c: in one unit of `now` a c advances by its frequency in 10 kHz (R30, R35). -/
  phase : Nat
  /-- What the timestamp is ahead of the free count, modulo 2^64 (R38, R40). -/
  tsOff : Nat
  /-- The values of the objects, as a read of each gives the last accepted value (R58, R62). -/
  dict : SMap Nat
  /-- The bytes of the DOMAIN and VISIBLE_STRING objects. -/
  doms : SMap (List Byte)
  /-- The values accepted and waiting for their boundary (R62). -/
  shadows : List Shadow
  session : Session
  port : WritePort
  /-- The 64 KiB staging buffer of the BAR0 window (R77). -/
  staging : List Byte
  /-- What the last control-path access was answered. -/
  answer : Answer
  /-- Raises whose reactions the running command has not taken yet; empty between commands. -/
  raised : List Raise
  /-- How many free values have been drawn: the model's own counter. -/
  drawn : Nat
  /-- What the engine sent on its control links during the last command. -/
  sent : List Emit
  pcie : Pcie
  ect : Ect
  sb : Sideband
  /-- The C causes that hold on each error line, as a word of the model's own cause bits (R544). -/
  causes : SMap Nat
  /-- The lines whose reactions begin at the end of a wake from DOZE (R668). -/
  deferred : List Nat
  /-- The number given to the next request or line. -/
  serial : Nat
  /-- The store requests that have not been answered or completed, oldest first. -/
  reqs : List Req
  /-- The lines beyond the crossbar, in the order of their grants. -/
  ents : List Ent
  /-- Requests answered by the running command, on their way to their requesters; empty between commands. -/
  answers : List Req
  /-- The store channels. -/
  chans : SMap Chan
  /-- What is stored in DRAM: 64 data bytes and 16 check bytes, by channel * 2^40 + line index. -/
  dram : SMap (Option (List Byte × List Byte))
  /-- How often the contents of each channel's DRAM have been lost (R307, R640). -/
  lost : SMap Nat
  /-- The address map has been computed (R196). -/
  mapped : Bool
  /-- The c at which the wheel stands at position 0 (R215). -/
  wheelBase : Nat
  /-- The time of the last frame boundary the wheel and the crossings restarted on (R31). -/
  frameBase : Nat
  locks : List Lock
  ports : SMap StreamPort
  /-- The credits each client has been granted and not spent (R109). -/
  credits : SMap Nat
  /-- The aborts that run, in the order they began (R123). -/
  aborts : List AbortRun
  /-- The bucket of each regulated requester, in units of 1/4096 line, with the c it was last brought up to date; an
  unlisted bucket stands at its ceiling (R149, R161). -/
  buckets : SMap (Option (Int × Nat))
  /-- The retire fence: the numbers of the fenced 4 KiB pages, ascending (R318 to R320). -/
  fence : List Nat
  /-- The inbound queues of the edge ports by port number, oldest first (R406, R416). -/
  edgeIn : SMap (List EdgeWord)
  /-- The outbound queues of the edge ports. -/
  edgeOut : SMap (List EdgeWord)
  /-- Words of requests handed to the fabric that the inbound queue has no room for yet (R416). -/
  edgeWait : SMap (List EdgeWord)
  /-- The host queues H0 to H3. -/
  hqs : SMap HostQueue
  /-- The probe channels. -/
  probes : SMap ProbeCh
  /-- The tiles of the fabric, T(x,y) at 16y + x. -/
  tiles : SMap Tile
  /-- EDGE_BIND: one byte for each bound port (R425). -/
  bind : SMap Nat
  /-- The FE ports and stream-port service ports that discard words after a protocol error (R415). -/
  portBad : List Nat
  /-- The open write of each FE port: its request, and the data words still to come (R413). -/
  feOpen : SMap (Option (Nat × Nat))
  /-- The inbound edge queues that take nothing while their context is scanned (R441). -/
  edgeHeld : List Nat
  /-- The c at which the head of each watched queue last moved, by tile * 16 + the queue code of STALL_AT (R422). -/
  headMoved : SMap Nat
  /-- The words of the eight frames, by frame * 32768 + word (R436). -/
  frames : SMap Nat
  scan : Option ScanJob
  imageJob : Option ImageJob
  moveJob : Option MoveJob
  /-- The contexts whose fault drain waits for the scan unit (R444). -/
  drainWait : List Nat
  /-- The fault drain that runs, as an OUT (R444). -/
  drain : Option ScanJob
  /-- The message channels. -/
  msgs : SMap MsgCh
  /-- The words of message channels that tiles have popped in the command that runs (R471, R472). -/
  mbPops : List EdgeWord
  /-- The MB ports MB0 to MB3. -/
  mbs : SMap MbPort
  /-- The settings store. -/
  nvs : Nvs
  /-- The clocks and operating-point transitions. -/
  clk : Clocks
  /-- VCORE and the hold-up bank. -/
  regs : Regs
  /-- The power controller. -/
  pwr : Pwr
  /-- Resets and start-up. -/
  rst : Rst
  deriving DecidableEq, Repr

/-- The engine right after a power-on, at the start of BOOT (R94, R632): every object at its default, the timestamp at
0, nothing listed in the store. VIN is present, since BOOT begins only then: bit 0 of VIN_STATUS (R614, R632). -/
def State.reset : State where
  pending := []
  part := .ft4216
  now := 0
  cyc := 0
  phase := 0
  tsOff := 0
  dict := [(0x21A002, 1)]
  doms := []
  shadows := []
  session := {}
  port := {}
  staging := []
  answer := {}
  raised := []
  drawn := 0
  sent := []
  pcie := {}
  ect := {}
  sb := {}
  causes := []
  deferred := []
  serial := 0
  reqs := []
  ents := []
  answers := []
  chans := []
  dram := []
  lost := []
  mapped := false
  wheelBase := 0
  frameBase := 0
  locks := []
  ports := []
  credits := []
  aborts := []
  buckets := []
  fence := []
  edgeIn := []
  edgeOut := []
  edgeWait := []
  hqs := []
  probes := []
  tiles := []
  bind := []
  portBad := []
  feOpen := []
  edgeHeld := []
  headMoved := []
  frames := []
  scan := none
  imageJob := none
  moveJob := none
  drainWait := []
  drain := none
  mbPops := []
  msgs := []
  mbs := []
  nvs := {}
  clk := {}
  regs := {}
  pwr := {}
  rst := {}

end Sys2Proof.Machine
end

