-- ==== Sys2Proof/Machine/Ops.lean ====
section
/-! DEFINITION. The operations every block uses: reading and writing objects, counters and trackers, time and the
timestamp, what is sent on the control links, and the raise of an error line as the fault collector records it. -/

namespace Sys2Proof.Machine

/-- The accepted value of an object (R58). -/
def State.obj (s : State) (k : Nat) : Nat := mapGet objDefault s.dict k

/-- Give an object a value, whatever its access class: the engine's own change of it. -/
def State.setObj (s : State) (k v : Nat) : State := { s with dict := mapSet objDefault s.dict k v }

/-- The value of an object that acts on its block: the one before a shadow while one waits (R62). -/
def State.act (s : State) (k : Nat) : Nat :=
  match s.shadows.find? fun h => h.key == k with
  | some h => h.acting
  | none => s.obj k

/-- Change an object by a function of its value. -/
def State.modObj (s : State) (k : Nat) (f : Nat → Nat) : State := s.setObj k (f (s.obj k))

/-- Add to a saturating counter (R695). -/
def State.addTo (s : State) (k n : Nat) : State := s.setObj k (min (objMax k) (s.obj k + n))

/-- Count one event in a saturating counter (R695). -/
def State.bump (s : State) (k : Nat) : State := s.addTo k 1

/-- Count one event in a counter that runs modulo 2^32. -/
def State.wrapBump (s : State) (k : Nat) : State := s.setObj k ((s.obj k + 1) % 2 ^ 32)

/-- Keep the largest value in a tracker (R695). -/
def State.track (s : State) (k v : Nat) : State := s.setObj k (max (s.obj k) (min v (objMax k)))

/-- Set or clear one bit of an object. -/
def State.setBit (s : State) (k i : Nat) (b : Bool) : State := s.setObj k (withBit (s.obj k) i b)

/-- Bit i of an object. -/
def State.bit (s : State) (k i : Nat) : Bool := bitOf (s.obj k) i

/-- A group of updates for each of the numbers from `i` up. -/
def State.forAll (s : State) (n : Nat) (f : Nat → State → State) : State := (List.range n).foldl (fun t i => f i t) s

/-- A group of updates, one for each element of a list. -/
def State.each {α : Type} (s : State) (l : List α) (f : α → State → State) : State := l.foldl (fun t a => f a t) s

/-- An update made only on a condition. -/
def State.when (s : State) (b : Bool) (f : State → State) : State := if b then f s else s

/-- Shadows that reach their boundary act: their values are already in the dictionary (R62). -/
def State.dropShadows (s : State) (p : Shadow → Bool) : State := { s with shadows := s.shadows.filter fun h => !p h }

/-! Time. -/

/-- Units of `now` in one microsecond. -/
def usTicks : Nat := 7200

/-- Units of `now` in one millisecond. -/
def msTicks : Nat := 7200000

/-- Units of `now` in one c at an operating point (R30). -/
def opTicks (op : Nat) : Nat := match op with | 0 => 8 | 1 => 9 | 2 => 12 | _ => 18

/-- CCLK in Hz at an operating point (R30). -/
def cclkHzOf (op : Nat) : Nat := match op with | 0 => 900000000 | 1 => 800000000 | 2 => 600000000 | _ => 400000000

/-- The operating point whose frequency CCLK has: OP_CURRENT, or in a holdover the one the core PLL holds (R51). -/
def State.clockOp (s : State) : Nat := s.clk.holdsOp.getD (s.obj Obj.opCurrent)

/-- Units of `now` in one c at the nominal frequency of the operating point in force. -/
def State.cTicks (s : State) : Nat := opTicks s.clockOp

/-- The parts of a c that `State.phase` counts. -/
def phaseUnits : Nat := 720000

/-- CCLK in units of 10 kHz, the shmoo offset reached included (R35): what a c advances by in one unit of `now`. -/
def State.cRate (s : State) : Nat := ((cclkHzOf s.clockOp / 10000 : Nat) + toInt 16 (s.obj Obj.shmooActual)).toNat

/-- The timestamp: one unit is 1.25 ns (R38). -/
def State.ts (s : State) : Nat := (s.now / 9 + s.tsOff) % 2 ^ 64

/-- TS_STATUS bit 2: the stamps are uncertain after a holdover or a sleep, and while SHMOO_ACTUAL is not zero (R39, R50, R586). -/
def State.showUnsure (s : State) : State := s.setBit Obj.tsStatus 2 (s.clk.unsure || s.obj Obj.shmooActual != 0)

/-- The stamps are uncertain until the next alignment step or power-on (R49, R50, R586). -/
def State.stampsUnsure (s : State) : State := ({ s with clk := { s.clk with unsure := true } }).showUnsure

/-- Parts of a c that have gone by at a time, since the c in progress began. -/
def State.phaseAt (s : State) (t : Nat) : Nat := s.phase + (t - s.now) * s.cRate

/-- Move the clock forward to a time that has not passed yet; c that have gone by are counted, and the part of the c in progress is kept (R30). -/
def State.advanceTo (s : State) (t : Nat) : State :=
  if s.now < t then { s with now := t, cyc := s.cyc + s.phaseAt t / phaseUnits, phase := s.phaseAt t % phaseUnits } else s

/-- Units of `now` until a count of c is reached. -/
def State.untilCyc (s : State) (c : Nat) : Nat := ceilDiv ((c - s.cyc) * phaseUnits - s.phase) s.cRate

/-- Move the clock forward to a count of c that has not been reached yet. -/
def State.advanceCyc (s : State) (c : Nat) : State :=
  if s.cyc < c then
    { s with now := s.now + s.untilCyc c, cyc := c, phase := s.phaseAt (s.now + s.untilCyc c) - (c - s.cyc) * phaseUnits }
  else s

/-- The time at which CCLK stands `num`/`den` c after the count began. -/
def State.timeAt (s : State) (num : Int) (den : Nat) : Nat :=
  (s.now + ((num - (s.cyc * den : Nat)) * phaseUnits - (s.phase * den : Nat)) / (s.cRate * den : Nat)).toNat

/-! The phase frame (R31, R35). -/

/-- Units of `now` in one phase frame of 330 ns. -/
def frameTicks : Nat := 2376

/-- The time of the next frame boundary. -/
def State.nextFrame (s : State) : Nat := s.frameBase + ((s.now - s.frameBase) / frameTicks + 1) * frameTicks

/-- The core PLL has locked: the dividers and the crossing patterns restart on the first frame boundary from now on, which is a c edge (R31). The grid of
frames is that of the lane and fixed PLLs, so it stays. -/
def State.toFrame (s : State) : State :=
  let t := s.frameBase + ceilDiv (s.now - s.frameBase) frameTicks * frameTicks
  let s := s.advanceTo t
  { s with frameBase := t, phase := 0 }

/-- The number of c in a time of `us` microseconds, rounded up, at the operating point in force. -/
def State.usToC (s : State) (us : Nat) : Nat := ceilDiv (us * usTicks) s.cTicks

/-! Free values. -/

/-- Take the next free value: its number. -/
def State.draw (s : State) : State × Nat := ({ s with drawn := s.drawn + 1 }, s.drawn)

/-- The n-th value from now that the spec leaves open. -/
def State.freeNat (s : State) (n : Nat) : Nat := Config.freeNat (s.drawn + n)

/-- The free values up to n have been used. -/
def State.drew (s : State) (n : Nat) : State := { s with drawn := s.drawn + n }

/-- The command written to a CMD object has finished (R60). -/
def State.cmdDone (s : State) (k : Nat) : State := s.setObj k 3
/-- It has failed after acceptance, with a reason of R84. -/
def State.cmdFailed (s : State) (k reason : Nat) : State := s.setObj k (0x80 + reason)

/-! Strings and domains. -/

/-- The bytes of a DOMAIN or VISIBLE_STRING object that a write has given it; the defaults are those of the object tables. -/
def State.setDom (dflt : Nat → List Byte) (s : State) (k : Nat) (d : List Byte) : State :=
  { s with doms := mapSet dflt s.doms k d }

/-! The host's links. -/

/-- The PCI Express function is up: its data link layer is up, it is out of reset and Bus Master Enable is set (R465). -/
def State.pcieUp (s : State) : Bool := s.bit Obj.pcieLink 9 && s.pcie.bme && s.pcie.dState == 0

/-- A vector can send: MSI-X is enabled, and neither the function nor the vector is masked (R490). -/
def State.msixOpen (s : State) (v : Nat) : Bool :=
  s.pcie.msixEnable && !s.pcie.msixFnMask && !bitOf s.pcie.msixMask v

/-- One MSI-X message: sent and counted, or left in the pending bits while it is masked or the function is down (R490). -/
def State.msix (s : State) (v : Nat) : State :=
  if s.pcieUp && s.msixOpen v then ({ s with sent := s.sent ++ [Emit.msix v] }).bump Obj.pcieMsixSent
  else { s with pcie := { s.pcie with msixPba := withBit s.pcie.msixPba v true } }

/-- An MSI-X message on a vector that an object names, 0xFF naming none. -/
def State.msixOn (s : State) (v : Nat) : State := if v = 0xFF then s else s.msix v

/-- The AL state is PRE-OP or higher: INIT and BOOT send no emergency (R498). -/
def State.coeUp (s : State) : Bool :=
  let a := s.obj Obj.ectAlState
  a == 2 || a == 4 || a == 8

/-- The management core is running: it is not being restarted (R91). -/
def State.mgUp (s : State) : Bool := !s.bit Obj.live 49

/-- ERROR_REGISTER (R95). -/
def State.errorRegister (s : State) : Nat := if s.obj Obj.ftw = 0 then 0 else 1

/-- Send the queued emergencies in order, when the AL state and the management core allow it (R498, R562). -/
def State.sendEmcy (s : State) : State :=
  if s.coeUp && s.mgUp then
    ({ s with sent := s.sent ++ s.ect.emcy, ect := { s.ect with emcy := [] } }).addTo Obj.ectEmcySent s.ect.emcy.length
  else s

/-- An emergency falls due: queued, or discarded and counted (R498). -/
def State.emcy (s : State) (code : Nat) (data : List Byte) : State :=
  if s.coeUp && s.ect.emcy.length < 8 then
    ({ s with ect := { s.ect with emcy := s.ect.emcy ++ [Emit.emcy code s.errorRegister data] } }).sendEmcy
  else s.bump Obj.ectEmcyLost

/-! Error lines. -/

/-- The effective reaction of a line (R553). -/
def State.effReaction (s : State) (n : Nat) : Nat := s.obj (Obj.reaction n) ||| s.obj (Obj.reactionFixed n)

/-- The line exists on the part (R25). -/
def State.lineExists (s : State) (n : Nat) : Bool :=
  s.part == .ft4216 || !((16 ≤ n && n ≤ 23) || n == 38)

/-- A latched FTW bit goes from 0 to 1: emergency and, with NOTIFY, a message (R549). -/
def State.latchFtw (s : State) (n : Nat) (notify : Bool) : State :=
  if s.bit Obj.ftw n then s
  else
    let s := s.setBit Obj.ftw n true
    let s := s.emcy 0xFF20 (leBytes 1 n ++ leBytes 4 s.ts)
    if notify then s.msixOn (s.obj Obj.fltVector) else s

/-- The episode record of a raise: it opens an episode, or is merged into the open one (R550, R551). -/
def State.episode (s : State) (n src : Nat) : State :=
  if s.obj Obj.epState = 0 then
    (((((((s.setObj Obj.epState 1).setObj Obj.epNumber ((s.obj Obj.epNumber + 1) % 2 ^ 32)).setObj Obj.epFirstLine n).setObj
      Obj.epFirstTs s.ts).setObj Obj.epFirstSource src).setObj Obj.epFirstReaction (s.effReaction n)).setObj Obj.epLines
      (2 ^ n)).setObj Obj.epMerged 0
  else
    ((((s.setBit Obj.epLines n true).bump Obj.epMerged).bump Obj.mergedTotal).setObj Obj.epLastTs s.ts).latchFtw 63 false

/-- A raise of an error line: RAISES, LAST_SOURCE, the FTW bit, the episode; its reaction is taken at the end of the
command (R544 to R553). -/
def State.raise (s : State) (n src : Nat) : State :=
  if s.lineExists n then
    let s := s.bump (Obj.raises n)
    let s := s.setObj (Obj.lastRaiseTs n) s.ts
    let s := s.setObj (Obj.lastSource n) src
    let s := s.latchFtw n (bitOf (s.effReaction n) 7)
    let s := s.episode n src
    { s with raised := s.raised ++ [⟨n, src⟩] }
  else s

/-- LAST_SOURCE: the instance, and the number of the bit set in the block's cause object (R545). -/
def sourceWord (unit causeBit : Nat) : Nat := unit % 256 + (causeBit % 256) * 256

/-- The C causes of a line that hold. -/
def State.causesOf (s : State) (n : Nat) : Nat := mapGet (fun _ => 0) s.causes n

/-- A C cause of a line begins to hold: LIVE is set and the line raised once (R544). -/
def State.beginCause (s : State) (n bit src : Nat) : State :=
  if !s.lineExists n || bitOf (s.causesOf n) bit then s
  else
    let s := { s with causes := mapSet (fun _ => 0) s.causes n (withBit (s.causesOf n) bit true) }
    (s.setBit Obj.live n true).raise n src

/-- A C cause of a line ends: LIVE is clear when no cause of the line holds (R544). -/
def State.endCause (s : State) (n bit : Nat) : State :=
  let c := withBit (s.causesOf n) bit false
  let s := { s with causes := mapSet (fun _ => 0) s.causes n c }
  if c = 0 then s.setBit Obj.live n false else s

/-- A C cause that holds or not, as a condition now gives it. -/
def State.setCause (s : State) (n bit src : Nat) (holds : Bool) : State :=
  if holds then s.beginCause n bit src else s.endCause n bit

end Sys2Proof.Machine
end

