-- ==== Sys2Proof/Machine/Domains.lean ====
section
/-! DEFINITION. The contents of the DOMAIN and VISIBLE_STRING objects before anything has written them. -/

namespace Sys2Proof.Machine

/-- `n` zero bytes. -/
def zeros (n : Nat) : List Byte := List.replicate n 0#8

/-- The numbers of the store channels. -/
def channels4 : List Nat := [0, 1, 2, 3]

/-- The size of a DOMAIN object of zero bytes in a store channel's span, by its index within the channel and subindex. -/
def storeDomSize (ix sub : Nat) : Nat :=
  if ix = 0x80 then 2304 else if ix = 0x90 then 768 else if ix = 0xB0 ∧ sub = 0x0D then 80 else 0

/-- The size of a DOMAIN object of zero bytes of a probe channel. -/
def probeDomSize (ix sub : Nat) : Nat :=
  if ix = 0x02 then 256 else if ix = 0x03 then 256 else if ix = 0x04 then 8
  else if ix = 0x10 then (if sub = 1 ∨ sub = 3 then 366 else if sub = 2 ∨ sub = 4 then 256 else 8) else 0

/-- The size of any other DOMAIN object of zero bytes. -/
def otherDomSize (k : Nat) : Nat :=
  if k = Obj.lockLog then 2048
  else if k = Obj.parityLog then 8192
  else if k = Obj.slotWear then 64
  else if k = Obj.pageWear then 384
  else if k = Obj.dmSensors then 64
  else if k = Obj.dmLast then 22
  else if k = Obj.phaseCurrents ∨ k = Obj.dutPhaseCurrents 0 ∨ k = Obj.dutPhaseCurrents 1 then 24
  else 0

/-- The contents a DOMAIN or VISIBLE_STRING object has at reset (the Default columns). -/
def domDefault (k : Nat) : List Byte :=
  let ix := k / 0x100
  if 0x3000 ≤ ix ∧ ix < 0x3400 then
    let low := ix % 0x100
    if low = 0xB0 ∧ k % 0x100 = 0x0B then List.replicate 16 0xFF#8
    else if low = 0x60 then (List.range 17).map fun i => BitVec.ofNat 8 i
    else zeros (storeDomSize low (k % 0x100))
  else if 0x3800 ≤ ix ∧ ix < 0x3A00 then zeros (probeDomSize (ix % 0x100) (k % 0x100))
  else zeros (otherDomSize k)

/-- The bytes of a DOMAIN or VISIBLE_STRING object that the engine has stored. -/
def State.dom (s : State) (k : Nat) : List Byte := mapGet domDefault s.doms k

/-- Store the bytes of a DOMAIN object. -/
def State.putDom (s : State) (k : Nat) (d : List Byte) : State := s.setDom domDefault k d

/-- The bytes of a DOMAIN object that act on its block (R62). -/
def State.actDom (s : State) (k : Nat) : List Byte :=
  match s.shadows.find? fun h => h.key == k with
  | some h => h.actingBytes
  | none => s.dom k

/-- Shadows are discarded: the objects go back to the values that act (R90, R93). -/
def State.discardShadows (s : State) (p : Shadow → Bool) : State :=
  let t := s.each (s.shadows.filter p) fun h u => if h.actingBytes.isEmpty then u.setObj h.key h.acting else u.putDom h.key h.actingBytes
  t.dropShadows p

/-- Store some bytes of a DOMAIN object at an offset. -/
def State.patchDom (s : State) (k pos : Nat) (d : List Byte) : State := s.putDom k (putBytes (s.dom k) pos d)

end Sys2Proof.Machine
end

