-- ==== Sys2Proof/Machine/Timing.lean ====
section
/-! DEFINITION. The timing rules of the store in c at each operating point (R211 to R218), and when a command breaks one of
them against the commands issued before it (R222). -/

namespace Sys2Proof.Machine

/-- The count for an operating point out of the four of a table row. -/
def atOp (op a b c d : Nat) : Nat := match op with | 0 => a | 1 => b | 2 => c | _ => d

/-- The counts of R211 that do not depend on the density, rule by rule. -/
def ruleFixed (n op : Nat) : Nat :=
  match n with
  | 1 => atOp op 15 14 10 7
  | 2 => atOp op 15 14 10 7
  | 3 => atOp op 30 27 20 14
  | 4 => atOp op 45 41 30 21
  | 5 => atOp op 5 5 4 3
  | 6 => 2
  | 7 => atOp op 10 9 8 8
  | 8 => atOp op 5 5 4 3
  | 9 => 2
  | 10 => atOp op 10 9 7 5
  | 11 => atOp op 19 17 13 9
  | 12 => atOp op 10 9 7 5
  | 13 => atOp op 3 3 2 2
  | 14 => atOp op 7 7 5 4
  | 15 => atOp op 28 25 19 13
  | 16 => 3
  | 17 => 3
  | 18 => atOp op 5 5 4 3
  | 19 => 4
  | 22 => atOp op 28 25 19 13
  | 24 => atOp op 7 7 5 4
  | 25 => atOp op 3404 3026 2269 1513
  | _ => 0

/-- The counts of rules 20, 21 and 23, which depend on the density (R211). -/
def ruleDense (n op : Nat) (big : Bool) : Nat :=
  match n, big with
  | 20, false => atOp op 274 244 183 122
  | 20, true => atOp op 381 338 254 169
  | 21, false => atOp op 121 108 81 54
  | 21, true => atOp op 177 157 118 79
  | 23, false => atOp op 283 252 189 126
  | 23, true => atOp op 390 347 260 174
  | _, _ => 0

/-- The count of rule n (R211); `big` for 24 and 32 Gb devices. -/
def ruleCount (n op : Nat) (big : Bool) : Nat :=
  if n = 20 ∨ n = 21 ∨ n = 23 then ruleDense n op big else ruleFixed n op

/-- The values of R211 as the larger of a number of CK and a time in picoseconds; rules 16 and 17 are derived, rule 25 is a maximum. -/
def ruleValue (n : Nat) (big : Bool) : Nat × Nat :=
  match n with
  | 1 | 2 => (0, 16000)
  | 3 => (0, 32000)
  | 4 => (0, 48000)
  | 5 | 8 | 18 => (8, 5000)
  | 6 | 9 => (8, 0)
  | 7 => (32, 10000)
  | 10 | 12 => (16, 10000)
  | 11 => (32, 20000)
  | 13 => (4, 2500)
  | 14 => (12, 7500)
  | 15 | 22 => (0, 30000)
  | 19 => (16, 0)
  | 20 => (0, if big then 410000 else 295000)
  | 21 => (0, if big then 190000 else 130000)
  | 23 => (0, if big then 420000 else 305000)
  | 24 => (8, 7500)
  | _ => (0, 0)

/-- The larger of a number of CK and a time in picoseconds at an operating point, in units of 1/18,000 ns: a CK is a quarter of a c. -/
def valueAt (op : Nat) (v : Nat × Nat) : Nat := max (v.1 * opTicks op * 625) (v.2 * 18)

/-- A minimum time of an SPD is no longer than the table's value at an operating point (R214). -/
def spdFits (m : SpdMin) (op : Nat) (big : Bool) : Bool :=
  m.rule == 16 || m.rule == 17 || m.rule == 25 || decide (valueAt op (m.nck, m.ps) ≤ valueAt op (ruleValue m.rule big))

/-- The bracketed counts of rules 1 to 4 (R212). -/
def ruleHot (n op : Nat) : Nat :=
  match n with
  | 1 => atOp op 17 15 12 8
  | 2 => atOp op 17 15 12 8
  | 3 => atOp op 32 28 21 14
  | 4 => atOp op 49 43 33 22
  | _ => ruleFixed n op

/-- READ_DATA (R213). -/
def readData (op : Nat) : Nat := atOp op 21 19 16 13

/-- WRITE_DATA (R213). -/
def writeData (op : Nat) : Nat := atOp op 18 16 13 10

/-- LS_LEAD = WRITE_DATA + tWR + bracketed tRP (R218). -/
def lsLead (op : Nat) : Nat := writeData op + ruleFixed 15 op + ruleHot 2 op

/-- LS_TAIL = bracketed tRCD + READ_DATA + 7 (R217). -/
def lsTail (op : Nat) : Nat := ruleHot 1 op + readData op + 7

/-- LS_FIXED (R218). -/
def lsFixed (op : Nat) : Nat := 4 + lsLead op + lsTail op

/-- CRC_WINDOW of the write CRC, in c after the end of the burst's WRITE (R299). -/
def crcWindow (op : Nat) : Nat := atOp op 15 13 11 8

/-- A set of counts: operating point, density, and whether they are the bracketed ones of R212. -/
structure Counts where
  op : Nat
  big : Bool
  hot : Bool
  deriving DecidableEq, Repr

/-- The count of a rule under a set of counts. -/
def Counts.rule (k : Counts) (n : Nat) : Nat :=
  if k.hot ∧ n ≤ 4 then ruleHot n k.op else ruleCount n k.op k.big

/-- Two commands are of one rank, one bank group, one bank. -/
def DramCmd.sameRank (a b : DramCmd) : Bool := a.rank == b.rank
def DramCmd.sameGroup (a b : DramCmd) : Bool := a.rank == b.rank && a.bg == b.bg
def DramCmd.sameBank (a b : DramCmd) : Bool := a.rank == b.rank && a.bg == b.bg && a.bank == b.bank
/-- A REFsb or RFMsb covers its bank address in every bank group of the rank. -/
def DramCmd.covers (a b : DramCmd) : Bool := a.rank == b.rank && a.bank == b.bank

/-- The least distance in c from an earlier command to a later one of the same subchannel, by the rules of R211; 0 where
no rule speaks of the pair. The bracketed counts hold when either command is issued under them: a command keeps the counts under
which it was issued, and lockstep reads always use the bracketed ones (R212, R224). -/
def minGap (c : Counts) (h x : DramCmd) : Nat :=
  let k : Counts := { c with hot := h.hot || x.hot }
  let w := writeData k.op
  match h.kind, x.kind with
  | .act, .rd | .act, .wr => if h.sameBank x then k.rule 1 else 0
  | .act, .pre => if h.sameBank x then k.rule 3 else 0
  | .act, .act =>
    if h.sameBank x then k.rule 4 else if h.sameGroup x then k.rule 5 else if h.sameRank x then k.rule 6 else 0
  | .pre, .act => if h.sameBank x then k.rule 2 else 0
  | .pre, .refab | .pre, .sre => if h.sameRank x then k.rule 2 else 0
  | .pre, .refsb | .pre, .rfmsb => if h.covers x then k.rule 2 else 0
  | .rd, .rd => if h.sameGroup x then k.rule 8 else if h.sameRank x then k.rule 9 else k.rule 17
  | .wr, .wr =>
    if h.sameGroup x then (if h.masked || x.masked then k.rule 11 else k.rule 10)
    else if h.sameRank x then k.rule 9 else k.rule 17
  | .wr, .rd => if h.sameGroup x then w + k.rule 12 else if h.sameRank x then w + k.rule 13 else max (w + k.rule 13) (k.rule 17)
  | .rd, .wr => if h.sameRank x then k.rule 16 else max (k.rule 16) (k.rule 17)
  | .rd, .pre => if h.sameBank x then k.rule 14 else 0
  | .wr, .pre => if h.sameBank x then w + k.rule 15 else 0
  | .mrw, _ => if h.sameRank x then k.rule 18 else 0
  | .mrr, .mrr | .mrr, .rd | .mrr, .wr => if h.sameRank x then k.rule 19 else 0
  | .refab, _ => if h.sameRank x then k.rule 20 else 0
  | .refsb, .act => if h.covers x then k.rule 21 else if h.sameRank x then k.rule 22 else 0
  | .rfmsb, .act => if h.covers x then k.rule 21 else 0
  | .refsb, .refsb | .rfmsb, .refsb => if h.sameRank x then k.rule 21 else 0
  | .srx, _ => if h.sameRank x then k.rule 23 else 0
  | .pdx, _ => if h.sameRank x then k.rule 24 else 0
  | _, _ => 0

/-- Rule 7: the window of the four latest ACT of a rank (R211). -/
def fawOk (k : Counts) (hist : List DramCmd) (x : DramCmd) : Bool :=
  x.kind != .act ||
    decide ((hist.filter fun h => h.kind == .act && h.rank == x.rank && decide (x.at' < h.at' + k.rule 7)).length < 4)

/-- An earlier command keeps its distance from a later one, which may be issued before it where no rule speaks of the pair: an auto-precharge still to
come holds its own bank only (R211). -/
def spaced (k : Counts) (h x : DramCmd) : Bool := minGap k h x == 0 || decide (h.at' + minGap k h x ≤ x.at')

/-- The command breaks no rule against the commands before it (R222). -/
def legalCmd (k : Counts) (hist : List DramCmd) (x : DramCmd) : Bool := hist.all (fun h => spaced k h x) && fawOk k hist x

/-- The first c from `c` on at which a command breaks no rule against those before it. -/
def earliest (k : Counts) (hist : List DramCmd) (x : DramCmd) (c : Nat) : Nat :=
  hist.foldl (fun m h => if minGap k h x = 0 then m else max m (h.at' + minGap k h x)) c

/-- Rule 11 applies to a WRITE pair when either burst is masked, rule 10 when neither is (R209). -/
def maskedLine (mask : Nat) : Bool := mask % 2 ^ 64 != 2 ^ 64 - 1

end Sys2Proof.Machine
end

