-- ==== Sys2Proof/Machine/MapOps.lean ====
section
/-! DEFINITION. The engine address map and the checks a request meets when it leaves the crossbar: capacities, the
interleave, the fields of a channel-local address, lockstep regions and the retire fence (R165 to R173, R197, R318). -/

namespace Sys2Proof.Machine

/-- A store channel. -/
def State.chan (s : State) (ch : Nat) : Chan := mapGet (fun _ => {}) s.chans ch

/-- Replace a store channel. -/
def State.setChan (s : State) (ch : Nat) (c : Chan) : State := { s with chans := mapSet (fun _ => {}) s.chans ch c }

/-- Change a store channel. -/
def State.modChan (s : State) (ch : Nat) (f : Chan → Chan) : State := s.setChan ch (f (s.chan ch))

/-- The channels, 0 to 3. -/
def channels : List Nat := [0, 1, 2, 3]

/-- The capacity of a channel's population in bytes (R165). -/
def dimmsCapacity (l : List Dimm) : Nat := (l.map fun d => d.ranks * d.density * 2 ^ 30).sum

/-- The capacity of an accepted channel, 0 of another (R197). -/
def State.capacity (s : State) (ch : Nat) : Nat :=
  if (s.chan ch).accepted then dimmsCapacity (s.chan ch).dimms else 0

/-- The accepted channels in ascending order. -/
def State.acceptedChans (s : State) : List Nat := channels.filter fun ch => (s.chan ch).accepted

/-- The interleave set S of R166 for a mask, and whether it was reduced. -/
def interleaveSet (accepted : List Nat) (mask : Nat) : List Nat × Bool :=
  let l := accepted.filter fun ch => bitOf mask ch
  if l.length = 3 then (l.take 2, true)
  else if l.isEmpty then (accepted.take 1, false)
  else (l, false)

/-- The interleave set in force. -/
def State.intSet (s : State) : List Nat := (interleaveSet s.acceptedChans (s.obj Obj.interleaveMask)).1

/-- Cmin of R166. -/
def State.minCapacity (s : State) : Nat :=
  match s.intSet with
  | [] => 0
  | c :: t => t.foldl (fun m ch => min m (s.capacity ch)) (s.capacity c)

/-- The blocks of the linear parts in address order: channel, first local address, length (R166). -/
def State.linearBlocks (s : State) : List (Nat × Nat × Nat) :=
  let cm := s.minCapacity
  let rest := (s.intSet.filter fun ch => cm < s.capacity ch).map fun ch => (ch, cm, s.capacity ch - cm)
  let out := (s.acceptedChans.filter fun ch => !s.intSet.contains ch).map fun ch => (ch, 0, s.capacity ch)
  rest ++ out

/-- INTERLEAVED_TOP (R197). -/
def State.interleavedTop (s : State) : Nat := s.intSet.length * s.minCapacity

/-- MAP_TOP (R166). -/
def State.mapTop (s : State) : Nat := (s.acceptedChans.map s.capacity).sum

/-- The channel and channel-local address in the list of linear blocks. -/
def blockDecode : List (Nat × Nat × Nat) → Nat → Option (Nat × Nat)
  | [], _ => none
  | (ch, first, len) :: t, a => if a < len then some (ch, first + a) else blockDecode t (a - len)

/-- log2 of 1, 2 or 4. -/
def log2of (n : Nat) : Nat := if n = 4 then 2 else if n = 2 then 1 else 0

/-- The channel and channel-local address of an engine address (R167). -/
def State.decodeAddr (s : State) (a : Nat) : Option (Nat × Nat) :=
  if !s.mapped then none
  else if a < s.interleavedTop then
    let g := s.obj Obj.interleaveGrain
    let n := s.intSet.length
    let q := a >>> g
    some (s.intSet.getD (q % n) 0, ((q >>> log2of n) <<< g) + a % 2 ^ g)
  else blockDecode s.linearBlocks (a - s.interleavedTop)

/-- The DRAM coordinates of a line (R168): subchannel, DIMM and rank, bank group and bank as issued, row and column. -/
structure Place where
  sub : Nat
  dimm : Nat
  rank : Nat
  bg : Nat
  bank : Nat
  row : Nat
  col : Nat
  deriving DecidableEq, Repr

/-- The fields of a line index for a population, with the bank hash of R169. -/
def placeOf (dimms : List Dimm) (hash : Bool) (l : Nat) : Place :=
  let r := if (dimms.headD {}).ranks = 2 then 1 else 0
  let d := if dimms.length = 2 then 1 else 0
  let row := l >>> (12 + r + d)
  let bg := fld 1 3 l
  let ba := fld 10 2 l
  { sub := l % 2
    dimm := if d = 1 then fld (12 + r) 1 l else 0
    rank := if r = 1 then fld 12 1 l else 0
    bg := if hash then bg ^^^ (row % 8) else bg
    bank := if hash then ba ^^^ ((row >>> 3) % 4) else ba
    row := row
    col := fld 4 6 l <<< 4 }

/-- The engine address of a channel-local address (R166, R167). -/
def State.encodeAddr (s : State) (ch loc : Nat) : Nat :=
  if s.intSet.contains ch ∧ loc < s.minCapacity then
    let g := s.obj Obj.interleaveGrain
    let n := s.intSet.length
    (((loc >>> g) * n + s.intSet.idxOf ch) <<< g) + loc % 2 ^ g
  else
    (s.linearBlocks.foldl (fun (r, base) b =>
      if b.1 = ch ∧ b.2.1 ≤ loc then (base + (loc - b.2.1), base + b.2.2) else (r, base + b.2.2)) (0, s.interleavedTop)).1

/-- The coordinates of a line of a channel. -/
def State.place (s : State) (ch l : Nat) : Place :=
  placeOf (s.chan ch).dimms (s.obj Obj.bankHash == 1) l

/-- The rank of a line within its channel, both DIMMs counted: DIMM * 2 + rank. -/
def Place.rankNo (p : Place) : Nat := p.dimm * 2 + p.rank

/-- The bank number of a line within its rank. -/
def Place.bankNo (p : Place) : Nat := p.bg * 4 + p.bank

/-- DECODE_RESULT of an address (R197): all zero for an address that is not valid, of which R197 gives bit 63 alone (DESIGN CHOICE, log entry 162). -/
def State.decodeResult (s : State) (a : Nat) : Nat :=
  match s.decodeAddr a with
  | none => 0
  | some (ch, loc) =>
    let p := s.place ch (loc / 64)
    2 ^ 63 + ch * 2 ^ 61 + p.sub * 2 ^ 60 + p.dimm * 2 ^ 59 + p.rank * 2 ^ 58 + p.bg * 2 ^ 55 + p.bank * 2 ^ 53 +
      p.row * 2 ^ 36 + p.col * 2 ^ 26

/-- The map objects after the map has been computed: MAP_TOP, capacities, bases and MAP_STATUS (R166, R197). -/
def State.publishMap (s : State) : State :=
  let red := (interleaveSet s.acceptedChans (s.obj Obj.interleaveMask)).2
  let s1 := ((s.setObj Obj.mapTop s.mapTop).setObj Obj.interleavedTop s.interleavedTop).setBit Obj.mapStatus 0 red
  let s2 := s1.each channels fun ch t => (t.setObj (Obj.capacitySc ch) (s.capacity ch)).setObj (Obj.linearBaseSc ch) (2 ^ 64 - 1)
  (s.linearBlocks.foldl (fun (t, base) b => (t.setObj (Obj.linearBaseSc b.1) base, base + b.2.2)) (s2, s.interleavedTop)).1

/-- The address map is computed (R196). -/
def State.computeMap (s : State) : State := ({ s with mapped := true }).publishMap

/-- The engine addresses of a request's lines. -/
def lineAddrs (addr lines : Nat) : List Nat := (List.range lines).map fun i => addr + 64 * i

/-- A line lies in a fenced 4 KiB page (R318). -/
def State.fenced (s : State) (a : Nat) : Bool := s.fence.contains (a / 4096)

/-- The object of a requester at a subindex: clients at 0x4000 + c, host queues at 0x4100 + q, FE points at 0x4880 + e
(R162, R163). -/
def rqKey (rq sub : Nat) : Nat :=
  (if 0x110 ≤ rq ∧ rq < 0x120 then 0x4880 + (rq - 0x110) else 0x4000 + rq) * 0x100 + sub

/-- The requester has objects of its own: MG and FS have none. -/
def rqHasObjects (rq : Nat) : Bool := decide (rq < 0x104) || (decide (0x110 ≤ rq) && decide (rq < 0x120))

/-- The class of a requester: MG is HIGH, FS BACKGROUND, others as ARB_CLASS (R139). -/
def State.classOf (s : State) (rq : Nat) : Nat :=
  if rqHasObjects rq then s.obj (rqKey rq 0x10) else if rq = 0x120 then 1 else 3

/-- The client, host queue or FE access point that a key of the arbitration objects belongs to. -/
def rqOfKey (k : Nat) : Option Nat :=
  let ix := k / 0x100
  if 0x4000 ≤ ix ∧ ix < 0x4104 then some (ix - 0x4000)
  else if 0x4880 ≤ ix ∧ ix < 0x4890 then some (0x110 + (ix - 0x4880)) else none

/-- The requester is enabled. -/
def State.rqEnabled (s : State) (rq : Nat) : Bool :=
  if rq < 0x100 then s.obj (Obj.clientEnable rq) == 1
  else if rq < 0x104 then s.obj (Obj.hqEnable (rq - 0x100)) == 1
  else if 0x110 ≤ rq ∧ rq < 0x120 then s.obj (Obj.feEnable (rq - 0x110)) == 1
  else true

/-- A region is active: it has a size, and an enabled LOCKSTEP client on one of its ports (R172). -/
def State.regionActive (s : State) (r : Nat) : Bool :=
  s.act (Obj.regionSize r) != 0 &&
    (List.range 256).any fun c =>
      bitOf (s.act (Obj.regionPorts r)) (c / 16) && s.rqEnabled c && s.classOf c == 0

/-- The region's member may write it (R172). -/
def State.regionMember (s : State) (r rq : Nat) : Bool :=
  decide (rq < 0x100) && bitOf (s.act (Obj.regionPorts r)) (rq / 16) && s.classOf rq == 0

/-- The region covers an address. -/
def State.regionCovers (s : State) (r a : Nat) : Bool :=
  s.act (Obj.regionBase r) ≤ a && decide (a < s.act (Obj.regionBase r) + s.act (Obj.regionSize r))

/-- The first region that denies a write of a line. -/
def State.regionDenies (s : State) (rq a : Nat) : Option Nat :=
  (List.range 16).find? fun r => s.regionCovers r a && s.regionActive r && !s.regionMember r rq

/-- REGION_ACTIVE of every region, as it now stands (R198). -/
def State.regionsOverlap (s : State) : Bool :=
  (List.range 16).any fun i => (List.range i).any fun j =>
    s.obj (Obj.regionSize i) != 0 && s.obj (Obj.regionSize j) != 0 &&
      decide (s.obj (Obj.regionBase i) < s.obj (Obj.regionBase j) + s.obj (Obj.regionSize j)) &&
      decide (s.obj (Obj.regionBase j) < s.obj (Obj.regionBase i) + s.obj (Obj.regionSize i))

/-- A channel is released to requesters. -/
def State.released (s : State) (ch : Nat) : Bool := s.bit Obj.channelsReady ch

/-- The check of a line when it leaves the crossbar (R170): the status of the failure, if any, and the region that denied it. -/
def State.checkLine (s : State) (rq : Nat) (write : Bool) (a : Nat) : Option (Nat × Option Nat) :=
  match s.decodeAddr a with
  | none => some (5, none)
  | some (ch, _) =>
    if (s.chan ch).failed then some (5, none)
    else
      match if write && rq != 0x121 then s.regionDenies rq a else none with
      | some r => some (5, some r)
      | none => if s.fenced a then some (3, none) else none

/-- The key of a line of store memory. -/
def dramKey (ch l : Nat) : Nat := ch * 2 ^ 40 + l

/-- What DRAM holds at a line nothing has written since its contents were last lost: values the spec leaves open (R307). -/
def openLine (epoch key : Nat) : List Byte × List Byte :=
  ((List.range 64).map fun i => Config.dramGarbage epoch (key * 80 + i), (List.range 16).map fun i => Config.dramGarbage epoch (key * 80 + 64 + i))

/-- What the lines of a channel hold that no write has changed since its contents were lost or the channel was filled: open
values, or the zero data and check bytes 0xFF of the fill (R307). -/
def State.baseLine (s : State) (ch l : Nat) : List Byte × List Byte :=
  if (s.chan ch).filled then (zeroLine, List.replicate 16 0xFF#8)
  else openLine (mapGet (fun _ => 0) s.lost ch) (dramKey ch l)

/-- The 64 data bytes and 16 check bytes stored at a line. -/
def State.dramLine (s : State) (ch l : Nat) : List Byte × List Byte :=
  (mapGet (fun _ => none) s.dram (dramKey ch l)).getD (s.baseLine ch l)

/-- Store a line. A line that holds what an unlisted one holds is not listed. -/
def State.setDram (s : State) (ch l : Nat) (v : List Byte × List Byte) : State :=
  { s with dram := mapSet (fun _ => none) s.dram (dramKey ch l) (if v = s.baseLine ch l then none else some v) }

/-- The canonical form of the store: addresses rise, and no listed line holds what an unlisted one holds. -/
def State.storeWf (s : State) : Bool :=
  mapWf (fun _ => none) s.dram && s.dram.all fun e => decide (e.2 ≠ some (s.baseLine (e.1 / 2 ^ 40) (e.1 % 2 ^ 40)))

/-- The contents of a channel's DRAM are lost: what it holds is open again (R307, R640). -/
def State.loseDram (s : State) (ch : Nat) : State :=
  { s with dram := s.dram.filter (fun e => e.1 / 2 ^ 40 != ch), lost := mapMod (fun _ => 0) s.lost ch (· + 1) }.modChan ch
    fun c => { c with filled := false }

end Sys2Proof.Machine
end

