-- ==== Sys2Proof/Machine/Requests.lean ====
section
/-! DEFINITION. The life of a store request: its arrival, its answers line by line, the regulator, locks and their log, the
departure from the crossbar, and its withdrawal by an abort (R12, R111 to R126, R143, R149, R170 to R191). -/

namespace Sys2Proof.Machine

/-! Rows of the subchannels. -/

/-- A subchannel of a channel. -/
def Chan.sub (c : Chan) (i : Nat) : SubCh := if i = 0 then c.subA else c.subB
def Chan.setSub (c : Chan) (i : Nat) (x : SubCh) : Chan := if i = 0 then { c with subA := x } else { c with subB := x }
def State.modSub (s : State) (ch i : Nat) (f : SubCh → SubCh) : State := s.modChan ch fun c => c.setSub i (f (c.sub i))

/-- The number of a bank within a subchannel: rank, bank group, bank. -/
def bankKey (rank bg bank : Nat) : Nat := rank * 32 + bg * 4 + bank
def Place.key (p : Place) : Nat := bankKey p.rankNo p.bg p.bank

/-- The open row of a bank, with the c it was last hit. -/
def SubCh.rowOf (x : SubCh) (k : Nat) : Option (Nat × Nat) := mapGet (fun _ => none) x.rows k
def SubCh.setRow (x : SubCh) (k : Nat) (v : Option (Nat × Nat)) : SubCh := { x with rows := mapSet (fun _ => none) x.rows k v }

/-- A line's coordinates. -/
def State.entPlace (s : State) (e : Ent) : Place := s.place e.ch e.line

/-! Status codes of R117. -/
def stOk : Nat := 0
def stPoison : Nat := 1
def stAborted : Nat := 2
def stRetired : Nat := 3
def stHazardBroken : Nat := 4
def stDenied : Nat := 5
def stLate : Nat := 6
def stTimeout : Nat := 7

/-- The management core and the fill/scrub engine as requesters (R141). -/
def rqMg : Nat := 0x120
def rqFs : Nat := 0x121

/-- The host queues and FE points as requesters. -/
def rqHost (q : Nat) : Nat := 0x100 + q
def rqFe (e : Nat) : Nat := 0x110 + e

/-- The request moves a line: reads and writes take tokens and lines. -/
def ReqKind.isWrite : ReqKind → Bool
  | .write => true | .masked => true | _ => false
def ReqKind.isRead : ReqKind → Bool
  | .read => true | _ => false
def ReqKind.moves (k : ReqKind) : Bool := k.isWrite || k.isRead

/-- A request enters, after every request before it. -/
def State.enter (s : State) (r : Req) : State :=
  { s with serial := s.serial + 1
           reqs := s.reqs ++ [{ r with serial := s.serial, xserial := s.serial, arrived := s.cyc,
                                       status := List.replicate r.lines none, back := List.replicate r.lines [] }] }

/-- Change one request. -/
def State.modReq (s : State) (n : Nat) (f : Req → Req) : State :=
  { s with reqs := s.reqs.map fun r : Req => if r.serial = n then f r else r }

/-- The request of a serial. -/
def State.req? (s : State) (n : Nat) : Option Req := s.reqs.find? fun r => r.serial == n

/-- The status of a request: its first line that is not OK, or OK (R116). -/
def Req.overall (r : Req) : Nat := (r.status.filterMap id).find? (· != 0) |>.getD 0

/-- Every line has a status. -/
def Req.answered (r : Req) : Bool := r.status.all Option.isSome

/-- The request leaves the engine: it is complete for ordering, and its answer is on its way. -/
def State.close (s : State) (r : Req) : State :=
  { s with reqs := s.reqs.filter (fun x => x.serial != r.serial), answers := s.answers ++ [r] }

/-- A line of a request gets its status and the data it carries (R118). -/
def Req.setLine (r : Req) (ix st : Nat) (d : List Byte) : Req :=
  { r with status := r.status.set ix (some st)
           back := r.back.set ix (if st = stOk ∨ st = stPoison ∨ st = stHazardBroken then d else []) }

/-- A line of a request has its outcome; the request is answered when its last line has, except that a lockstep read waits
for its departure (R120). -/
def State.lineDone (s : State) (n ix st : Nat) (d : List Byte) : State :=
  match s.req? n with
  | none => s
  | some r =>
    if (r.status.getD ix none).isSome then s
    else
      let r' := r.setLine ix st d
      if r'.answered && !r'.lockstep then s.close r' else s.modReq n fun _ => r'

/-- The whole request is answered with one status. -/
def State.answerAll (s : State) (r : Req) (st : Nat) : State :=
  s.close { r with status := r.status.map fun x => some (x.getD st), back := r.back }

/-! Locks. -/

/-- The lines of a lock or of a request overlap a lock. -/
def overlaps (a n b m : Nat) : Bool := decide (a < b + m) && decide (b < a + n)

/-- One entry of the lock log (R200). -/
def lockEntry (l : Lock) (outcome cause ts : Nat) : List Byte :=
  leBytes 8 (l.holder * 2 ^ 48 + outcome * 2 ^ 44 + l.lease * 2 ^ 34 + l.start) ++
  leBytes 8 (cause * 2 ^ 40 + min l.written 0xFFFF * 2 ^ 24 + l.range) ++ leBytes 8 l.since ++ leBytes 8 ts

/-- A LOCK overlaps a lock of another requester (R184). -/
def State.lockBlocked (s : State) (r : Req) : Bool := s.locks.any fun l => l.holder != r.rq && overlaps l.start l.range (r.addr / 64) r.range

/-- LOCK_WAITERS: the LOCKs at the crossbar that overlap a lock of another requester. R199 names the object alone: that it counts neither waiting
writes nor a LOCK that waits for anything else is a DESIGN CHOICE (log entry 160). -/
def State.lockWaitersNow (s : State) : Nat := (s.reqs.filter fun r => r.kind == .lock && r.stage == .crossbar && s.lockBlocked r).length

/-- LOCKS_HELD as it now stands (R199). -/
def State.lockCounts (s : State) : State := s.setObj Obj.locksHeld s.locks.length

/-- A lock is released and logged; 1 RELEASED, 2 EXPIRED, 3 ORPHANED with its cause (R187 to R191). -/
def State.releaseLock (s : State) (l : Lock) (outcome cause : Nat) : State :=
  let s := { s with locks := s.locks.filter fun x => x != l }
  let s := s.patchDom Obj.lockLog (32 * (s.obj Obj.logWritten % 64)) (lockEntry l outcome cause s.ts)
  let s := s.wrapBump Obj.logWritten
  let s := if outcome = 2 then s.bump Obj.lockExpired else if outcome = 3 then s.bump Obj.lockOrphaned else s
  s.lockCounts

/-- Every lock that a predicate names is orphaned (R189). -/
def State.orphanLocks (s : State) (p : Lock → Bool) (cause : Nat) : State :=
  s.each (s.locks.filter p) fun l t => t.releaseLock l 3 cause

/-- The lease of a lock has run out (R188). -/
def Lock.expired (l : Lock) (ts : Nat) : Bool := decide (l.since + 800 * l.lease ≤ ts)

/-- A write line that became visible is counted in the lock its requester holds over it (R200). -/
def State.countLocked (s : State) (rq a : Nat) : State :=
  { s with locks := s.locks.map fun l : Lock =>
      if l.holder = rq ∧ l.start ≤ a / 64 ∧ a / 64 < l.start + l.range then { l with written := l.written + 1 } else l }

/-! The regulator (R149, R150). -/

/-- The ceiling of a bucket. -/
def State.bucketCeiling (s : State) (rq : Nat) : Int := s.obj (rqKey rq 0x15) * 4096

/-- The level of a bucket now. -/
def State.bucketLevel (s : State) (rq : Nat) : Int :=
  let ceil := s.bucketCeiling rq
  match mapGet (fun _ => none) s.buckets rq with
  | none => ceil
  | some (l, at') => min ceil (l + ((s.cyc - at') * s.obj (rqKey rq 0x14) : Nat))

/-- The level is written down, so that a rate or depth written next acts from the next c (R156). -/
def State.setBucket (s : State) (rq : Nat) (l : Int) : State :=
  { s with buckets := mapSet (fun _ => none) s.buckets rq (some (l, s.cyc)) }

/-- The bucket starts again at its ceiling (R161). -/
def State.fillBucket (s : State) (rq : Nat) : State := { s with buckets := mapErase s.buckets rq }

/-- The requests of a requester at a stage, oldest first. -/
def State.atStage (s : State) (rq : Nat) (g : Stage) : List Req := s.reqs.filter fun r => r.rq == rq && r.stage == g

/-- The channels and line indices of a request's lines, none for a line outside the map. -/
def State.reqPlaces (s : State) (r : Req) : List (Option (Nat × Nat)) :=
  (lineAddrs r.addr r.lines).map fun a => (s.decodeAddr a).map fun (ch, loc) => (ch, loc / 64)

/-- How many lines of a requester stand in, or are on their way to, its input queue at a channel's arbiter (R143). -/
def State.inputUse (s : State) (rq ch : Nat) : Nat :=
  (s.ents.filter fun e => e.rq == rq && e.ch == ch && e.stage == .input).length +
    ((s.atStage rq .crossbar).map fun r =>
      if r.kind.moves then ((s.reqPlaces r).filter fun p => (p.map Prod.fst) == some ch).length else 0).sum

/-- Every line of the request has room in the input queue of its channel (R143). -/
def State.roomFor (s : State) (r : Req) : Bool :=
  !r.kind.moves || channels.all fun ch =>
    decide (s.inputUse r.rq ch + ((s.reqPlaces r).filter fun p => (p.map Prod.fst) == some ch).length ≤ 16) ||
      ((s.reqPlaces r).all fun p => (p.map Prod.fst) != some ch)

/-- The request finds its tokens (R149, R150). -/
def State.tokensFor (s : State) (r : Req) : Bool :=
  !r.kind.moves || !rqHasObjects r.rq || s.obj (rqKey r.rq 0x14) == 0 ||
    decide ((r.lines * 4096 : Nat) ≤ s.bucketLevel r.rq) || decide (s.bucketCeiling r.rq ≤ s.bucketLevel r.rq)

/-- The tokens of a request are taken (R149). -/
def State.payTokens (s : State) (r : Req) : State :=
  if !r.kind.moves || !rqHasObjects r.rq || s.obj (rqKey r.rq 0x14) == 0 then s
  else s.setBucket r.rq (s.bucketLevel r.rq - (r.lines * 4096 : Nat))

/-- Whether a request is answered to its requester: posted writes are not (R119). -/
def Req.replies (r : Req) : Bool := !r.posted

/-- When the client watchdog that starts now for a request expires (R126). -/
def State.watchdogDue (s : State) (r : Req) : Option Nat :=
  let wd := if r.rq < 0x100 then s.obj (Obj.clientWatchdog r.rq) else 0
  if wd = 0 ∨ r.posted then none else some (s.now + wd * usTicks)

/-- A request leaves the regulator stage for the crossbar; its client watchdog starts (R126). -/
def State.leaveRegulator (s : State) (r : Req) : State :=
  let s := s.payTokens r
  let s := if rqHasObjects r.rq then s.track (rqKey r.rq 0x1E) (s.cyc - r.arrived) else s
  { s with serial := s.serial + 1 }.modReq r.serial fun x => { x with stage := .crossbar, xserial := s.serial, xat := s.cyc, due := s.watchdogDue x }

/-! The crossbar (R170, R178 to R191). -/

/-- An earlier write of the requester that is not complete. -/
def State.earlierWrite (s : State) (r : Req) : Bool :=
  s.reqs.any fun x => x.rq == r.rq && x.kind.isWrite && decide (x.serial < r.serial) && !x.complete

/-- An earlier read that has been neither performed nor failed: some line of it is not beyond its grant (R180). -/
def State.earlierRead (s : State) (r : Req) : Bool :=
  s.reqs.any fun x => x.rq == r.rq && x.kind.isRead && !x.lockstep && decide (x.serial < r.serial) &&
    (x.stage != .lines || s.ents.any fun e => e.req == x.serial && e.stage == .input)

/-- An earlier ORDERED write, FENCE, LOCK or UNLOCK of the requester that is not complete (R170, R178, R181). -/
def State.earlierBarrier (s : State) (r : Req) : Bool :=
  s.reqs.any fun x => x.rq == r.rq && decide (x.serial < r.serial) &&
    ((x.kind.isWrite && x.ordered && !x.complete) || x.kind == .fence || x.kind == .lock || x.kind == .unlock)

/-- A line of a write lies in a range another requester has locked (R186). -/
def State.lockedOut (s : State) (r : Req) : Bool :=
  r.kind.isWrite && (lineAddrs r.addr r.lines).any fun a =>
    s.locks.any fun l => l.holder != r.rq && decide (l.start ≤ a / 64) && decide (a / 64 < l.start + l.range)

/-- An earlier write of the requester waits for another's lock, and every later request waits with it (R186). -/
def State.earlierLockedOut (s : State) (r : Req) : Bool :=
  s.reqs.any fun x => x.rq == r.rq && x.stage == .crossbar && decide (x.serial < r.serial) && s.lockedOut x

/-- A line maps to a channel that is neither released nor failed (R22). FS passes, which fills it (R140). -/
def State.unreleased (s : State) (r : Req) : Bool :=
  r.rq != rqFs && r.kind.moves && (s.reqPlaces r).any fun p =>
    match p with
    | some (ch, _) => !s.released ch && !(s.chan ch).failed
    | none => false

/-- Something holds the request at the crossbar on this c (R170). -/
def State.heldAtCrossbar (s : State) (r : Req) : Bool :=
  !s.mapped || s.unreleased r || s.lockedOut r || s.earlierLockedOut r || s.earlierBarrier r || (r.kind.isWrite && r.ordered && s.earlierWrite r)

/-- A LOCK comes before another: by its c of arrival at the crossbar, then by requester code (R184). -/
def lockBefore (x r : Req) : Bool := decide (x.xat < r.xat) || (x.xat == r.xat && decide (x.rq < r.rq))

/-- A LOCK waits for a lock of another requester, or lets one that comes before it and could be granted go first (R184). -/
def State.lockWaits (s : State) (r : Req) : Bool :=
  s.lockBlocked r || s.reqs.any fun x => x.kind == .lock && x.stage == .crossbar && x.rq != r.rq && lockBefore x r &&
    overlaps (x.addr / 64) x.range (r.addr / 64) r.range && !s.lockBlocked x && !s.heldAtCrossbar x

/-- A LOCK names exactly a lock its requester holds, which it renews (R185). -/
def State.renews (s : State) (r : Req) : Bool := s.locks.any fun l => l.holder == r.rq && l.start == r.addr / 64 && l.range == r.range

/-- A LOCK leaves the crossbar: granted, renewed or denied (R184, R185). -/
def State.takeLock (s : State) (r : Req) : State :=
  let st := r.addr / 64
  let mine := s.locks.filter fun l => l.holder == r.rq
  if s.mapTop < (st + r.range) * 64 ∨ r.range = 0 ∨ r.lease = 0 ∨ 1000 < r.lease then (s.bump Obj.lockDenied).answerAll r stDenied
  else if mine.any fun l => l.start == st && l.range == r.range then
    ({ s with locks := s.locks.map fun l : Lock =>
        if l.holder = r.rq ∧ l.start = st ∧ l.range = r.range then { l with lease := r.lease, since := s.ts } else l }).answerAll r stOk
  else if (mine.any fun l => overlaps l.start l.range st r.range) || decide (64 ≤ s.locks.length) || decide (4 ≤ mine.length) then
    (s.bump Obj.lockDenied).answerAll r stDenied
  else
    let s := { s with locks := s.locks ++ [({ holder := r.rq, start := st, range := r.range, lease := r.lease, since := s.ts } : Lock)] }
    (s.bump Obj.lockGrants).lockCounts.answerAll r stOk

/-- A posted write that is not applied is counted for its requester (R119, R484). -/
def State.countPostedFail (s : State) (rq : Nat) : State :=
  if rq < 0x100 then s.bump (Obj.postedFailed rq)
  else if rq < 0x104 then s.bump (Obj.hqPostedFailed (rq - 0x100))
  else if 0x110 ≤ rq ∧ rq < 0x120 then s.bump (Obj.fePostedFailed (rq - 0x110))
  else s

/-- Line i of a request on its way to a channel's arbiter. -/
def lineEnt (r : Req) (n i ch l : Nat) : Ent :=
  { serial := n, req := r.serial, rq := r.rq, ix := i, ch := ch, line := l, isWrite := r.kind.isWrite,
    data := (r.data.drop (64 * i)).take 64, mask := if r.kind = .masked then r.mask else 2 ^ 64 - 1,
    poison := fld (64 * i) 64 r.poison, isOpen := r.openData, addr := r.addr + 64 * i }

/-- The lines of a request go to their arbiters (R143); a failed line of a read is answered with its status. -/
def State.sendLines (s : State) (r : Req) : State :=
  let s := s.modReq r.serial fun x => { x with stage := .lines }
  (List.range r.lines).foldl (fun t i =>
    let a := r.addr + 64 * i
    match t.checkLine r.rq r.kind.isWrite a, t.decodeAddr a with
    | none, some (ch, loc) => { t with serial := t.serial + 1, ents := t.ents ++ [lineEnt r t.serial i ch (loc / 64)] }
    | some (st, _), _ => (t.when (st == stRetired) fun u => u.bump Obj.retiredHits).lineDone r.serial i st []
    | none, none => t.lineDone r.serial i stDenied []) s

/-- A write whose checks fail is refused as a whole: the first failing line decides the status (R170, R173). -/
def State.refuseWrite (s : State) (r : Req) (st : Nat) (reg : Option Nat) : State :=
  let s := match reg with | some n => s.bump (Obj.regionDenials n) | none => s
  let s := if st = stRetired then s.addTo Obj.retiredHits ((lineAddrs r.addr r.lines).filter s.fenced).length else s
  let s := if r.posted then s.countPostedFail r.rq else s
  s.answerAll { r with complete := true } st

/-- A request leaves the crossbar: the checks of R170, then its lines go to their arbiters. -/
def State.leaveCrossbar (s : State) (r : Req) : State :=
  match r.kind with
  | .fence => s
  | .lock => if s.lockWaits r && !s.renews r then s else s.takeLock r
  | .unlock =>
    if s.locks.any fun l => l.holder == r.rq && l.start == r.addr / 64 then
      s.modReq r.serial fun x => { x with stage := .lines }
    else s.answerAll r stDenied
  | _ =>
    if r.kind.isWrite then
      match (lineAddrs r.addr r.lines).findSome? fun a => s.checkLine r.rq true a with
      | some (st, reg) => s.refuseWrite r st reg
      | none => s.sendLines r
    else s.sendLines r

/-- A FENCE at the head of the crossbar is complete: every earlier write complete, every earlier read performed (R180). -/
def State.fenceReady (s : State) (r : Req) : Bool :=
  r.kind == .fence && r.stage == .crossbar && !s.earlierWrite r && !s.earlierRead r && !s.earlierBarrier r

/-- An UNLOCK is complete: every earlier write of the holder is complete (R187). -/
def State.unlockReady (s : State) (r : Req) : Bool := r.kind == .unlock && r.stage == .lines && !s.earlierWrite r

/-- The UNLOCK releases its lock, or is denied when the lock has gone (R187, R193). -/
def State.finishUnlock (s : State) (r : Req) : State :=
  match s.locks.find? fun l => l.holder == r.rq && l.start == r.addr / 64 with
  | some l => (s.releaseLock l 1 0).answerAll r stOk
  | none => s.answerAll r stDenied

/-! Visibility and completion of writes (R174). -/

/-- A write line is visible: it is in its write queue with its data complete (R174). The request is answered when its last
line is. -/
def State.writeVisible (s : State) (e : Ent) : State :=
  let a := match s.req? e.req with | some r => r.addr + 64 * e.ix | none => 0
  let s := if (s.req? e.req).isSome then s.countLocked e.rq a else s
  let s := { s with serial := s.serial + 1,
                    ents := s.ents.map fun x : Ent => if x.serial = e.serial then { x with isOpen := false, vis := s.serial } else x }
  s.lineDone e.req e.ix stOk []

/-! Withdrawal (R123). -/

/-- A line of a withdrawn request is taken back: visible writes and lines issued to DRAM stay, everything else goes. -/
def Ent.stays (e : Ent) : Bool :=
  match e.stage with
  | .input => false
  | .readQ => false
  | .slotted => false
  | .writeQ => !e.isOpen
  | _ => true

/-- The write-data path is free once the open entry that holds it is gone (R152). -/
def State.freePaths (s : State) : State :=
  s.each channels fun ch t =>
    match (t.chan ch).pathHolder with
    | some n =>
      if t.ents.any fun e => e.serial == n && e.isOpen then t
      else (t.modChan ch fun c => { c with pathHolder := none }).setObj (Obj.holder ch) 0xFFFF
    | none => t

/-- A line that leaves its queue without its column command was the last hit of the open row it names, if it names one (R204). -/
def State.touchRow (s : State) (e : Ent) : State :=
  if e.stage == .readQ || e.stage == .writeQ || e.stage == .replayQ then
    let p := s.entPlace e
    s.modSub e.ch p.sub fun x =>
      match x.rowOf p.key with
      | some (r, _) => if r = p.row then x.setRow p.key (some (r, s.cyc)) else x
      | none => x
  else s

/-- A withdrawn request as it is answered: every line of a read carries the status and no data, a write keeps the lines that are visible
(R118, R123). -/
def Req.withdrawn (r : Req) (st : Nat) : Req :=
  if r.kind.isRead then { r with complete := true, status := r.status.map fun _ => none, back := r.back.map fun _ => [] }
  else { r with complete := true, status := r.status.map fun x => if x = some stOk then x else some st }

/-- One request is withdrawn with a status; its answer follows unless it was posted (R123, R126). -/
def State.withdraw (s : State) (r : Req) (st : Nat) : State :=
  let s := s.each (s.ents.filter fun e => e.req == r.serial && !e.stays) fun e t => t.touchRow e
  let s := { s with ents := s.ents.filter fun e => e.req != r.serial || e.stays }
  let s := if r.kind.isWrite && r.posted then s.countPostedFail r.rq else s
  (s.answerAll (r.withdrawn st) st).freePaths

/-- Every request that a predicate names is withdrawn with a status, oldest first. -/
def State.withdrawAll (s : State) (p : Req → Bool) (st : Nat) : State :=
  s.each (s.reqs.filter p) fun r t => t.withdraw r st

end Sys2Proof.Machine
end

