-- ==== Sys2Proof/Machine/Wheel.lean ====
section
/-! DEFINITION. The time wheel: how many positions refresh and neighbour refresh take, where they lie, how lockstep
reservations are placed among the free ones, and when a configuration fits (R155, R215, R216, R231 to R233, R244, R697). -/

namespace Sys2Proof.Machine

/-- The refresh interval D in c for the multiplier 1, 2 or 4 (R231). -/
def refreshD (op m : Nat) : Nat :=
  match m with
  | 1 => atOp op 3404 3026 2269 1513
  | 2 => atOp op 1702 1513 1134 756
  | _ => atOp op 851 756 567 378

/-- The commands due per interval D: four REFsb, or one REFab (R231). -/
def refreshB (mode : Nat) : Nat := if mode = 1 then 4 else 1

/-- P of R232: refresh positions of a rank per wheel. -/
def refreshP (mode op ms : Nat) : Nat := ceilDiv (refreshB mode * 16384 + refreshD op ms) (16 * refreshD op ms)

/-- The ranks of a channel, over all its DIMMs. -/
def rankCount (dimms : List Dimm) : Nat := (dimms.map Dimm.ranks).sum

/-! The steps of a training (R265). -/

/-- The longest time of a step in microseconds, over all DIMMs or ranks of the channel (R265). -/
def stepMax (l : List Dimm) (full : Bool) (n : Nat) : Nat :=
  let per : List Nat := if full then [2000, 4000, 1000, 500, 3000, 8000, 4000, 10000, 3000, 100]
    else [500, 1000, 200, 100, 500, 1500, 1000, 0, 3000, 100]
  per.getD (n - 1) 0 * (if n = 1 then l.length else rankCount l)

/-- The time from the start of a run at which step n begins, in microseconds; none when a step before it takes longer than its time. -/
def TrainRun.stepStart (t : TrainRun) (l : List Dimm) : Nat → Option Nat
  | 0 | 1 => some 0
  | n + 2 => (t.stepStart l (n + 1)).bind fun us =>
      if t.times.getD n 0 ≤ stepMax l t.full (n + 1) then some (us + t.times.getD n 0) else none

/-- The step that runs so many microseconds after the start, 1 to 10: the last one that has begun. -/
def TrainRun.stepNow (t : TrainRun) (l : List Dimm) (us : Nat) : Nat :=
  ((List.range 10).filter fun i => match t.stepStart l (i + 1) with | some x => decide (x ≤ us) | none => false).length

/-- The DIMM and rank numbers of the channel's ranks, as Place.rankNo numbers them, in the order of refresh (R233). -/
def rankNos (dimms : List Dimm) : List Nat :=
  (List.range dimms.length).flatMap fun d => (List.range ((dimms.getD d {}).ranks)).map fun r => d * 2 + r

/-- The size multiplier m_s of R232. -/
def State.sizeMult (s : State) (ch : Nat) : Nat := max 2 (s.obj (Obj.refMultMin ch))

/-- REF_POS_PER_RANK for an operating point (R232). -/
def State.refP (s : State) (ch op : Nat) : Nat := refreshP (s.obj (Obj.refMode ch)) op (s.sizeMult ch)

/-- RFM is required by a DIMM of the channel (R243). -/
def Chan.raaOn (c : Chan) : Bool := c.dimms.any Dimm.rfmRequired

/-- The least RAAIMT of the DIMMs that require RFM. -/
def Chan.raaimtMin (c : Chan) : Nat :=
  (c.dimms.filter Dimm.rfmRequired).foldl (fun m d => min m d.raaimt) 65536

/-- E and M of R244: the events and the neighbour-refresh positions of a subchannel per wheel. -/
def State.nrEvents (s : State) (ch : Nat) : Nat :=
  let a := ceilDiv (s.obj (Obj.nrKMax ch)) 128
  let b := if (s.chan ch).raaOn then ceilDiv 512 (s.chan ch).raaimtMin else 0
  max a b + s.obj (Obj.nrSpare ch)
def State.nrM (s : State) (ch : Nat) : Nat :=
  if s.obj (Obj.nrKMax ch) = 0 ∧ !(s.chan ch).raaOn then 0
  else if s.obj (Obj.nrMode ch) = 1 then s.nrEvents ch
  else s.nrEvents ch * 2 * s.obj (Obj.nrDistance ch)

/-- Owners of wheel positions: refresh, neighbour refresh, free (R230). -/
def ownRefresh : Nat := 0xFFF0
def ownNr : Nat := 0xFFF1
def ownFree : Nat := 0xFFFF

/-- The wheel position of refresh position j of N on a subchannel (R233). -/
def refreshPos (sub n j : Nat) : Nat :=
  if sub = 0 then 2 * (((2 * j + 1) * 512) / (2 * n)) else 2 * ((((j + 1) * 512) / n) % 512) + 1

/-- The rank that a refresh position of the wheel serves: position j serves rank j mod ranks (R233). -/
def refreshRank (ranks n sub pos : Nat) : Option Nat :=
  ((List.range n).find? fun j => refreshPos sub n j == pos).map fun j => j % ranks

/-- The free positions of a subchannel, ascending. -/
def freeOf (w : List Nat) (sub : Nat) : List Nat :=
  (List.range 1024).filter fun p => p % 2 == sub && w.getD p ownFree == ownFree

/-- m positions spread over the free ones of a subchannel, at indices ⌊(i + ½) F / m⌋ (R216, R233). -/
def spread (w : List Nat) (sub m : Nat) : List Nat :=
  let f := freeOf w sub
  (List.range m).map fun i => f.getD (((2 * i + 1) * f.length) / (2 * m)) 0

/-- Give positions of the wheel to an owner. -/
def own (w : List Nat) (l : List Nat) (o : Nat) : List Nat := l.foldl (fun w p => w.set p o) w

/-- The positions of an owner on a subchannel, ascending. -/
def ownedBy (w : List Nat) (o sub : Nat) : List Nat :=
  (List.range 1024).filter fun p => p % 2 == sub && w.getD p ownFree == o

/-- The wheel with refresh and neighbour refresh placed: N refresh positions and M neighbour-refresh positions on each
subchannel (R233); none when they do not fit. -/
def baseWheel (n m : Nat) : Option (List Nat) :=
  let w := List.replicate 1024 ownFree
  let w := own w (((List.range n).map (refreshPos 0 n)) ++ ((List.range n).map (refreshPos 1 n))) ownRefresh
  if (freeOf w 0).length < m ∨ (freeOf w 1).length < m then none
  else some (own (own w (spread w 0 m) ownNr) (spread w 1 m) ownNr)

/-- A client's reservation on one subchannel grows or shrinks to t positions (R216); none when it does not fit. -/
def resizeSub (w : List Nat) (c sub t : Nat) : Option (List Nat) :=
  let have' := ownedBy w c sub
  if have'.length ≤ t then
    if (freeOf w sub).length < t - have'.length then none else some (own w (spread w sub (t - have'.length)) c)
  else some (own w (have'.drop t) ownFree)

/-- A client with k slots holds ⌈k/2⌉ positions on A and ⌊k/2⌋ on B (R216). -/
def resizeClient (w : List Nat) (c k : Nat) : Option (List Nat) :=
  (resizeSub w c 0 ((k + 1) / 2)).bind fun w => resizeSub w c 1 (k / 2)

/-- The slots a client reserves: while its class is LOCKSTEP and it is enabled (R162); none while it is shed (R697). -/
def State.slotsOf (s : State) (shed : List Nat) (c : Nat) : Nat :=
  if s.rqEnabled c && s.classOf c == 0 && !shed.contains c then s.obj (Obj.lockstepSlots c) else 0

/-- The clients that reserve slots or hold positions, in ascending order. -/
def State.lsClients (s : State) (w : List Nat) (shed : List Nat) : List Nat :=
  (List.range 256).filter fun c => decide (0 < s.slotsOf shed c) || w.contains c

/-- Bring a placement to the reservations: shrinking clients first, then the growing ones, in ascending client ID. -/
def State.replace (s : State) (shed : List Nat) (w : List Nat) : Option (List Nat) :=
  let cs := s.lsClients w shed
  let size (w : List Nat) (c : Nat) := (ownedBy w c 0).length + (ownedBy w c 1).length
  let shrink := cs.filter fun c => decide (s.slotsOf shed c < size w c)
  let grow := cs.filter fun c => decide (size w c < s.slotsOf shed c)
  (shrink ++ grow).foldl (fun o c => o.bind fun w => resizeClient w c (s.slotsOf shed c)) (some w)

/-- HIGH_LOAD of R155: 16 for MG and Q × 1024 ÷ W rounded up for each enabled HIGH requester. -/
def requesters : List Nat := List.range 0x104 ++ (List.range 16).map (0x110 + ·)
def State.highLoad (s : State) : Nat :=
  16 + ((requesters.filter fun rq => s.rqEnabled rq && s.classOf rq == 1).map fun rq =>
    ceilDiv (s.obj (rqKey rq 0x11) * 1024) (s.obj (rqKey rq 0x12))).sum

/-- The reserved positions of a wheel. -/
def reservedOf (w : List Nat) : Nat := (w.filter (· != ownFree)).length

/-- R155: HIGH_LOAD and the reserved slots leave at least 32. -/
def State.loadFits (s : State) (w : List Nat) : Bool := decide (s.highLoad + reservedOf w ≤ 992)

/-- The wheel of a channel with its reservations placed afresh at an operating point, shed clients left out; none when it
does not fit (R251, R610). -/
def State.freshWheel (s : State) (ch op : Nat) (shed : List Nat) : Option (List Nat) :=
  (baseWheel (s.refP ch op * rankCount (s.chan ch).dimms) (s.nrM ch)).bind fun w =>
    (s.replace shed w).bind fun w => if s.loadFits w then some w else none

/-- Shed lockstep reservations in descending client ID until the rest fits (R697). -/
def State.shedUntil (s : State) (ch op : Nat) : List Nat → List Nat → List Nat × List Nat
  | [], shed => (((baseWheel (s.refP ch op * rankCount (s.chan ch).dimms) (s.nrM ch)).getD (List.replicate 1024 ownFree)), shed)
  | c :: t, shed =>
    match s.freshWheel ch op shed with
    | some w => (w, shed)
    | none => s.shedUntil ch op t (shed ++ [c])

/-- Place a channel's wheel afresh at an operating point, shedding what does not fit (R216, R697). -/
def State.placeFresh (s : State) (ch op : Nat) : State :=
  let (w, shed) := s.shedUntil ch op ((List.range 256).reverse.filter fun c => decide (0 < s.slotsOf (s.chan ch).shed c)) (s.chan ch).shed
  let s := s.modChan ch fun c => { c with place := w, shed := shed }
  s.setBit (Obj.schedStatus ch) 4 (!shed.isEmpty)

/-- The wheel in force of a channel. -/
def State.wheelOf (s : State) (ch : Nat) : List Nat :=
  let w := (s.chan ch).place
  if w.isEmpty then List.replicate 1024 ownFree else w

/-- The configuration of the accepted values fits every accepted channel (R155, R216, R697). -/
def State.wheelsFit (s : State) : Bool :=
  s.acceptedChans.all fun ch =>
    match s.replace (s.chan ch).shed (s.wheelOf ch) with
    | some w => s.loadFits w
    | none => false

/-- A client stops being shed (R697). -/
def State.unshed (s : State) (c : Nat) : State :=
  s.each channels fun ch t => t.modChan ch fun x => { x with shed := x.shed.filter (· != c) }

/-- The placement of the accepted values takes effect at a wrap (R216). -/
def State.replaceAll (s : State) : State :=
  s.each s.acceptedChans fun ch t =>
    match t.replace (t.chan ch).shed (t.wheelOf ch) with
    | some w => t.modChan ch fun c => { c with place := w }
    | none => t

/-- WHEEL_POS (R215). -/
def State.wheelPos (s : State) : Nat := (s.cyc - s.wheelBase) % 1024

/-- The c of the next wheel wrap. -/
def State.nextWrap (s : State) : Nat := s.wheelBase + ((s.cyc - s.wheelBase) / 1024 + 1) * 1024

/-- The owner of the position of a c. -/
def State.ownerAt (s : State) (ch c : Nat) : Nat := (s.wheelOf ch).getD ((c - s.wheelBase) % 1024) ownFree

end Sys2Proof.Machine
end

