-- ==== Sys2Proof/Machine/Parity.lean ====
section
/-! DEFINITION. Byte parity: how a burst is written with its check bits, flips and splits, how a read line is checked, and
the parity log (R295 to R317). -/

namespace Sys2Proof.Machine

/-- p of a byte: 1 when the byte holds an even number of ones (R296). -/
def parityOf (b : Byte) : Bool := popCount 8 b.toNat % 2 == 0

/-- Bit k of a byte. -/
def byteBit (b : Byte) (k : Nat) : Bool := b.toNat.testBit k

/-- A byte from its bits. -/
def byteOf (f : Nat → Bool) : Byte := BitVec.ofNat 8 ((List.range 8).foldl (fun n k => n + b2n (f k) * 2 ^ k) 0)

/-- Byte i fails its check: either stored copy differs from the parity of the byte as read (R301). -/
def byteFails (data check : List Byte) (i : Nat) : Bool :=
  let c := byteAt check (i / 4)
  let p := parityOf (byteAt data i)
  byteBit c (i % 4) != p || byteBit c (4 + i % 4) != p

/-- The bytes of a line that fail, as a mask (R302). -/
def failMask (data check : List Byte) : Nat :=
  (List.range 64).foldl (fun n i => n + b2n (byteFails data check i) * 2 ^ i) 0

/-- The pattern a flip mask makes of a byte: bits 8d + 7 to 8d of the mask for data device d (R295, R312). -/
def flipData (mask beats i : Nat) : Byte :=
  if bitOf beats (i / 4) then BitVec.ofNat 8 (fld (8 * (i % 4)) 8 mask) else 0#8

/-- The two check bits that a burst carries for byte i: primary copy, second copy (R296, R306, R313). -/
def burstCheck (data : List Byte) (poison : Nat) (split : Option (List Byte)) (i : Nat) : Bool × Bool :=
  let (a, b) := match split with
    | some s => (byteBit (byteAt s (i / 4)) (i % 4), byteBit (byteAt s (i / 4)) (4 + i % 4))
    | none => (parityOf (byteAt data i), parityOf (byteAt data i))
  if bitOf poison i then (!a, !b) else (a, b)

/-- What a write burst leaves in DRAM: enabled bytes and their check bits as the burst carries them, everything else as it
was (R297, R306, R312, R313). `flip` is the flip mask and its beats. -/
def writeBurst (old : List Byte × List Byte) (data : List Byte) (mask poison : Nat) (split : Option (List Byte))
    (flip : Option (Nat × Nat)) : List Byte × List Byte :=
  let en (i : Nat) := bitOf mask i
  let d := (List.range 64).map fun i =>
    if en i then (match flip with | some (m, bt) => byteAt data i ^^^ flipData m bt i | none => byteAt data i) else byteAt old.1 i
  let c := (List.range 16).map fun j => byteOf fun k =>
    let i := 4 * j + k % 4
    if en i then
      let (a, b) := burstCheck data poison split i
      let v := if k < 4 then a else b
      match flip with
      | some (m, bt) => if bitOf bt j && bitOf m (32 + k) then !v else v
      | none => v
    else byteBit (byteAt old.2 j) k
  (d, c)

/-- The source and kind codes of a log entry (R316). -/
def plogRead : Nat := 0
def plogLockstep : Nat := 1
def plogScrub : Nat := 2
def plogWrite : Nat := 3

/-- A line and kind are among the 16 most recent entries of the log (R317). -/
def State.plogRecent (s : State) (line kind : Nat) : Bool :=
  (List.range 16).any fun k =>
    let w := leNat (((s.dom Obj.parityLog).drop (32 * ((s.obj Obj.plogWritten + 255 - k) % 256))).take 8)
    fld 0 34 w == line && fld 40 4 w == kind

/-- The line equals FLIP_LAST of its subchannel (R316). -/
def State.injected (s : State) (ch sub a : Nat) : Bool :=
  s.obj (if sub = 0 then Obj.flipLastA ch else Obj.flipLastB ch) == a

/-- One entry of the parity log, unless it is suppressed (R315 to R317); its timestamp is that of the first failed check or the first
alert, or now (R316). -/
def State.plog (s : State) (e : Ent) (src kind m1 m2 : Nat) : State :=
  let line := e.addr / 64
  if s.plogRecent line kind then s.bump Obj.plogSuppressed
  else
    let w0 := e.rq * 2 ^ 48 + src * 2 ^ 44 + kind * 2 ^ 40 + b2n (s.injected e.ch (e.line % 2) e.addr) * 2 ^ 38 +
      (e.line % 2) * 2 ^ 36 + e.ch * 2 ^ 34 + line
    (s.patchDom Obj.parityLog (32 * (s.obj Obj.plogWritten % 256))
      (leBytes 8 w0 ++ leBytes 8 m1 ++ leBytes 8 m2 ++ leBytes 8 (e.failTs.getD s.ts))).wrapBump Obj.plogWritten

/-- Error line 4 × ch + 0, with its cause bits (R323). -/
def State.raiseParity (s : State) (ch cause : Nat) : State :=
  let low := if bitOf cause 0 then 0 else if bitOf cause 1 then 1 else 2
  (s.modObj (Obj.parityFaultCause ch) (· ||| cause)).raise (4 * ch) (sourceWord ch low)

/-- The split check bytes that a burst of a requester takes (R313). -/
def State.splitFor (s : State) (e : Ent) : Option (List Byte) :=
  if s.bit (Obj.splitEnable e.ch) (e.line % 2) && s.obj (Obj.splitRequester e.ch) == e.rq then some (s.dom (Obj.splitCheck e.ch)) else none

/-- The flip that alters a burst: the subchannel is armed, and the burst is not of FS or MG nor a retry (R312, R322). -/
def State.flipFor (s : State) (e : Ent) : Option (Nat × Nat) :=
  let sub := e.line % 2
  if s.bit (Obj.flipStatus e.ch) sub && e.rq != rqFs && e.rq != rqMg && e.attempts == 0 then
    some (if sub = 0 then (s.obj (Obj.flipMaskA e.ch), s.obj (Obj.flipBeatsA e.ch))
      else (s.obj (Obj.flipMaskB e.ch), s.obj (Obj.flipBeatsB e.ch)))
  else none

/-- The burst of a write line reaches DRAM (R297 to R299, R306, R312, R313). -/
def State.burst (s : State) (e : Ent) : State :=
  let fl := s.flipFor e
  let s' := s.setDram e.ch e.line (writeBurst (s.dramLine e.ch e.line) e.data e.mask e.poison (s.splitFor e) fl)
  let s' := if fl.isSome then
      let sub := e.line % 2
      ((s'.setBit (Obj.flipStatus e.ch) sub false).setObj (if sub = 0 then Obj.flipLastA e.ch else Obj.flipLastB e.ch) e.addr).bump
        (Obj.flipInjections e.ch)
    else s'
  if e.poison != 0 && e.attempts == 0 then (s'.bump (Obj.poisonWritten e.ch)).plog { e with failTs := none } plogWrite 5 e.mask 1 else s'

end Sys2Proof.Machine
end

