-- ==== Sys2Proof/Machine/Arbiter.lean ====
section
/-! DEFINITION. The store-channel arbiters: quotas, round robins, the grant of a line in a free slot, open writes and the
write-data path (R139 to R160). -/

namespace Sys2Proof.Machine

/-- The channel can issue commands: accepted, not failed, and neither parked nor in self-refresh. -/
def State.chanRuns (s : State) (ch : Nat) : Bool :=
  let c := s.chan ch
  c.accepted && !c.failed && !c.parked && !c.selfRefresh

/-- The arbiter grants lines: the channel runs and is not withdrawn for a training (R282). -/
def State.chanGrants (s : State) (ch : Nat) : Bool := s.chanRuns ch && (s.chan ch).train.isNone

/-- The class a line is arbitrated in: a LOCKSTEP client's other requests are NORMAL (R151). -/
def State.arbClassOf (s : State) (rq : Nat) : Nat := if s.classOf rq = 0 then 2 else s.classOf rq

/-- Q and W of a requester: 16 per 1,024 for MG (R140, R146). -/
def State.quotaQ (s : State) (rq : Nat) : Nat := if rq = rqMg then 16 else s.act (rqKey rq 0x11)
def State.quotaW (s : State) (rq : Nat) : Nat := if rq = rqMg then 1024 else s.act (rqKey rq 0x12)

/-- The c at which the windows of a requester begin: the first wrap after the release and after Q or W took effect (R146). -/
def State.quotaFirst (s : State) (ch rq : Nat) : Nat :=
  max (s.chan ch).quotaStart (mapGet (fun _ => 0) (s.chan ch).quotaBase rq)

/-- The first c of the quota window in force, 0 for the opening window (R146). -/
def State.quotaWindow (s : State) (ch rq : Nat) : Nat :=
  let base := s.quotaFirst ch rq
  if s.cyc < base then 0 else base + (s.cyc - base) / s.quotaW rq * s.quotaW rq

/-- The windows of a requester begin afresh at a c (R146, R156). -/
def State.quotaFrom (s : State) (rq c : Nat) : State :=
  s.each channels4 fun ch t => t.modChan ch fun x => { x with quotaBase := mapSet (fun _ => 0) x.quotaBase rq c }

/-- Values of a boundary act, and the windows of a quota that changes begin afresh at a c (R62, R146). -/
def State.actShadows (s : State) (p : Shadow → Bool) (base : Nat) : State :=
  let rqs := (s.shadows.filter p).filterMap fun h => if h.key % 0x100 = 0x11 ∨ h.key % 0x100 = 0x12 then rqOfKey h.key else none
  (s.dropShadows p).each rqs fun rq t => t.quotaFrom rq base

/-- A quota window ends: a masked requester is no longer masked, for its grants are counted by window (R146). -/
def State.quotaWindowEnds (s : State) (ch rq : Nat) : State :=
  let base := s.quotaFirst ch rq
  if s.cyc < base then s.advanceCyc base else s.advanceCyc (s.quotaWindow ch rq + s.quotaW rq)

/-- The grants of a requester in its window. -/
def State.quotaUsed (s : State) (ch rq : Nat) : Nat :=
  let u := mapGet (fun _ => (0, 0)) (s.chan ch).quotaUsed rq
  if u.1 = s.quotaWindow ch rq then u.2 else 0

/-- A HIGH requester is masked at an arbiter (R146). -/
def State.quotaMasked (s : State) (ch rq : Nat) : Bool :=
  s.arbClassOf rq == 1 && decide (s.quotaQ rq ≤ s.quotaUsed ch rq)

/-- The line at the head of a requester's input queue at a channel (R143). -/
def State.headLine (s : State) (ch rq : Nat) : Option Ent :=
  s.ents.find? fun e => e.ch == ch && e.rq == rq && e.stage == .input

/-- The entries of a subchannel at a stage. -/
def State.queue (s : State) (ch sub : Nat) (g : LineStage) : List Ent :=
  s.ents.filter fun e => e.ch == ch && e.line % 2 == sub && e.stage == g

/-- The target queue of a line has a free entry (R144, R201). -/
def State.queueRoom (s : State) (e : Ent) : Bool :=
  decide ((s.queue e.ch (e.line % 2) (if e.isWrite then .writeQ else .readQ)).length < 64)

/-- A requester is eligible in a free slot of a subchannel (R144). -/
def State.eligible (s : State) (ch sub rq : Nat) : Bool :=
  match s.headLine ch rq with
  | none => false
  | some e => e.line % 2 == sub && s.queueRoom e && (!e.isWrite || (s.chan ch).pathHolder.isNone) && !s.quotaMasked ch rq

/-- The requesters with a line at a channel, in ascending code. -/
def State.waitingRqs (s : State) (ch : Nat) : List Nat :=
  (requesters ++ [rqMg, rqFs]).filter fun rq => (s.headLine ch rq).isSome

/-- The next code after a pointer in a round robin. -/
def nextAfter (l : List Nat) (p : Nat) : Option Nat := (l.find? fun x => decide (p < x)).orElse fun _ => l.head?

/-- The requester that the arbiter serves in a free slot, and its class step of R145. A NORMAL requester that is not eligible in a slot keeps what is
left of its turn unless another NORMAL requester is granted (R147; DESIGN CHOICE, log entry 161). -/
def State.arbitrate (s : State) (ch sub : Nat) : Option Nat :=
  let c := s.chan ch
  let el := (s.waitingRqs ch).filter (s.eligible ch sub)
  let of (k : Nat) := el.filter fun rq => s.arbClassOf rq == k
  match nextAfter (of 1) c.rrHigh with
  | some rq => some rq
  | none =>
    if c.guardFired && el.contains rqFs then some rqFs
    else
      match (if (of 2).contains c.rrNormal && decide (0 < c.rrLeft) then some c.rrNormal else nextAfter (of 2) c.rrNormal) with
      | some rq => some rq
      | none => nextAfter (of 3) c.rrBack

/-- The round-robin pointers and quota after a grant (R145 to R148). -/
def State.afterGrant (s : State) (ch rq : Nat) : State :=
  match s.arbClassOf rq with
  | 1 =>
    let w := s.quotaWindow ch rq
    let u := s.quotaUsed ch rq + 1
    let s := s.modChan ch fun c => { c with rrHigh := rq, quotaUsed := mapSet (fun _ => (0, 0)) c.quotaUsed rq (w, u) }
    if rqHasObjects rq && u == s.quotaQ rq then s.bump (rqKey rq 0x1B) else s
  | 2 =>
    s.modChan ch fun c =>
      if c.rrNormal = rq ∧ 0 < c.rrLeft then { c with rrLeft := c.rrLeft - 1 }
      else { c with rrNormal := rq, rrLeft := s.act (rqKey rq 0x13) - 1 }
  | _ => s.modChan ch fun c =>
      if rq = rqFs then { c with guardFired := false, fsWait := none, rrBack := if c.guardFired then c.rrBack else rq }
      else { c with rrBack := rq }

/-- A subchannel enters DRAIN when its write queue holds WQ_HIGH lines or more; the drain runs under the thresholds now in force (R207,
R224). -/
def State.drainEnter (s : State) (ch sub : Nat) : State :=
  if !((s.chan ch).sub sub).drain && decide (((s.chan ch).sub sub).readUntil ≤ s.cyc) &&
      decide (s.act (Obj.wqHigh ch) ≤ (s.queue ch sub .writeQ).length) then
    let on (x : SubCh) : SubCh := { x with drain := true, drained := 0, drainAt := s.cyc, dLow := s.act (Obj.wqLow ch),
                                           dBatch := s.act (Obj.wrBatch ch), dMax := s.act (Obj.drainReadMax ch) }
    ((s.modSub ch sub on).bump (Obj.drainEntries ch)).setBit (Obj.schedStatus ch) sub true
  else s

/-- A subchannel whose drain ended early enters DRAIN again on the c after, if its write queue still holds WQ_HIGH lines (R207). -/
def State.drainAgain (s : State) (ch : Nat) : State :=
  s.each [0, 1] fun sub t =>
    let x := (t.chan ch).sub sub
    if x.readUntil ≠ 0 ∧ x.readUntil ≤ t.cyc then (t.modSub ch sub fun y => { y with readUntil := 0 }).drainEnter ch sub else t

/-- QUEUE_LEVELS (R228). -/
def State.queueLevels (s : State) (ch : Nat) : Nat :=
  (s.queue ch 0 .readQ).length + (s.queue ch 0 .writeQ).length * 2 ^ 8 + (s.queue ch 1 .readQ).length * 2 ^ 16 +
    (s.queue ch 1 .writeQ).length * 2 ^ 24

/-- A write of the same line waits in the write queue (R175, R208). -/
def State.hazardWrites (s : State) (e : Ent) : List Ent :=
  s.ents.filter fun w => w.isWrite && w.ch == e.ch && w.line == e.line && w.stage == .writeQ

/-- The entry of a granted line in its queue: its place in the order of grants, and for a read whether it met a write. -/
def Ent.take (e : Ent) (n c : Nat) (hz : Bool) : Ent :=
  { e with stage := if e.isWrite then .writeQ else .readQ, granted := c, vis := n, ord := n, hazard := hz,
           watch := if e.isOpen then none else some c }

/-- A line is granted (R145, R152, R174, R175). -/
def State.grant (s : State) (e : Ent) : State :=
  let hz := !e.isWrite && !(s.hazardWrites e).isEmpty
  let s' := { s with serial := s.serial + 1,
                     ents := (s.ents.filter fun x : Ent => x.serial != e.serial) ++ [e.take s.serial s.cyc hz] }
  let s' := if rqHasObjects e.rq then s'.bump (rqKey e.rq 0x1C) else s'
  let s' := s'.afterGrant e.ch e.rq
  let s' := if hz then s'.bump (Obj.hazardWaits e.ch) else s'
  if e.isWrite then
    let s' := if e.isOpen then
        (s'.modChan e.ch fun c => { c with pathHolder := some e.serial, pathSince := s.cyc }).setObj (Obj.holder e.ch) e.rq
      else s'.writeVisible e
    s'.drainEnter e.ch (e.line % 2)
  else s'

/-- FS holds a line that a free slot of its subchannel could take (R144, R148). -/
def State.fsEligible (s : State) (ch : Nat) : Bool :=
  s.chanGrants ch && match s.headLine ch rqFs with
    | some e => s.queueRoom e && (!e.isWrite || (s.chan ch).pathHolder.isNone)
    | none => false

/-- FS's wait under the starvation guard runs while its line is eligible and stands ungranted (R148). -/
def State.noteFs (s : State) (ch : Nat) : State :=
  match s.fsEligible ch, (s.chan ch).fsWait with
  | true, none => s.modChan ch fun c => { c with fsWait := some s.cyc }
  | false, some _ => s.modChan ch fun c => { c with fsWait := none }
  | _, _ => s

/-- The guard fires when FS's line has waited BG_MAX_WAIT c (R148). -/
def State.guardFires (s : State) (ch : Nat) : State :=
  match ((s.noteFs ch).chan ch).fsWait with
  | some t => if (s.chan ch).guardFired then s else (s.advanceCyc (t + s.act (Obj.bgMaxWait ch))).modChan ch fun c => { c with guardFired := true }
  | none => s

/-- The next line of a fill: FS's write of zeros, in ascending order; a line of a fenced page counts as filled (R307, R657). -/
def State.fillLine (s : State) (ch : Nat) : State :=
  let l := (s.chan ch).fillNext
  let a := s.encodeAddr ch (64 * l)
  let adv (t : State) := (t.modChan ch fun c => { c with fillNext := l + 1 }).setObj (Obj.fillPosition ch) (l + 1)
  if s.fenced a then adv (s.bump Obj.retiredHits)
  else
    adv { s with serial := s.serial + 1
                 ents := s.ents ++ [({ serial := s.serial, req := s.serial, rq := rqFs, ix := 0, ch := ch, line := l, isWrite := true,
                                       data := zeroLine, mask := 2 ^ 64 - 1, stage := .writeQ, granted := s.cyc, vis := s.serial, ord := s.serial,
                                       addr := a, watch := some s.cyc } : Ent)] }

/-- The free slots of a wheel from one c up to another (R164). -/
def State.freeSlots (s : State) (ch lo hi : Nat) : Nat :=
  let w := s.wheelOf ch
  (hi - lo) / 1024 * (1024 - reservedOf w) +
    ((List.range ((hi - lo) % 1024)).filter fun i => w.getD ((lo + i - s.wheelBase) % 1024) ownFree == ownFree).length

/-- The slots of a channel that time has passed without a grant: the free ones are counted (R164). -/
def State.countIdle (s : State) (ch : Nat) : State :=
  let t := (s.chan ch).grantAt
  if s.chanGrants ch && decide (t < s.cyc) then
    (s.addTo (Obj.idleFreeSlots ch) (s.freeSlots ch t s.cyc)).modChan ch fun c => { c with grantAt := s.cyc }
  else s

/-! The positions that tracking takes ahead of arbitration (R275). -/

/-- The channel tracks: it is released, and TRACK_ENABLE is 1 (R275). -/
def State.tracks (s : State) (ch : Nat) : Bool := s.released ch && s.act (Obj.trackEnable ch) == 1

/-- The wheel, and the period of 16 wheels, of a c: wheels are counted from the last restart (R215, R275). -/
def State.wheelNo (s : State) (c : Nat) : Nat := (c - s.wheelBase) / 1024
def State.trackPeriod (s : State) (c : Nat) : Nat := (c - s.wheelBase) / 16384

/-- The oscillator of rank index r of a subchannel has not been read in the period of 16 wheels of a c (R275). -/
def State.oscDue (s : State) (ch sub r c : Nat) : Bool :=
  let last := mapGet (fun _ => 0) (s.chan ch).oscAt (2 * r + sub)
  last == 0 || decide (s.trackPeriod last < s.trackPeriod c)

/-- Rank index r of a subchannel has received no read in a number of wheels before a c (R275). -/
def State.unread (s : State) (ch sub r wheels c : Nat) : Bool :=
  decide (mapGet (fun _ => 0) (s.chan ch).readAt (2 * r + sub) + wheels * 1024 ≤ c)

/-- An oscillator or tracking read has found no idle refresh position for 8 wheels (R275). -/
def State.trackWaits (s : State) (ch sub c : Nat) : Bool :=
  s.tracks ch && (List.range (rankCount (s.chan ch).dimms)).any fun r =>
    (s.oscDue ch sub r c && decide (8192 ≤ (c - s.wheelBase) % 16384)) || s.unread ch sub r 12 c

/-- The free positions that tracking took in the 16 wheels before a c. -/
def SubCh.tookBy (x : SubCh) (c : Nat) : List Nat := x.took.filter fun p => decide (c < p + 16384)

/-- Tracking takes the free position of a c ahead of arbitration, at most 4 of a subchannel in 16 wheels, one at a time (R275). -/
def State.takeFree (s : State) (ch c : Nat) : State :=
  let sub := (c - s.wheelBase) % 2
  let took := ((s.chan ch).sub sub).tookBy c
  if s.chanGrants ch && s.ownerAt ch c == ownFree && decide ((s.chan ch).grantAt ≤ c) && decide (took.length < 4) &&
      took.all (fun p => decide (p + ruleHot 1 (s.obj Obj.opCurrent) < c)) && s.trackWaits ch sub c then
    s.modSub ch sub fun x => { x with took := c :: took }
  else s

/-- The arbiter's work in the next slot of a channel: at most one line, in a free slot only (R142 to R148). -/
def State.lineGrant (s : State) (ch : Nat) : State :=
  let s := s.advanceCyc (max s.cyc (s.chan ch).grantAt)
  let s := s.takeFree ch s.cyc
  let sub := s.wheelPos % 2
  let s' := s.modChan ch fun c => { c with grantAt := s.cyc + 1 }
  if !s.chanGrants ch || s.ownerAt ch s.cyc != ownFree then s'
  else if ((s.chan ch).sub sub).took.contains s.cyc then s'.bump (Obj.idleFreeSlots ch)
  else if s.obj (Obj.fillState ch) = 1 ∧ !s.released ch ∧ (s.arbitrate ch sub).isNone then
    if (s.chan ch).fillNext % 2 = sub ∧ 64 * (s.chan ch).fillNext < s.capacity ch ∧ (s.queue ch sub .writeQ).length < 64
    then (s'.fillLine ch).drainEnter ch sub else s'.bump (Obj.idleFreeSlots ch)
  else
    match s.arbitrate ch sub with
    | none => (s'.bump (Obj.idleFreeSlots ch)).noteFs ch
    | some rq =>
      match s.headLine ch rq with
      | none => s'
      | some e => (s'.grant e).noteFs ch

/-- The wheel wraps: shadows of that boundary act, with fresh quota windows for what they change, and the placement of the accepted
values (R146, R156, R215, R216). -/
def State.wheelWraps (s : State) : State :=
  let mine (h : Shadow) : Bool := h.bound == .wheelWrap
  ((s.actShadows mine s.cyc).replaceAll).each channels4 fun ch t => t.setObj (Obj.wheelWrapTs ch) s.ts

/-- The wheel restarts at position 0 on a frame boundary, which is a wrap (R31, R215). -/
def State.restartWheel (s : State) : State :=
  let s := { s with wheelBase := s.cyc }
  (s.each channels4 fun ch t => t.modChan ch fun x =>
    { x with quotaStart := min x.quotaStart s.cyc
             quotaBase := x.quotaBase.map fun e => (e.1, min e.2 s.cyc) }).wheelWraps

/-- The entry of a channel's queues whose wait for its command began first (R225). -/
def State.firstWatched (s : State) (ch : Nat) : Option (Ent × Nat) :=
  (s.ents.filter fun e => e.ch == ch && (e.stage == .readQ || e.stage == .writeQ)).foldl (fun o e =>
    match e.watch, o with
    | none, _ => o
    | some d, none => some (e, d)
    | some d, some (_, m) => if d < m then some (e, d) else o) none

/-- The scheduler's watchdog: an entry has stayed unissued for SCHED_WATCHDOG c on which the channel could issue (R225). -/
def State.schedBites (s : State) (ch : Nat) : State :=
  match (if s.chanRuns ch then s.firstWatched ch else none) with
  | none => s
  | some (e, d) =>
    let s := s.advanceCyc (d + s.obj (Obj.schedWatchdog ch))
    let s := { s with ents := s.ents.map fun x : Ent => if x.serial = e.serial then { x with watch := none } else x }
    (s.bump (Obj.schedWatchdogBites ch)).raise (4 * ch + 2) (sourceWord ch 0xFF)

/-- The data of an open entry completes: its request's lines are no longer open, and those granted become visible (R152, R174). -/
def State.completeOpen (s : State) (n : Nat) : State :=
  let mine := s.ents.filter fun e => e.req == n && e.isOpen
  let s := s.modReq n fun r => { r with openData := false }
  let s := { s with ents := s.ents.map fun e : Ent =>
    if e.req = n ∧ e.isOpen = true then { e with isOpen := false, watch := if e.stage = LineStage.writeQ then some s.cyc else e.watch } else e }
  (s.each (mine.filter fun e => e.stage == .writeQ) fun e t => t.writeVisible e).freePaths

/-- The open entry of a channel is discarded before it reaches DRAM; reads of others that waited on it are released with old
data (R157, R159). `all` releases the holder's own reads too. -/
def State.discardOpen (s : State) (ch : Nat) (all : Bool) : State :=
  match (s.chan ch).pathHolder with
  | none => s
  | some n =>
    match s.ents.find? fun e => e.serial == n with
    | none => s.freePaths
    | some w =>
      let s := s.touchRow w
      let s := { s with ents := (s.ents.filter fun e : Ent => e.serial != n).map fun e : Ent =>
          if !e.isWrite && e.ch == ch && e.line == w.line && (e.stage == LineStage.readQ || e.stage == LineStage.slotted) && decide (w.ord < e.ord) && (all || e.rq != w.rq)
          then { e with broken := true } else e }
      s.freePaths

end Sys2Proof.Machine
end

