-- ==== Sys2Proof/Machine/Refresh.lean ====
section
/-! DEFINITION. Refresh and row-disturbance care: the rotation and its deadlines, the spans refresh blocks, temperature and the
multiplier in force, draws, the adjacency map and the adaptive probability (R231 to R257). -/

namespace Sys2Proof.Machine

/-- The multiplier in force, from REF_STATE [3:2] (R256). -/
def State.multInForce (s : State) (ch : Nat) : Nat := 2 ^ fld 2 2 (s.obj (Obj.refState ch))

/-- REF_INTERVAL: D in force (R231, R256). -/
def State.refD (s : State) (ch : Nat) : Nat := refreshD (s.obj Obj.opCurrent) (s.multInForce ch)

/-- The temperature state last decided: 0 NORMAL, 1 HOT, 2 OVER (R256). -/
def State.tempState (s : State) (ch : Nat) : Nat := fld 0 2 (s.obj (Obj.refState ch))

/-- The number of refresh positions of a subchannel per wheel, N (R233). -/
def State.refN (s : State) (ch : Nat) : Nat := s.refP ch (s.obj Obj.opCurrent) * rankCount (s.chan ch).dimms

/-- The rank a c's refresh position serves on a subchannel, as an index among the channel's ranks. -/
def State.refRankAt (s : State) (ch sub c : Nat) : Option Nat :=
  let p := (c - s.wheelBase) % 1024
  if p % 2 = sub then refreshRank (rankCount (s.chan ch).dimms) (s.refN ch) sub p else none

/-- The refresh state of a rank of a subchannel. -/
def rankKey (sub r : Nat) : Nat := sub * 8 + r
def Chan.rank (c : Chan) (sub r : Nat) : RankRefresh := mapGet (fun _ => {}) c.refresh (rankKey sub r)
def Chan.setRank (c : Chan) (sub r : Nat) (x : RankRefresh) : Chan :=
  { c with refresh := mapSet (fun _ => {}) c.refresh (rankKey sub r) x }

/-- The wheel positions of a rank's refresh on a subchannel (R233). -/
def State.refPosOf (s : State) (ch sub r : Nat) : List Nat :=
  let n := s.refN ch
  ((List.range n).filter fun j => j % rankCount (s.chan ch).dimms == r).map (refreshPos sub n)

/-- The c of the rank's next refresh position after c (R234). -/
def State.nextRefPos (s : State) (ch sub r c : Nat) : Nat :=
  let b := (c + 1 - s.wheelBase) % 1024
  (s.refPosOf ch sub r).foldl (fun m p => min m (c + 1 + (p + 1024 - b) % 1024)) (c + 1024)

/-- The key of the command next in rotation: the bank address in SAME_BANK mode, the rank in ALL_BANK mode (R231). -/
def State.refNext (s : State) (ch : Nat) (x : RankRefresh) : Nat := if s.obj (Obj.refMode ch) = 1 then x.next else 0

/-- The temperature need (R237); a channel whose MR4 reads are stale is treated as HOT (R253). -/
def State.tempNeed (s : State) (ch : Nat) : Nat := if s.tempState ch = 0 ∧ s.bit (Obj.refState ch) 5 = false then 1 else 2

/-- The next refresh-interval boundary after the present c: they fall every D c from the restart of the wheel (R238). -/
def State.nextBoundary (s : State) (ch : Nat) : Nat := s.wheelBase + ((s.cyc - s.wheelBase) / s.refD ch + 1) * s.refD ch

/-- D at a c: the multiplier that the next boundary puts in force counts from that boundary on (R234, R238). -/
def State.refDAt (s : State) (ch c : Nat) : Nat :=
  if s.nextBoundary ch ≤ c then refreshD (s.obj Obj.opCurrent) (max (s.obj (Obj.refMultMin ch)) (s.tempNeed ch)) else s.refD ch

/-- The refresh due at a position: during the full pass at every position, then when the deadline falls before the rank's
next position (R234). -/
def State.refDue (s : State) (ch sub r c : Nat) (x : RankRefresh) : Bool :=
  decide (0 < x.passLeft) ||
    decide (mapGet (fun _ => 0) x.lastAt (s.refNext ch x) + s.refDAt ch c < s.nextRefPos ch sub r c)

/-- The rank's state after its refresh at c (R231, R234). -/
def State.afterRef (s : State) (ch c : Nat) (x : RankRefresh) : RankRefresh :=
  { x with lastAt := mapSet (fun _ => 0) x.lastAt (s.refNext ch x) c
           next := (x.next + 1) % 4
           passLeft := x.passLeft - 1
           held := false
           overdue := clearBits x.overdue (2 ^ s.refNext ch x) }

/-- The rank's state after a refresh of an overdue bank beside the rotation (R252). -/
def afterExtra (x : RankRefresh) (c key : Nat) : RankRefresh :=
  { x with lastAt := mapSet (fun _ => 0) x.lastAt key c, overdue := clearBits x.overdue (2 ^ key) }

/-- The first overdue key of a rank (R252). -/
def RankRefresh.overdueKey (x : RankRefresh) : Option Nat := (List.range 4).find? fun key => bitOf x.overdue key

/-- The refreshes of a rank from c up to a horizon, as the rotation will issue them, with those of overdue banks in the positions that the
rotation leaves: c and the key of each (R236, R252). -/
def State.refAhead (s : State) (ch sub r : Nat) : Nat → Nat → RankRefresh → List (Nat × Nat)
  | 0, _, _ => []
  | n + 1, c, x =>
    let p := s.nextRefPos ch sub r c
    if s.refDue ch sub r p x then (p, s.refNext ch x) :: s.refAhead ch sub r n p (s.afterRef ch p x)
    else
      match x.overdueKey with
      | some key => (p, key) :: s.refAhead ch sub r n p (afterExtra x p key)
      | none => s.refAhead ch sub r n p x

/-- The bracketed counts of a channel, which lockstep reads always use (R212). -/
def State.hotCounts (s : State) (ch : Nat) : Counts :=
  { op := s.obj Obj.opCurrent, big := decide (16 < ((s.chan ch).dimms.headD {}).density), hot := true }

/-- Arbitrated traffic uses the bracketed counts: SCHED_STATUS bit [2] is set (R212, R228). -/
def State.hotNow (s : State) (ch : Nat) : Bool := s.bit (Obj.schedStatus ch) 2

/-- The refreshes of a rank that blocked spans come from: the last issued of each bank, one that is held, and those that its positions will issue
(R236, R252). -/
def State.refNear (s : State) (ch : Nat) (pl : Place) : List (Nat × Nat) :=
  let r := (rankNos (s.chan ch).dimms).idxOf pl.rankNo
  let x := (s.chan ch).rank pl.sub r
  let gone := x.lastAt.map fun e => (e.2, e.1)
  let from' := if x.lastAt.any fun e => e.2 == s.cyc then s.cyc else s.cyc - 1
  let n := 4 * s.refP ch (s.obj Obj.opCurrent) + 4
  if x.held then gone ++ (s.cyc + 1, s.refNext ch x) :: s.refAhead ch pl.sub r n from' (s.afterRef ch (s.cyc + 1) x)
  else gone ++ s.refAhead ch pl.sub r n from' x

/-- The refresh command of a rank and rotation key. -/
def State.refCmd (s : State) (ch rk key c : Nat) : DramCmd :=
  if s.obj (Obj.refMode ch) = 1 then ⟨.refsb, rk, 0, key, 0, false, false, c, s.hotNow ch⟩
  else ⟨.refab, rk, 0, 0, 0, false, false, c, s.hotNow ch⟩

/-- An ACT or RFMsb at c p lies outside the spans that a list of refreshes blocks for its bank (R236). -/
def refClear (k : Counts) (all : Bool) (refs : List (Nat × Nat)) (pl : Place) (p : Nat) : Bool :=
  refs.all fun (rc, key) =>
    if all then decide (p + k.rule 4 ≤ rc) || decide (rc + k.rule 20 ≤ p)
    else if key = pl.bank then decide (p + k.rule 4 ≤ rc) || decide (rc + k.rule 21 ≤ p)
    else decide (p ≤ rc) || decide (rc + k.rule 22 ≤ p)

/-! Temperature (R237, R238, R253, R255). -/

/-- What a raw MR4 code says (R237): 0 NORMAL, 1 HOT, 2 OVER, 3 no valid indication. JESD79-5's table is not in the spec. -/
def mr4State (code : Nat) : Nat := Config.mr4State code % 4

/-- Error line 4 × ch + 3 as an event, with its cause bit (R254). -/
def State.raiseRefresh (s : State) (ch cause : Nat) : State :=
  (s.setBit (Obj.refFaultCause ch) cause true).raise (4 * ch + 3) (sourceWord ch cause)

/-- Error line 4 × ch + 3 as a condition that begins (R254). -/
def State.beginRefresh (s : State) (ch cause : Nat) : State :=
  (s.setBit (Obj.refFaultCause ch) cause true).beginCause (4 * ch + 3) cause (sourceWord ch cause)

/-- The longest interval of a bank since its last refresh: D, and 2 × D + 2,048 c where the multiplier changed within it (R238, R250). -/
def State.refBound (s : State) (ch last : Nat) : Nat :=
  if last < (s.chan ch).multAt then 2 * s.refD ch + 2048 else s.refD ch

/-- A bank of a rank becomes overdue (R252). -/
def State.goesOverdue (s : State) (ch sub r key : Nat) : State :=
  let x := (s.chan ch).rank sub r
  if !s.chanRuns ch || decide (rankCount (s.chan ch).dimms ≤ r) || bitOf x.overdue key || decide (4 ≤ key) ||
      (s.obj (Obj.refMode ch) == 0 && key != 0) then s
  else
    let last := mapGet (fun _ => 0) x.lastAt key
    let s := s.advanceCyc (last + s.refBound ch last + 1)
    let s := s.modChan ch fun c => c.setRank sub r { x with overdue := withBit x.overdue key true }
    (s.bump (Obj.refOverdue ch)).beginRefresh ch 0

/-- No bank of the channel is overdue any more. -/
def State.overdueEnds (s : State) (ch : Nat) : State :=
  if (s.chan ch).refresh.any fun e => e.2.overdue != 0 then s else s.endCause (4 * ch + 3) 0

/-- A temperature state is entered (R237): OVER holds line 42 while the channel stays in it. -/
def State.enterTemp (s : State) (ch t : Nat) : State :=
  let was := s.tempState ch
  let s := s.modObj (Obj.refState ch) fun v => putFld 0 2 v t
  let s := if was = 0 ∧ t ≠ 0 then s.bump (Obj.hotEntries ch) else s
  s.setCause 42 (1 + ch) (sourceWord ch 0xFF) (t == 2)

/-- One MR4 read of a rank of a subchannel completes with a raw code (R237, R253, R255). -/
def State.mr4Read (s : State) (ch r sub code : Nat) : State :=
  let k := 2 * r + sub
  let s := s.modObj (Obj.mr4Last ch) fun v => putFld (3 * k) 3 v code
  let st := mr4State code
  if st = 3 then s
  else
    let c := s.chan ch
    let seen := if c.mr4Seen.contains k then c.mr4Seen else c.mr4Seen ++ [k]
    let worst := max c.mr4Worst st
    let s := s.modChan ch fun c => { c with mr4At := mapSet (fun _ => 0) c.mr4At k s.cyc, mr4Seen := seen, mr4Worst := worst }
    let s := s.modChan ch fun c => { c with mr4Late := c.mr4Late.filter (· != r) }
    let s := if s.bit (Obj.refState ch) 5 && (s.chan ch).mr4Late.isEmpty then
        (s.setBit (Obj.refState ch) 5 false).endCause (4 * ch + 3) 3 else s
    let s := if st ≠ 0 ∧ s.tempState ch < st then s.enterTemp ch st else s
    if seen.length < 2 * rankCount c.dimms then s
    else
      let s := s.modChan ch fun c => { c with mr4Seen := [], mr4Worst := 0, tempFirst := true,
                                              tempCool := if worst = 0 then c.tempCool + 1 else 0 }
      if worst = 0 then (if !c.tempFirst || 2 ≤ (s.chan ch).tempCool then s.enterTemp ch 0 else s)
      else s.enterTemp ch worst

/-- No MR4 read of a rank for 64 wheels: the channel is treated as HOT from the next boundary, though REF_STATE [1:0] keeps what the last
read decided (R253, R256). -/
def State.mr4GoesStale (s : State) (ch r : Nat) : State :=
  if (s.chan ch).mr4Late.contains r then s
  else
    let s := s.modChan ch fun c => { c with mr4Late := c.mr4Late ++ [r] }
    ((s.setBit (Obj.refState ch) 5 true).bump (Obj.mr4StaleCount ch)).beginRefresh ch 3

/-- 64 wheels pass without a completed MR4 read of a rank (R253). -/
def State.mr4Expires (s : State) (ch r : Nat) : State :=
  if !s.chanRuns ch || decide (rankCount (s.chan ch).dimms ≤ r) then s
  else
    let last (sub : Nat) : Nat := mapGet (fun _ => 0) (s.chan ch).mr4At (2 * r + sub)
    (s.advanceCyc (max (last 0) (last 1) + 65536)).mr4GoesStale ch r

/-- The LFSR of a channel is seeded from the timestamp (R240, R255). -/
def State.seedLfsr (s : State) (ch : Nat) : State := s.modChan ch fun c => { c with lfsr := Config.lfsrSeed s.ts }

/-- The entropy source fails a health test, and draws come from the LFSR from that c on (R240, R254). -/
def State.entropyFails (s : State) (ch : Nat) : State :=
  if !(s.chan ch).accepted || !s.bit (Obj.nrStatus ch) 0 then s
  else ((s.seedLfsr ch).setBit (Obj.nrStatus ch) 0 false).beginRefresh ch 2

/-- So many consecutive samples of the source have passed both tests: with 1,024 its start-up test is passed, and draws return to it after a failure
(R240, R255). -/
def State.entropyPasses (s : State) (ch samples : Nat) : State :=
  if !(s.chan ch).accepted || decide (samples < 1024) then s
  else
    let s := s.modChan ch fun c => { c with entropyUp := true }
    if s.bit (Obj.nrStatus ch) 0 then s else (s.setBit (Obj.nrStatus ch) 0 true).endCause (4 * ch + 3) 2

/-- The multiplier is brought up to date at a refresh-interval boundary, with its pin and catch-up bits (R238, R249). -/
def State.multBoundary (s : State) (ch : Nat) : State :=
  let need := s.tempNeed ch
  let m := max (s.obj (Obj.refMultMin ch)) need
  let pin := decide (s.act (Obj.refMultMax ch) < m)
  let s' := if pin && !s.bit (Obj.refState ch) 4 then s.bump (Obj.refPinnedCount ch) else s
  let s' := s'.setBit (Obj.refState ch) 4 pin
  let late := decide (s.multInForce ch < m) &&
    (s.chan ch).refresh.any fun (_, x) => x.lastAt.any fun (_, c) => decide (c + refreshD (s.obj Obj.opCurrent) m < s.cyc)
  let s' := if late then s'.bump (Obj.refCatchups ch) else s'
  let s' := s'.setBit (Obj.refState ch) 6 late
  let s' := if m = s.multInForce ch then s' else s'.modChan ch fun c => { c with multAt := s.cyc }
  let s' := s'.modObj (Obj.refState ch) fun v => putFld 2 2 v (if m = 4 then 2 else if m = 2 then 1 else 0)
  s'.setBit (Obj.schedStatus ch) 2 (need == 2)

/-- The catch-up is over once no bank has gone longer than D (R238, R256). -/
def State.catchUpEnds (s : State) (ch : Nat) : State :=
  if s.bit (Obj.refState ch) 6 &&
      ((s.chan ch).refresh.all fun (_, x) => x.lastAt.all fun (_, c) => decide (s.cyc ≤ c + s.refD ch)) then
    s.setBit (Obj.refState ch) 6 false
  else s

/-! Neighbour refresh (R239 to R246). -/

/-- Bit i of the physical row of a logical row before the XOR (R241). -/
def permRow (perm : List Byte) (row : Nat) : Nat :=
  (List.range 17).foldl (fun n i => n + b2n (bitOf row (byteAt perm i).toNat) * 2 ^ i) 0

/-- The logical row of a permuted one. -/
def unpermRow (perm : List Byte) (row : Nat) : Nat :=
  (List.range 17).foldl (fun n i => n + b2n (bitOf row i) * 2 ^ (byteAt perm i).toNat) 0

/-- The XOR of the adjacency map: applied when the physical row bit that ADJ_XOR[28:24] names is 1 (R241). -/
def adjXor (x row : Nat) : Nat := if bitOf row (fld 24 5 x) then row ^^^ fld 0 17 x else row

/-- Φ and its inverse (R241, R257). -/
def State.phi (s : State) (ch row : Nat) : Nat :=
  if s.obj (Obj.adjMode ch) = 0 then row else adjXor (s.obj (Obj.adjXor ch)) (permRow (s.dom (Obj.adjPerm ch)) row)
def State.phiInv (s : State) (ch row : Nat) : Nat :=
  if s.obj (Obj.adjMode ch) = 0 then row else unpermRow (s.dom (Obj.adjPerm ch)) (adjXor (s.obj (Obj.adjXor ch)) row)

/-- The rows of a device of the density in Gb (R168). -/
def deviceRows (density : Nat) : Nat := if density = 16 then 65536 else if density = 24 then 98304 else 131072

/-- The victim rows of an event (R241). -/
def State.victims (s : State) (ch row : Nat) : List Nat :=
  let p := s.phi ch row
  let rows := deviceRows ((s.chan ch).dimms.headD {}).density
  let near := if s.obj (Obj.nrDistance ch) = 2 then [(1 : Int), -1, 2, -2] else [1, -1]
  (near.filterMap fun d =>
    let q := (p : Int) + d
    if q < 0 ∨ 131072 ≤ q then none
    else some (s.phiInv ch q.toNat)).filter fun r => decide (r < rows)

/-- A command to a line's bank. -/
def Place.cmd (p : Place) (k : DramKind) (masked ap hot : Bool) (c : Nat) : DramCmd := ⟨k, p.rankNo, p.bg, p.bank, p.row, masked, ap, c, hot⟩

/-- The commands of a slotted lockstep line: ACT, READ, and the precharge that the READ carries (R218). -/
def State.lsCmds (s : State) (e : Ent) : List DramCmd :=
  let k := s.hotCounts e.ch
  let p := s.place e.ch e.line
  let rd := e.pos + k.rule 1
  [p.cmd .act false false true e.pos, p.cmd .rd false true true rd, p.cmd .pre false false true (max (rd + k.rule 14) (e.pos + k.rule 3))]

/-- The commands that refresh a row, or the RFMsb, at c n (R241, R242). -/
def NrEvent.cmds (k : Counts) (e : NrEvent) (row n : Nat) : List DramCmd :=
  if e.rfm then [⟨.rfmsb, e.rank, 0, e.bank, 0, false, false, n, true⟩]
  else [⟨.act, e.rank, e.bg, e.bank, row, false, false, n, true⟩, ⟨.pre, e.rank, e.bg, e.bank, row, false, false, n + k.rule 3, true⟩]

/-- The commands of the assigned neighbour refreshes of a subchannel that are still to come (R245). -/
def State.nrCmds (s : State) (ch sub : Nat) : List DramCmd :=
  let k := s.hotCounts ch
  ((s.chan ch).nr.filter fun e => e.sub == sub).flatMap fun e =>
    ((e.todo.filter fun i => decide (0 < i.2)).flatMap fun i => e.cmds k i.1 i.2) ++
      (match e.openAt with
       | some t => [⟨.pre, e.rank, e.bg, e.bank, 0, false, false, t + k.rule 3, true⟩]
       | none => [])

/-- Two reserved commands break a rule of R211, whichever comes first. -/
def clashes (k : Counts) (a b : DramCmd) : Bool :=
  if a.at' ≤ b.at' then decide (b.at' < a.at' + minGap k a b) else decide (a.at' < b.at' + minGap k b a)

/-- Rule 7 holds over the ACT of a list on one rank. -/
def fawList (k : Counts) (l : List DramCmd) (rank : Nat) : Bool :=
  let at' := (l.filter fun m => m.kind == .act && m.rank == rank).map DramCmd.at'
  at'.all fun x => decide ((at'.filter fun y => decide (x ≤ y) && decide (y < x + k.rule 7)).length ≤ 4)

/-- A set of commands keeps the rules beside another set. -/
def fitsBeside (k : Counts) (new old : List DramCmd) : Bool :=
  (new.all fun a => old.all fun b => !clashes k a b) && new.all fun a => a.kind != .act || fawList k (new ++ old) a.rank

/-- The first neighbour-refresh position for a row of an event, or its RFMsb: at least LS_LEAD c ahead, not taken, outside the spans that
refresh blocks, and breaking no rule against the refresh commands, the slotted templates and the other assignments (R245). -/
def State.nrFind (s : State) (ch : Nat) (e : NrEvent) (row : Nat) : Option Nat :=
  let k := s.hotCounts ch
  let lo := s.cyc + lsLead k.op
  let w := s.wheelOf ch
  let ps := (List.range 1024).filter fun p => p % 2 == e.sub && w.getD p ownFree == ownNr
  let base := s.wheelBase + (lo - s.wheelBase) / 1024 * 1024
  let old := (s.queue ch e.sub .slotted).flatMap s.lsCmds ++ s.nrCmds ch e.sub
  let taken := ((s.chan ch).nr.filter fun x => x.sub == e.sub).flatMap fun x => x.todo.map Prod.snd
  let pl : Place := { sub := e.sub, dimm := e.rank / 2, rank := e.rank % 2, bg := e.bg, bank := e.bank, row := row, col := 0 }
  let refs := s.refNear ch pl
  let all := s.obj (Obj.refMode ch) == 0
  let old := old ++ refs.map fun i => s.refCmd ch e.rank i.2 i.1
  ((List.range 64).flatMap fun i => ps.map (base + 1024 * i + ·)).find? fun n =>
    decide (lo ≤ n) && !taken.contains n && refClear k all refs pl n && fitsBeside k (e.cmds k row n) old

/-- The pending events get their positions, in the order of the queue: what RAA asks for stands first (R243, R245). -/
def State.nrAssign (s : State) (ch : Nat) : State :=
  let ixs := (List.range (s.chan ch).nr.length).flatMap fun i => (List.range 4).map fun j => (i, j)
  s.each ixs fun (i, j) t =>
    match (t.chan ch).nr[i]? with
    | some e =>
      match e.todo[j]? with
      | some (row, 0) =>
        match t.nrFind ch e row with
        | some n => t.modChan ch fun c => { c with nr := c.nr.set i { e with todo := e.todo.set j (row, n) } }
        | none => t
      | _ => t
    | none => t

/-- The drawn events pending on a subchannel: those RAA asks for are no draws (R243, R245). -/
def Chan.pendingOn (c : Chan) (sub : Nat) : Nat := (c.nr.filter fun x => x.sub == sub && !x.raa).length

/-- Arbitrated ACTs on a subchannel wait: its queue holds 12 events or more (R245). -/
def Chan.actsHeld (c : Chan) (sub : Nat) : Bool := decide (12 ≤ c.pendingOn sub)

/-- An event joins the pending queue of its subchannel, or is dropped and counted (R245, R251). -/
def State.queueEvent (s : State) (ch : Nat) (e : NrEvent) : State :=
  if (s.chan ch).pendingOn e.sub < 16 then (s.modChan ch fun c => { c with nr := c.nr ++ [e] }).nrAssign ch
  else (s.bump (Obj.nrDropped ch)).raiseRefresh ch 1

/-- A 16-bit value of the channel's entropy source, or of its LFSR until the start-up test has passed and while the source fails (R239, R240,
R255). -/
def State.draw16 (s : State) (ch : Nat) : State × Nat :=
  let c := s.chan ch
  if c.entropyUp && s.bit (Obj.nrStatus ch) 0 then (s.drew 1, s.freeNat 0 % 65536)
  else (s.modChan ch fun c => { c with lfsr := Config.lfsrNext c.lfsr }, Config.lfsrDraw c.lfsr % 65536)

/-- The draw that an ACT makes (R239). -/
def State.drawAct (s : State) (ch : Nat) (p : Place) : State :=
  let (s, u) := s.draw16 ch
  if u < s.obj (Obj.nrKEff ch) then
    let s := s.bump (Obj.nrDraws ch)
    let rfm := s.obj (Obj.nrMode ch) == 1
    let rows := if rfm then [p.row] else s.victims ch p.row
    if rows.isEmpty then s
    else s.queueEvent ch { rank := p.rankNo, bg := p.bg, bank := p.bank, sub := p.sub, rfm := rfm, todo := rows.map fun r => (r, 0) }
  else s

/-- The DIMM of a rank, both DIMMs counted. -/
def Chan.dimmOf (c : Chan) (rank : Nat) : Dimm := c.dimms.getD (rank / 2) {}

/-- RAA asks for an RFMsb to a bank address of a rank, once at a time: it takes the next position, ahead of pending events (R243). -/
def State.wantRfm (s : State) (ch sub rank bank : Nat) : State :=
  if (s.chan ch).nr.any fun e => e.raa && e.sub == sub && e.rank == rank && e.bank == bank then s
  else
    let lo := s.cyc + lsLead (s.obj Obj.opCurrent)
    let e : NrEvent := { rank := rank, bg := 0, bank := bank, sub := sub, rfm := true, raa := true, todo := [(0, 0)] }
    let again (x : NrEvent) : NrEvent :=
      if x.sub = sub ∧ x.raa = false then { x with todo := x.todo.map fun i => if lo ≤ i.2 then (i.1, 0) else i } else x
    (s.modChan ch fun c =>
      { c with nr := c.nr.takeWhile (fun x => x.raa) ++ e :: (c.nr.dropWhile fun x => x.raa).map again }).nrAssign ch

/-- The ACT counts of a bank: for NR_BOOST_ACTS in this interval, and for RAA with an RFMsb when it reaches RAAIMT (R243, R246). -/
def State.countAct (s : State) (ch : Nat) (p : Place) : State :=
  let r := (rankNos (s.chan ch).dimms).idxOf p.rankNo
  let x := (s.chan ch).rank p.sub r
  let n := mapGet (fun _ => 0) x.raa p.bankNo + 1
  let s := s.modChan ch fun c => c.setRank p.sub r
    { x with acts := mapMod (fun _ => 0) x.acts p.bankNo (· + 1), raa := mapSet (fun _ => 0) x.raa p.bankNo n }
  let d := (s.chan ch).dimmOf p.rankNo
  if d.rfmRequired && decide (d.raaimt ≤ n) then s.wantRfm ch p.sub p.rankNo p.bank else s

/-- A lockstep line has been slotted: assignments that would break a rule against it are withdrawn, counted and moved (R245). -/
def State.nrWithdraw (s : State) (ch : Nat) (l : Ent) : State :=
  let k := s.hotCounts ch
  let sub := l.line % 2
  let mine := s.lsCmds l
  let old := (s.queue ch sub .slotted).flatMap s.lsCmds
  let bad (e : NrEvent) (i : Nat × Nat) : Bool := e.sub == sub && decide (0 < i.2) &&
    (!fitsBeside k (e.cmds k i.1 i.2) mine || (!e.rfm && !fawList k (e.cmds k i.1 i.2 ++ old) e.rank))
  let n := ((s.chan ch).nr.map fun e => (e.todo.filter (bad e)).length).sum
  if n = 0 then s
  else
    ((s.addTo (Obj.nrDeferred ch) n).modChan ch fun c =>
      { c with nr := c.nr.map fun e => { e with todo := e.todo.map fun i => if bad e i then (i.1, 0) else i } }).nrAssign ch

/-- The accumulated ACT count of a bank. -/
def State.raaOf (s : State) (ch : Nat) (p : Place) : Nat :=
  mapGet (fun _ => 0) ((s.chan ch).rank p.sub ((rankNos (s.chan ch).dimms).idxOf p.rankNo)).raa p.bankNo

/-- Another ACT would take the bank to RAAMMT (R222, R243). -/
def State.raaFull (s : State) (ch : Nat) (p : Place) : Bool :=
  let d := (s.chan ch).dimmOf p.rankNo
  d.rfmRequired && decide (d.raammt ≤ s.raaOf ch p + 1)

/-- The counts of a rank's banks of a bank address (all of them for none) fall by an amount, never below 0 (R243). -/
def lowerRaa (x : RankRefresh) (bank : Option Nat) (n : Nat) : RankRefresh :=
  { x with raa := (List.range 32).foldl (fun m b =>
      if bank = none ∨ bank = some (b % 4) then mapMod (fun _ => 0) m b (· - n) else m) x.raa }

/-- A bank of a bank address still stands at RAAIMT after its RFMsb: RAA asks for another (R243). -/
def State.raaAgain (s : State) (ch sub rank bank : Nat) : State :=
  let d := (s.chan ch).dimmOf rank
  let x := (s.chan ch).rank sub ((rankNos (s.chan ch).dimms).idxOf rank)
  if d.rfmRequired && (List.range 8).any fun g => decide (d.raaimt ≤ mapGet (fun _ => 0) x.raa (4 * g + bank)) then s.wantRfm ch sub rank bank
  else s

/-- k_eff and the interval's ACT counts at a refresh-interval boundary (R246, R249). -/
def State.kBoundary (s : State) (ch : Nat) : State :=
  let c := s.chan ch
  let boost := c.refresh.any fun (_, x) => x.acts.any fun (_, n) => decide (s.act (Obj.nrBoostActs ch) < n)
  let k := s.obj (Obj.nrKEff ch)
  let kmax := s.obj (Obj.nrKMax ch)
  let floor := s.act (Obj.nrKFloor ch)
  let quiet := if boost then 0 else c.kQuiet + 1
  let want := if boost then max 1 (2 * k) else if quiet = 16 then k / 2 else k
  let pin := if boost then decide (kmax < want) else s.bit (Obj.nrStatus ch) 1 && want == kmax
  let k' := min kmax (max floor want)
  let s' := s.modChan ch fun c => { c with kQuiet := if quiet = 16 then 0 else quiet
                                           refresh := c.refresh.map fun e => (e.1, { e.2 with acts := [] }) }
  let s' := if pin && !s.bit (Obj.nrStatus ch) 1 then s'.bump (Obj.nrPinnedCount ch) else s'
  (s'.setObj (Obj.nrKEff ch) k').setBit (Obj.nrStatus ch) 1 pin

/-- Row-disturbance care at a start (R246, R255): k_eff stands at NR_K_FLOOR. At a start that runs step 4 the channel is HOT until the first
complete MR4 read, and the entropy source runs its start-up test, draws coming from the LFSR until it passes. -/
def State.careStarts (s : State) (ch : Nat) (stepFour : Bool) : State :=
  let s := (s.setObj (Obj.nrKEff ch) (min (s.obj (Obj.nrKMax ch)) (s.act (Obj.nrKFloor ch)))).modChan ch fun c => { c with kQuiet := 0, nr := [] }
  if stepFour then
    let s := (s.seedLfsr ch).modChan ch fun c =>
      { c with entropyUp := false, tempFirst := false, tempCool := 0, mr4Seen := [], mr4Worst := 0, mr4Late := [] }
    s.setBit (Obj.schedStatus ch) 2 (s.tempNeed ch == 2)
  else s

/-- The pending events of a channel are dropped at a park, counted without raising a line (R251). -/
def State.dropEvents (s : State) (ch : Nat) : State :=
  (s.addTo (Obj.nrDropped ch) ((s.chan ch).nr.filter fun e => !e.raa).length).modChan ch fun c => { c with nr := [] }

end Sys2Proof.Machine
end

