-- ==== Sys2Proof/Machine/Sched.lean ====
section
/-! DEFINITION. The subchannel schedulers: which command goes into the next CA slot, what each command does, the checks of read
data and the retries of write bursts (R201 to R225, R298 to R304). -/

namespace Sys2Proof.Machine

/-- The lockstep lines slotted on a subchannel and not read yet. -/
def State.slottedOn (s : State) (ch sub : Nat) : List Ent := s.queue ch sub .slotted

/-- The lockstep instances that keep their distance from a new one (R217). -/
def State.lsInstances (s : State) (ch sub : Nat) : List Ent :=
  s.ents.filter fun e => e.ch == ch && e.line % 2 == sub && !e.isWrite && decide (0 < e.pos)

/-- A read may be scheduled: every write of its line that was in the write queue at its grant has been issued, open entries included, and no
retry of one is outstanding (R152, R175, R208, R300). -/
def State.readReady (s : State) (e : Ent) : Bool :=
  !(s.ents.any fun w => w.isWrite && w.ch == e.ch && w.line == e.line &&
      ((w.stage == .writeQ && decide (w.ord < e.ord)) || w.stage == .retryQ || (w.stage == .retry && decide (0 < w.alerted) && e.redo)))

/-- No write of a line waits for its retry or for the window of one: a read or a replay may be issued again (R300). -/
def State.retryClear (s : State) (e : Ent) : Bool :=
  !(s.ents.any fun w => w.isWrite && w.ch == e.ch && w.line == e.line &&
      (w.stage == .retryQ || (w.stage == .retry && decide (0 < w.alerted))))

/-- A write may be scheduled: complete, in the order of visibility, behind every read of its line that was granted before it until that is
done, with room in the retry buffer unless its mask is zero (R206, R210, R299, R302). -/
def State.writeReady (s : State) (e : Ent) : Bool :=
  !e.isOpen &&
    !(s.ents.any fun x => x.ch == e.ch && x.line == e.line &&
        ((x.isWrite && x.stage == .writeQ && decide (x.vis < e.vis)) || (!x.isWrite && x.stage != .input && decide (x.ord < e.ord)))) &&
    (e.mask % 2 ^ 64 == 0 ||
      decide ((s.queue e.ch (e.line % 2) .retry).length + (s.queue e.ch (e.line % 2) .retryQ).length < 24))

/-- What a candidate for a slot does beside the command itself: `osc`, `oscRead` and `track` are an oscillator run, the MRR of its count and a tracking read
(R275). -/
inductive Deed
  | refresh (rank key : Nat)
  | lsAct (e : Ent)
  | lsRead (e : Ent)
  | nrAct (e : NrEvent) (row pos : Nat)
  | nrPre (e : NrEvent)
  | nrRfm (e : NrEvent) (row pos : Nat)
  | mrr (rank : Nat)
  | osc (rank : Nat)
  | oscRead (rank : Nat)
  | track (rank : Nat)
  | open' (e : Ent)
  | close (key : Nat)
  | read (e : Ent)
  | write (e : Ent)
  | drop (e : Ent)
  deriving DecidableEq, Repr

/-- A candidate of R205. -/
structure Cand where
  cmd : DramCmd
  deed : Deed
  deriving DecidableEq, Repr

/-- Arbitrated column commands carry auto-precharge under CLOSED (R204). -/
def State.autoPre (s : State) (ch : Nat) : Bool := s.act (Obj.pagePolicy ch) == 1

/-- The command that an entry needs next: its column command on a row hit, ACT on a closed bank, PRE on a miss (R205). The replay of a
lockstep line keeps the bracketed counts and always carries auto-precharge (R212, R221, R303). A write whose mask is zero counts as a row hit, open row or
not (R210; DESIGN CHOICE, log entry 163). -/
def State.need (s : State) (e : Ent) (c : Nat) : Cand :=
  let p := s.entPlace e
  let ls := decide (0 < e.pos)
  let hot := ls || s.hotNow e.ch
  let ap := ls || s.autoPre e.ch
  if e.isWrite && e.mask % 2 ^ 64 == 0 then ⟨p.cmd .wr true false hot c, .drop e⟩
  else
    match ((s.chan e.ch).sub p.sub).rowOf p.key with
    | some (r, _) =>
      if r = p.row then
        if e.isWrite then ⟨p.cmd .wr (maskedLine e.mask) ap hot c, .write e⟩ else ⟨p.cmd .rd false ap hot c, .read e⟩
      else ⟨p.cmd .pre false false hot c, .close p.key⟩
    | none => ⟨p.cmd .act false false hot c, .open' e⟩

/-- A candidate is a column command or the end of a zero-mask write, which go into slot 1 only (R202, R210). -/
def Cand.column (x : Cand) : Bool :=
  match x.deed with | .read _ => true | .write _ => true | .drop _ => true | .lsRead _ => true | _ => false

/-- The bank group of the last column command on a subchannel. -/
def SubCh.lastGroup (x : SubCh) : Option (Nat × Nat) :=
  (x.hist.find? fun h => h.kind == .rd || h.kind == .wr).map fun h => (h.rank, h.bg)

/-- The first of a list of entries by the order of grants. -/
def oldest (l : List Ent) : Option Ent := l.foldl (fun o e => match o with | none => some e | some x => if e.ord < x.ord then some e else some x) none

/-- A queued line of a subchannel hits a row of a bank. -/
def State.rowHit (s : State) (ch sub k r : Nat) : Bool :=
  s.ents.any fun e => e.ch == ch && e.line % 2 == sub && (e.stage == .readQ || e.stage == .writeQ || e.stage == .replayQ) &&
    (s.entPlace e).key == k && (s.entPlace e).row == r

/-- A miss may close the row of its bank: no queued line hits that row, or the miss is the oldest request that can be scheduled (R204). -/
def State.mayClose (s : State) (ch sub : Nat) (l : List Ent) (e : Ent) : Bool :=
  match ((s.chan ch).sub sub).rowOf (s.entPlace e).key with
  | some (r, _) => !s.rowHit ch sub (s.entPlace e).key r || (oldest l).map Ent.serial == some e.serial
  | none => true

/-- The candidates of one mode in their order: the oldest aged entry, row hits that change the bank group first, then the ACT or PRE of
the oldest remaining entry (R204, R205 step 3). -/
def State.modeCands (s : State) (ch sub c : Nat) (l : List Ent) : List Cand :=
  let aged := (oldest (l.filter fun e => decide (s.act (Obj.ageCap ch) ≤ c - e.granted))).toList.map fun e => s.need e c
  let all := l.map fun e => s.need e c
  let hits := all.filter Cand.column
  let lg := ((s.chan ch).sub sub).lastGroup
  let far := hits.filter fun x => lg != some (x.cmd.rank, x.cmd.bg)
  let near := hits.filter fun x => lg == some (x.cmd.rank, x.cmd.bg)
  let rest := ((oldest (l.filter fun e => !(s.need e c).column)).toList.filter (s.mayClose ch sub l)).map fun e => s.need e c
  aged ++ far ++ near ++ rest

/-- The writes of a list that hazards promote at a c: those matched by slotted lockstep lines first, then by reads granted before that c, in
age order (R208, R219, R224). -/
def State.promoted (s : State) (ch sub c : Nat) (ws : List Ent) : List Ent :=
  let byLs := ws.filter fun w => (s.slottedOn ch sub).any fun e => e.line == w.line && decide (w.ord < e.ord)
  let byRd := ws.filter fun w => (s.queue ch sub .readQ).any fun e => e.line == w.line && decide (w.ord < e.ord) && decide (e.granted < c)
  byLs ++ byRd

/-- The rows due for a PRE under R204: idle for PAGE_IDLE with no queued hit, or open under CLOSED. -/
def State.idleRows (s : State) (ch sub c : Nat) : List Cand :=
  (((s.chan ch).sub sub).rows.filterMap fun (k, o) => o.map fun rl => (k, rl)).filterMap fun (k, r, last) =>
    if !s.rowHit ch sub k r && (s.autoPre ch || decide (last + s.act (Obj.pageIdle ch) ≤ c)) then
      some ⟨⟨.pre, k / 32, (k / 4) % 8, k % 4, r, false, false, c, s.hotNow ch⟩, .close k⟩
    else none

/-- Every bank that a refresh command covers is closed. -/
def SubCh.closedFor (x : SubCh) (rank : Nat) (bank : Option Nat) : Bool :=
  (List.range 32).all fun b => (bank.isSome && bank != some (b % 4)) || (x.rowOf (rank * 32 + b)).isNone

/-- The refresh due on a subchannel at c, if any: rank index, rank number, key of the rotation (R234), else of an overdue bank (R252); none while
the checker holds one of the rank. -/
def State.refreshAt (s : State) (ch sub c : Nat) : Option (Nat × Nat × Nat) :=
  match s.refRankAt ch sub c with
  | none => none
  | some r =>
    let x := (s.chan ch).rank sub r
    let rk := (rankNos (s.chan ch).dimms).getD r 0
    if x.held then none
    else if s.refDue ch sub r c x then some (r, rk, s.refNext ch x)
    else x.overdueKey.map fun key => (r, rk, key)

/-- A refresh that the timing checker holds, due in any slot until it is legal (R222, R251). -/
def State.heldRefreshes (s : State) (ch sub c : Nat) : List Cand :=
  ((rankNos (s.chan ch).dimms).zipIdx).filterMap fun (rk, r) =>
    let x := (s.chan ch).rank sub r
    if x.held then some ⟨s.refCmd ch rk (s.refNext ch x) c, .refresh r (s.refNext ch x)⟩ else none

/-- Step 2 of a training has not passed yet: commands use 2N timing, and the CA bus carries one a c (R260). -/
def State.caTraining (s : State) (ch : Nat) : Bool :=
  match (s.chan ch).train with
  | some t => t.running && decide (t.stepNow (s.chan ch).dimms ((s.now - t.started) / usTicks) ≤ 2)
  | none => false

/-- The rank indices that a position of a subchannel serves beside refresh: the rank of a refresh position that refresh leaves idle, every rank at a
free position that tracking took (R237, R275). -/
def State.careRanks (s : State) (ch sub p : Nat) : List Nat :=
  let x := (s.chan ch).sub sub
  let nos := rankNos (s.chan ch).dimms
  match s.refRankAt ch sub p with
  | some r =>
    let used := x.hist.any fun h => (h.kind == .refab || h.kind == .refsb) && h.at' == p && h.rank == nos.getD r 0
    if used || ((s.chan ch).rank sub r).held then [] else [r]
  | none => if x.took.contains p then List.range nos.length else []

/-- An MR4 read of a rank index of a subchannel is due: 8 wheels have passed since the last, so that one falls in every 16 wheels (R237; DESIGN CHOICE,
log entry 164). -/
def State.mr4Due (s : State) (ch sub r c : Nat) : Bool :=
  let last := mapGet (fun _ => 0) (s.chan ch).mr4Sent (2 * r + sub)
  last == 0 || decide (last + 8 * 1024 ≤ c)

/-- What a position that refresh leaves idle, or that tracking took, is used for, its data in the position's own window: an MR4 read, then the
oscillator, then a tracking read (R237, R275, R286). -/
def State.careCands (s : State) (ch sub c : Nat) : List Cand :=
  let p := c - ruleHot 1 (s.obj Obj.opCurrent)
  let nos := rankNos (s.chan ch).dimms
  let cmd (k : DramKind) (r : Nat) : DramCmd := ⟨k, nos.getD r 0, 0, 0, 0, false, false, c, s.hotNow ch⟩
  let rs := if s.caTraining ch then [] else s.careRanks ch sub p
  let mr4 := (rs.filter fun r => (s.refRankAt ch sub p).isSome && s.mr4Due ch sub r c).map fun r => (⟨cmd .mrr r, .mrr r⟩ : Cand)
  let tr := if s.tracks ch then rs else []
  let osc := (tr.filter fun r => s.oscDue ch sub r c).map fun r =>
    if mapGet (fun _ => 0) (s.chan ch).oscRun (2 * r + sub) = 0 then (⟨cmd .mrw r, .osc r⟩ : Cand) else ⟨cmd .mrr r, .oscRead r⟩
  mr4 ++ osc ++ (tr.filter fun r => s.unread ch sub r 4 c).map fun r => ⟨cmd .mrr r, .track r⟩

/-- The reserved commands due in a slot: refresh first, then lockstep, then neighbour refresh, and what idle refresh positions are used for
(R205 step 1, R237, R251, R275). -/
def State.reservedCands (s : State) (ch sub c slot : Nat) : List Cand :=
  let k := s.hotCounts ch
  let ref := if slot = 0 then
      match s.refreshAt ch sub c with
      | some (r, rk, key) => [⟨s.refCmd ch rk key c, .refresh r key⟩]
      | none => []
    else []
  let ls := (s.slottedOn ch sub).filterMap fun e =>
    let p := s.entPlace e
    if slot = 0 ∧ e.pos = c ∧ e.attempts = 0 then some ⟨p.cmd .act false false true c, .lsAct e⟩
    else if slot = 1 ∧ e.pos + k.rule 1 = c ∧ e.attempts = 1 then some ⟨p.cmd .rd false true true c, .lsRead e⟩
    else none
  let evs := (s.chan ch).nr.filter fun e => e.sub == sub
  let nrPre := evs.filterMap fun e => e.openAt.bind fun t =>
    if t + k.rule 3 ≤ c then some ⟨⟨.pre, e.rank, e.bg, e.bank, 0, false, false, c, true⟩, .nrPre e⟩ else none
  let nr := (evs.filter fun e => e.openAt.isNone && slot == 0).flatMap fun e =>
    (e.todo.filter fun i => decide (0 < i.2) && decide (i.2 ≤ c)).map fun i =>
      if e.rfm then (⟨⟨.rfmsb, e.rank, 0, e.bank, 0, false, false, c, true⟩, .nrRfm e i.1 i.2⟩ : Cand)
      else ⟨⟨.act, e.rank, e.bg, e.bank, i.1, false, false, c, true⟩, .nrAct e i.1 i.2⟩
  ref ++ s.heldRefreshes ch sub c ++ ls ++ nrPre ++ nr ++ (if slot = 1 then s.careCands ch sub c else [])

/-- The refresh due within LS_LEAD c on a subchannel, or one that is held, covers a command's bank (R235). -/
def State.refreshNears (s : State) (ch sub c : Nat) (m : DramCmd) : Bool :=
  let hits (x : DramCmd) : Bool := if x.kind = .refab then x.rank == m.rank else x.covers m
  ((s.heldRefreshes ch sub c).any fun x => hits x.cmd) ||
    (List.range (lsLead (s.obj Obj.opCurrent) + 1)).any fun d =>
      match s.refreshAt ch sub (c + d) with
      | some (_, rk, key) => hits (s.refCmd ch rk key c)
      | none => false

/-- A neighbour refresh that has its position, or has its row open, fences a command's bank (R245). -/
def Chan.nrFences (c : Chan) (sub : Nat) (m : DramCmd) : Bool :=
  c.nr.any fun e => e.sub == sub && (e.openAt.isSome || e.todo.any fun i => decide (0 < i.2)) && e.rank == m.rank && e.bank == m.bank &&
    (e.rfm || e.bg == m.bg)

/-- A slotted lockstep line fences a command's bank (R217). -/
def State.lsFences (s : State) (ch sub : Nat) (m : DramCmd) : Bool :=
  (s.slottedOn ch sub).any fun l => (s.entPlace l).key == bankKey m.rank m.bg m.bank

/-- The rows open in fenced banks, closed as soon as the rules allow (R217, R235, R245): not those that a template or a neighbour refresh
opened, and not before a write that a lockstep line waits for (R219). -/
def State.fencePres (s : State) (ch sub c : Nat) : List Cand :=
  (((s.chan ch).sub sub).rows.filterMap fun (k, o) => o.map fun rl => (k, rl.1)).filterMap fun (k, r) =>
    let m : DramCmd := ⟨.pre, k / 32, (k / 4) % 8, k % 4, r, false, false, c, s.hotNow ch⟩
    let own := (s.slottedOn ch sub).any fun l => decide (0 < l.attempts) && (s.entPlace l).key == k
    let nrOwn := (s.chan ch).nr.any fun e => e.sub == sub && e.openAt.isSome && bankKey e.rank e.bg e.bank == k
    let waits := (s.slottedOn ch sub).any fun l => (s.entPlace l).key == k && !s.readReady l
    if !own && !nrOwn && !waits && (s.lsFences ch sub m || s.refreshNears ch sub c m || (s.chan ch).nrFences sub m) then
      some ⟨m, .close k⟩
    else none

/-- The retry of a write burst that is due: retries go in the order in which their bursts were first issued (R299). -/
def State.retryHead (s : State) (ch sub : Nat) : List Ent :=
  ((s.queue ch sub .retryQ).foldl (fun o e => match o with | none => some e | some x => if e.firstAt < x.firstAt then some e else some x) none).toList

/-- The retries and replays that go ahead of arbitrated traffic, in the order of R303. -/
def State.replayCands (s : State) (ch sub c : Nat) : List Cand :=
  let rep := (s.queue ch sub .replayQ).filter fun e => s.retryClear e
  (s.retryHead ch sub ++ (rep.filter fun e => decide (0 < e.pos)) ++ (rep.filter fun e => e.pos == 0)).map fun e => s.need e c

/-- The candidates of a slot in the order of R205. A line is scheduled from the c after its grant or, for an open write, after its data
completes (R208, R224). DOZE gates the arbitrated paths (R571). -/
def State.cands (s : State) (ch sub c slot : Nat) : List Cand :=
  let x := (s.chan ch).sub sub
  let reads := (s.queue ch sub .readQ).filter fun e => decide (e.granted < c) && s.readReady e
  let writes := (s.queue ch sub .writeQ).filter fun e => decide (e.granted < c) && decide (e.watch.getD 0 < c) && s.writeReady e
  s.reservedCands ch sub c slot ++ s.fencePres ch sub c ++
    (if s.pwr.mode = 0 then
      s.replayCands ch sub c ++ (s.promoted ch sub c writes).map (fun e => s.need e c) ++
      s.modeCands ch sub c (if x.drain then writes else reads) ++
      (if !x.drain && (s.queue ch sub .readQ).isEmpty then s.modeCands ch sub c writes else []) ++ s.idleRows ch sub c
    else [])

/-- A candidate is one of the reserved commands. -/
def Deed.reserved : Deed → Bool
  | .refresh _ _ => true | .lsAct _ => true | .lsRead _ => true | .nrAct _ _ _ => true | .nrPre _ => true | .nrRfm _ _ _ => true | .mrr _ => true
  | .osc _ => true | .oscRead _ => true | .track _ => true
  | _ => false

/-- The bank of a command is fenced for arbitrated traffic: by a slotted lockstep line, a refresh within LS_LEAD, or a neighbour
refresh (R217, R235, R245). A write that a lockstep line waits for passes its fence. -/
def State.fencedBank (s : State) (ch sub c : Nat) (x : Cand) : Bool :=
  let waited (e : Ent) : Bool := e.isWrite && (s.slottedOn ch sub).any fun l => l.line == e.line
  match x.deed with
  | .close _ => false
  | .drop _ => false
  | .write e | .open' e =>
    (!waited e && s.lsFences ch sub x.cmd) || (s.chan ch).nrFences sub x.cmd || s.refreshNears ch sub c x.cmd
  | _ => s.lsFences ch sub x.cmd || (s.chan ch).nrFences sub x.cmd || s.refreshNears ch sub c x.cmd

/-- The reserved commands still to come keep their timing after the candidate, rule 7 among it (R205, R217). -/
def State.sparesReserved (s : State) (ch sub : Nat) (x : Cand) : Bool :=
  let k := s.hotCounts ch
  let later := ((s.slottedOn ch sub).flatMap s.lsCmds ++ s.nrCmds ch sub).filter fun m => decide (x.cmd.at' < m.at')
  (later.all fun m => decide (x.cmd.at' + minGap k x.cmd m ≤ m.at')) &&
    (x.cmd.kind != .act || fawList k (x.cmd :: later ++ ((s.chan ch).sub sub).hist) x.cmd.rank)

/-- A command's own conditions on the banks: refresh wants its banks closed, RAA holds an ACT (R211, R243). -/
def State.bankOk (s : State) (ch sub : Nat) (x : Cand) : Bool :=
  let b := (s.chan ch).sub sub
  match x.cmd.kind with
  | .refab => b.closedFor x.cmd.rank none
  | .refsb | .rfmsb => b.closedFor x.cmd.rank (some x.cmd.bank)
  | .act => (b.rowOf (bankKey x.cmd.rank x.cmd.bg x.cmd.bank)).isNone &&
      (match x.deed with
       | .open' e => !s.raaFull ch (s.entPlace e) && !(s.chan ch).actsHeld sub
       | .lsAct e => !s.raaFull ch (s.entPlace e)
       | .nrAct e row _ => !s.raaFull ch { sub := sub, dimm := e.rank / 2, rank := e.rank % 2, bg := e.bg, bank := e.bank, row := row, col := 0 }
       | _ => true)
  | _ => true

/-- The candidate may go into the slot. -/
def State.mayIssue (s : State) (ch sub c slot : Nat) (x : Cand) : Bool :=
  let k := s.hotCounts ch
  (slot == 1 || !x.column) && s.bankOk ch sub x && legalCmd k ((s.chan ch).sub sub).hist x.cmd &&
    (x.deed.reserved || (!s.fencedBank ch sub c x && s.sparesReserved ch sub x))

/-- A command enters the history of its subchannel; commands more than 512 c old are forgotten. -/
def SubCh.note (x : SubCh) (m : DramCmd) : SubCh :=
  { x with hist := m :: x.hist.filter fun h => decide (m.at' < h.at' + 512) }

/-- The auto-precharge of a column command, as the PRE it stands for (R211). -/
def autoPreAt (c : Counts) (x : SubCh) (m : DramCmd) : DramCmd :=
  let k : Counts := { c with hot := m.hot }
  let act := ((x.hist.find? fun h => h.kind == .act && h.sameBank m).map DramCmd.at').getD 0
  let own := if m.kind = .wr then m.at' + writeData k.op + k.rule 15 else m.at' + k.rule 14
  { m with kind := .pre, at' := max own (act + k.rule 3) }

/-- The effect of a column command on the bank: the row stays, or closes by auto-precharge. -/
def State.afterColumn (s : State) (ch sub : Nat) (m : DramCmd) : State :=
  let k := s.hotCounts ch
  s.modSub ch sub fun x =>
    let y := x.note m
    let b := bankKey m.rank m.bg m.bank
    if m.autoPre then (y.note (autoPreAt k x m)).setRow b none else y.setRow b (some (m.row, m.at'))

/-- DRAIN ends when the queue holds WQ_LOW lines or fewer and WR_BATCH writes have been issued (R207). -/
def State.drainLeave (s : State) (ch sub : Nat) : State :=
  let x := (s.chan ch).sub sub
  if x.drain && decide ((s.queue ch sub .writeQ).length ≤ x.dLow) && decide (x.dBatch ≤ x.drained) then
    (s.modSub ch sub fun x => { x with drain := false }).setBit (Obj.schedStatus ch) sub false
  else s

/-- DRAIN ends early when the oldest read has waited DRAIN_READ_MAX c since it was entered; with WQ_HIGH lines still queued it is entered
again on the next c, and that c is in READ mode (R207). -/
def State.drainExpires (s : State) (ch sub : Nat) : State :=
  let x := (s.chan ch).sub sub
  match (s.queue ch sub .readQ).foldl (fun (o : Option Nat) e => match o with | none => some e.granted | some m => some (min m e.granted)) none with
  | none => s
  | some t =>
    if !x.drain then s
    else
      let s := s.advanceCyc (max t x.drainAt + x.dMax)
      (s.modSub ch sub fun y => { y with drain := false, readUntil := s.cyc + 1 }).setBit (Obj.schedStatus ch) sub false

/-- A row has had no queued hit for PAGE_IDLE c, and is due for a PRE (R204). -/
def State.rowIdles (s : State) (ch sub bank : Nat) : State :=
  match ((s.chan ch).sub sub).rowOf bank with
  | some (_, last) => s.advanceCyc (last + s.act (Obj.pageIdle ch))
  | none => s

/-- Change one line beyond the crossbar. -/
def State.modEnt (s : State) (n : Nat) (f : Ent → Ent) : State :=
  { s with ents := s.ents.map fun e => if e.serial = n then f e else e }

/-- Remove one line. -/
def State.dropEnt (s : State) (n : Nat) : State := { s with ents := s.ents.filter fun e => e.serial != n }

/-- A row of an event has its command: the ACT stands open at a c, or the RFMsb is done; an event with nothing left is gone. -/
def nrServed (l : List NrEvent) (e : NrEvent) (row pos : Nat) (openAt : Option Nat) : List NrEvent :=
  (l.map fun y => if y = e then { y with todo := y.todo.erase (row, pos), openAt := openAt, held := false } else y).filter fun y =>
    !(y.openAt.isNone && y.todo.isEmpty)

/-- The PRE of a victim row has been issued: the event goes when no victim is left. -/
def victimDone (l : List NrEvent) (e : NrEvent) : List NrEvent :=
  (l.map fun y => if y = e then { y with openAt := none } else y).filter fun y => !(y.openAt.isNone && y.todo.isEmpty)

/-- A refresh that a position asks for, or one held at an earlier position: the rotation's own, as against the extra of R252. -/
def State.ofRotation (s : State) (ch sub r c : Nat) (y : RankRefresh) : Bool := y.held || s.refDue ch sub r c y

/-- What an issued command does. -/
def State.perform (s : State) (ch sub : Nat) (x : Cand) : State :=
  let c := x.cmd.at'
  let ranks := rankNos (s.chan ch).dimms
  let noted (s : State) : State := s.modSub ch sub fun b => b.note x.cmd
  let seen (s : State) : State := s.modChan ch fun q => { q with readAt := mapSet (fun _ => 0) q.readAt (2 * ranks.idxOf x.cmd.rank + sub) c }
  match x.deed with
  | .refresh r key =>
    let d := (s.chan ch).dimms.getD (x.cmd.rank / 2) {}
    let bank := if s.obj (Obj.refMode ch) = 1 then some key else none
    let done (y : RankRefresh) : RankRefresh := if s.ofRotation ch sub r c y then s.afterRef ch c y else afterExtra y c key
    let s' := (noted s).modChan ch fun q => q.setRank sub r (lowerRaa (done (q.rank sub r)) bank d.raaRef)
    let s' := (s'.bump (Obj.refIssued ch)).catchUpEnds ch
    if bitOf ((s.chan ch).rank sub r).overdue key then s'.overdueEnds ch else s'
  | .lsAct e =>
    let p := s.entPlace e
    (((noted s).modSub ch sub fun b => b.setRow p.key (some (p.row, c))).modEnt e.serial fun y => { y with attempts := 1 }).countAct ch p
      |>.drawAct ch p
  | .lsRead e =>
    let d := s.dramLine ch e.line
    (seen (s.afterColumn ch sub x.cmd)).modEnt e.serial fun y => { y with stage := .issued, issued := c, got := d.1, check := d.2 }
  | .nrAct e row pos =>
    let p : Place := { sub := sub, dimm := e.rank / 2, rank := e.rank % 2, bg := e.bg, bank := e.bank, row := row, col := 0 }
    ((((noted s).modSub ch sub fun b => b.setRow (bankKey e.rank e.bg e.bank) (some (row, c))).modChan ch fun q =>
      { q with nr := nrServed q.nr e row pos (some c) }).bump (Obj.nrRows ch)).countAct ch p
  | .nrPre e =>
    ((noted s).modSub ch sub fun b => b.setRow (bankKey e.rank e.bg e.bank) none).modChan ch fun q => { q with nr := victimDone q.nr e }
  | .nrRfm e row pos =>
    let d := (s.chan ch).dimmOf e.rank
    let r := ranks.idxOf e.rank
    let low (q : Chan) : Chan := { (q.setRank sub r (lowerRaa (q.rank sub r) (some e.bank) d.raaRfm)) with nr := nrServed q.nr e row pos none }
    (((noted s).modChan ch low).bump (Obj.nrRows ch)).raaAgain ch sub e.rank e.bank
  | .mrr r => (noted s).modChan ch fun q => { q with mr4Sent := mapSet (fun _ => 0) q.mr4Sent (2 * r + sub) c }
  | .osc r => (noted s).modChan ch fun q => { q with oscRun := mapSet (fun _ => 0) q.oscRun (2 * r + sub) c }
  | .oscRead r => (noted s).modChan ch fun q =>
      { q with oscRun := mapSet (fun _ => 0) q.oscRun (2 * r + sub) 0, oscAt := mapSet (fun _ => 0) q.oscAt (2 * r + sub) c }
  | .track _ => seen (noted s)
  | .open' e =>
    let p := s.entPlace e
    (((noted s).modSub ch sub fun b => b.setRow p.key (some (p.row, c))).countAct ch p).drawAct ch p
  | .close k => (noted s).modSub ch sub fun b => b.setRow k none
  | .read e =>
    let d := s.dramLine ch e.line
    (seen (s.afterColumn ch sub x.cmd)).modEnt e.serial fun y =>
      { y with stage := if y.stage = .replayQ then .replayed else .issued, issued := c, got := d.1, check := d.2 }
  | .write e =>
    let s' := (s.afterColumn ch sub x.cmd).burst e
    let k := s.hotCounts ch
    let s' := s'.modEnt e.serial fun y =>
      { y with stage := .retry, attempts := y.attempts + 1, issued := c, firstAt := if y.attempts = 0 then c else y.firstAt, windowEnd := c + writeData k.op + crcWindow k.op }
    let s' := if e.attempts = 0 then s'.modSub ch sub fun b => { b with drained := b.drained + 1 } else s'.bump (Obj.wcrcRetries ch)
    s'.drainLeave ch sub
  | .drop e => ((s.touchRow e).dropEnt e.serial).drainLeave ch sub

/-- A lockstep line is LATE for a cause (R220). -/
def State.lateLine (s : State) (e : Ent) (counter : Nat) : State :=
  (s.bump counter).dropEnt e.serial |>.lineDone e.req e.ix stLate []

/-- Error line 4 × ch + 2 (R222, R225). -/
def State.raiseSched (s : State) (ch : Nat) : State := s.raise (4 * ch + 2) (sourceWord ch 0xFF)

/-- A reserved command that the timing checker holds until it is legal: counted and raised once; the lockstep line it belongs to is LATE
(R222, R243, R251). -/
def State.timingBlock (s : State) (ch sub : Nat) (x : Cand) : State :=
  let note (t : State) : State := (t.bump (Obj.timingBlocks ch)).raiseSched ch
  match x.deed with
  | .lsAct e | .lsRead e => (note s).lateLine e (Obj.lateStopped ch)
  | .nrAct e _ _ | .nrRfm e _ _ =>
    (note s).modChan ch fun q => { q with nr := q.nr.map fun y => if y = e then { y with held := true } else y }
  | .refresh r _ => (note s).modChan ch fun q => q.setRank sub r { (q.rank sub r) with held := true }
  | _ => s

/-- A reserved command that the checker has not held yet: the extra of an overdue bank goes at another position instead (R222, R252). -/
def State.unheld (s : State) (ch sub : Nat) (x : Cand) : Bool :=
  match x.deed with
  | .lsAct _ | .lsRead _ => true
  | .nrAct e _ _ | .nrRfm e _ _ => !e.held
  | .refresh r _ => !((s.chan ch).rank sub r).held && s.refDue ch sub r x.cmd.at' ((s.chan ch).rank sub r)
  | _ => false

/-- The checker holds the reserved commands due in a slot that break a rule (R222, R243, R251). -/
def State.holdIllegal (s : State) (ch sub c slot : Nat) : State :=
  s.each ((s.reservedCands ch sub c slot).filter fun x => s.unheld ch sub x && !s.mayIssue ch sub c slot x) fun x t => t.timingBlock ch sub x

/-- A lockstep line whose last matching write has not been issued in time is LATE (R219). -/
def State.lsHazards (s : State) (ch sub c : Nat) : State :=
  s.each ((s.slottedOn ch sub).filter fun e =>
      e.attempts == 0 && decide (e.pos + 3 < c + lsLead (s.obj Obj.opCurrent)) && !(s.readReady e)) fun e t => t.lateLine e (Obj.lateHazard ch)

/-! Lockstep slotting (R217 to R220). -/

/-- The positions from the first to the last c of a window, for a subchannel. -/
def windowOf (lo hi : Nat) : List Nat := (List.range (hi + 1 - lo)).map (lo + ·)

/-- A new instance at c p keeps its distance from those already slotted (R217). -/
def State.lsDistance (s : State) (ch : Nat) (pl : Place) (p : Nat) : Bool :=
  let k := s.hotCounts ch
  let l := s.lsInstances ch pl.sub
  (l.all fun e =>
    let q := s.entPlace e
    if q.key = pl.key then decide (k.rule 4 ≤ absDiff p e.pos)
    else if q.rankNo = pl.rankNo ∧ q.bg = pl.bg then decide (k.rule 5 ≤ absDiff p e.pos)
    else if q.rankNo ≠ pl.rankNo then decide (4 ≤ absDiff p e.pos)
    else e.pos != p) &&
  (let same := p :: ((l.filter fun e => (s.entPlace e).rankNo == pl.rankNo).map Ent.pos)
   same.all fun x => decide ((same.filter fun y => decide (x ≤ y) && decide (y < x + k.rule 7)).length ≤ 4))

/-- The wheel that takes effect at the next wrap: the placement of the accepted values (R216, R217). -/
def State.wheelNext (s : State) (ch : Nat) : List Nat := (s.replace (s.chan ch).shed (s.wheelOf ch)).getD (s.wheelOf ch)

/-- The earliest position of a client for a lockstep line: positions up to the next wrap come from the placement in force, those after it
from the one that then takes effect (R217). -/
def State.lsFind (s : State) (c ch : Nat) (pl : Place) (a depart : Nat) : Option Nat :=
  let op := s.obj Obj.opCurrent
  let now' := s.wheelOf ch
  let next := s.wheelNext ch
  let owner (p : Nat) : Nat := (if p < s.nextWrap then now' else next).getD ((p - s.wheelBase) % 1024) ownFree
  let refs := s.refNear ch pl
  (windowOf (a + 4 + lsLead op) (depart - lsTail op)).find? fun p =>
    owner p == c && (p - s.wheelBase) % 2 == pl.sub && !((s.lsInstances ch pl.sub).any fun e => e.pos == p) &&
      s.lsDistance ch pl p && refClear (s.hotCounts ch) (s.obj (Obj.refMode ch) == 0) refs pl p

/-- A lockstep read with a line in a channel that is not yet released is not slotted in any (R22). -/
def State.lsUnslotted (s : State) (r : Req) : Bool :=
  (s.reqPlaces r).any fun p => match p with | some (ch, _) => !s.released ch && !(s.chan ch).failed | none => false

/-- One line of a lockstep read is slotted on c a + 4, or is answered LATE; the checks of R170 come first (R22, R217, R220, R318). -/
def State.slotLine (s : State) (r : Req) (a ix : Nat) : State :=
  let ad := r.addr + 64 * ix
  if !s.mapped then s.lineDone r.serial ix stLate []
  else
    match s.checkLine r.rq false ad, s.decodeAddr ad with
    | some (st, _), _ => (s.when (st == stRetired) fun u => u.bump Obj.retiredHits).lineDone r.serial ix st []
    | none, none => s.lineDone r.serial ix stDenied []
    | none, some (ch, loc) =>
      let l := loc / 64
      let e : Ent := { serial := s.serial, req := r.serial, rq := r.rq, ix := ix, ch := ch, line := l, isWrite := false,
                       stage := .slotted, granted := a + 4, vis := s.serial, ord := s.serial, addr := ad }
      if !s.released ch || !s.chanRuns ch then (s.bump (Obj.lateStopped ch)).lineDone r.serial ix stLate []
      else if s.lsUnslotted r then s.lineDone r.serial ix stLate []
      else
        match s.lsFind r.rq ch (s.place ch l) a r.depart with
        | none => (s.bump (Obj.lateNoSlot ch)).lineDone r.serial ix stLate []
        | some p =>
          let hz := !(s.hazardWrites e).isEmpty
          let e : Ent := { e with pos := p, hazard := hz }
          let s' := { s with serial := s.serial + 1, ents := s.ents ++ [e] }
          let s' := (s'.bump (Obj.lsSlotted ch)).nrWithdraw ch e
          if hz then s'.bump (Obj.hazardWaits ch) else s'

/-- The lockstep reads that have come through the receive crossing are slotted (R217). -/
def State.slotArrivals (s : State) : State :=
  s.each (s.reqs.filter fun r => r.stage == .arriving && decide (r.arrived + 4 ≤ s.cyc)) fun r t =>
    (List.range r.lines).foldl (fun u i => u.slotLine r r.arrived i) (t.modReq r.serial fun x => { x with stage := .lines })

/-- The arbiter's work in the next slot of a channel, after the lockstep reads that are due have been slotted. -/
def State.grantSlot (s : State) (ch : Nat) : State := ((s.advanceCyc (max s.cyc (s.chan ch).grantAt)).slotArrivals).lineGrant ch

/-- One CA slot of a subchannel, and whether anything happened in it: the reserved commands that break a rule are held, and the first candidate
that breaks nothing is issued (R205, R222). Under 2N timing slot 1 stays empty (R260). -/
def State.trySlot (s : State) (ch sub h : Nat) : State × Bool :=
  let c := h / 2
  let s := (((((s.advanceCyc c).takeFree ch c).slotArrivals).lsHazards ch sub c).drainEnter ch sub).drainLeave ch sub
  if h % 2 = 1 ∧ s.caTraining ch = true then (s, false)
  else
    let t := s.holdIllegal ch sub c (h % 2)
    match (t.cands ch sub c (h % 2)).find? (t.mayIssue ch sub c (h % 2)) with
    | some x => (t.perform ch sub x, true)
    | none => (t, (s.reservedCands ch sub c (h % 2)).any fun x => s.unheld ch sub x && !s.mayIssue ch sub c (h % 2) x)

/-- The next command of a subchannel: slot after slot until one issues, within two wheels; the next free slot with it. -/
def State.issueFrom (s : State) (ch sub : Nat) : Nat → Nat → Option (State × Nat)
  | 0, _ => none
  | n + 1, h =>
    match s.trySlot ch sub h with
    | (t, true) => some (t, h + 1)
    | (t, false) => t.issueFrom ch sub n (h + 1)

/-- A DRAM command of a subchannel issues, in the first CA slot from now on in which one may (R205). -/
def State.dramIssue (s : State) (ch sub : Nat) : State :=
  if !s.chanRuns ch then s
  else
    match s.issueFrom ch sub 4096 (max (2 * s.cyc) (if sub = 0 then (s.chan ch).cmdA else (s.chan ch).cmdB)) with
    | some (t, h) => t.modChan ch fun q => if sub = 0 then { q with cmdA := h } else { q with cmdB := h }
    | none => s

/-! Checks of read data (R301 to R304). -/

/-- XOR of noise onto bytes. -/
def xorBytes (l n : List Byte) : List Byte := (List.range l.length).map fun i => byteAt l i ^^^ byteAt n i

/-- Where a read's log entries come from (R316). -/
def Ent.source (e : Ent) : Nat := if e.rq = rqFs then plogScrub else if 0 < e.pos then plogLockstep else plogRead

/-- The status of a line read without a parity error: old data behind a discarded write is HAZARD_BROKEN (R157). -/
def Ent.goodStatus (e : Ent) : Nat := if e.broken then stHazardBroken else stOk

/-- A read is a peek of the management core (R314): checked, neither replayed, logged nor counted. -/
def State.isPeek (s : State) (e : Ent) : Bool := e.rq == rqMg && (match s.req? e.req with | some r => r.tag == 1 | none => false)

/-- The counters and the line of a persistent or transient outcome (R304, R323, R326). -/
def State.countOutcome (s : State) (e : Ent) (persistent : Bool) (first second : Nat) : State :=
  if persistent then
    let s := s.bump (Obj.persistentReads e.ch)
    let s := if e.rq = rqFs then s.bump (Obj.scrubPersistent e.ch) else s
    (s.plog e e.source 2 first second).raiseParity e.ch (if e.rq = rqFs then 5 else 1)
  else
    let s := s.bump (Obj.transientReads e.ch)
    let s := if e.rq = rqFs then s.bump (Obj.scrubTransient e.ch) else s
    s.plog e e.source 1 first 0

/-- The c by which a lockstep line must be checked: a + L − 7, from its request's departure (R218). -/
def State.lsDeadline (s : State) (e : Ent) : Nat := match s.req? e.req with | some r => r.depart - 7 | none => 0

/-- The oldest read whose data is next on a subchannel. -/
def State.inFlight (s : State) (ch sub : Nat) : Option Ent :=
  (s.ents.filter fun e => e.ch == ch && e.line % 2 == sub && !e.isWrite && (e.stage == .issued || e.stage == .replayed)).foldl
    (fun o e => match o with | none => some e | some x => if e.issued < x.issued then some e else some x) none

/-- Read data arrives and is checked: DONE, or a single replay (R302). `noise` is what the wires changed, data bytes then check
bytes. -/
def State.readCheck (s : State) (ch sub : Nat) (noise : List Byte) : State :=
  match s.inFlight ch sub with
  | none => s
  | some e =>
    let s := s.advanceCyc (e.issued + readData (s.obj Obj.opCurrent))
    let d := xorBytes e.got noise
    let k := xorBytes e.check (noise.drop 64)
    let m := failMask d k
    if e.reread then (s.bump (Obj.rereads ch)).modEnt e.serial fun y =>
        { y with stage := if 0 < y.pos then .replayQ else if y.first.isSome then .replayQ else .readQ, reread := false, redo := true }
    else if s.isPeek e then
      (s.dropEnt e.serial).lineDone e.req e.ix stOk (d ++ k)
    else if e.first.isNone ∧ (e.stage = .issued ∨ m ≠ 0) then
      if m = 0 then (s.dropEnt e.serial).lineDone e.req e.ix e.goodStatus d
      else s.modEnt e.serial fun y => { y with stage := .replayQ, first := some (d, k), firstMask := m, failTs := some s.ts }
    else
      let late := decide (0 < e.pos) && decide (s.lsDeadline e < s.cyc)
      let s := if 0 < e.pos ∧ !late ∧ e.first.isSome then s.bump (Obj.lsReplays ch) else s
      let s := if e.first.isSome then s.countOutcome e (m != 0) e.firstMask m else s
      if late && (s.req? e.req).isNone then s.dropEnt e.serial
      else if late then s.lateLine e (if e.first.isSome then Obj.lateReplay ch else Obj.lateHazard ch)
      else (s.dropEnt e.serial).lineDone e.req e.ix (if m = 0 then e.goodStatus else stPoison) d

/-! Write CRC (R299, R300). -/

/-- The bursts whose CRC window is open. -/
def State.openWindows (s : State) (ch sub : Nat) : List Ent :=
  (s.queue ch sub .retry).filter fun e => decide (s.cyc ≤ e.windowEnd)

/-- A read in flight behind a retried write of its line is read again (R300). -/
def Ent.markReread (y e : Ent) : Ent :=
  if !y.isWrite && y.ch == e.ch && y.line == e.line && (y.stage == .issued || y.stage == .replayed) && decide (e.ord < y.ord) then
    { y with reread := true } else y

/-- ALERT_n: every burst whose window is open is retried, or abandoned after the third alert; reads in flight behind it are read
again (R299, R300). -/
def State.crcAlert (s : State) (ch sub : Nat) : State :=
  s.each (s.openWindows ch sub) fun e t =>
    if 3 ≤ e.attempts then
      let t := (t.bump (Obj.wcrcFailed ch)).plog e plogWrite 4 e.mask 3
      let t := (t.raiseParity ch 2).dropEnt e.serial
      let ep := mapGet (fun _ => 0) t.lost ch
      let fresh := openLine (ep + 2 ^ 32 + e.serial) (dramKey ch e.line)
      t.setDram ch e.line (writeBurst (t.dramLine ch e.line) fresh.1 e.mask 0 (some fresh.2) none)
    else
      let t := t.modEnt e.serial fun y => { y with stage := .retryQ, alerted := y.alerted + 1, failTs := some (y.failTs.getD t.ts) }
      { t with ents := t.ents.map fun y => y.markReread e }

/-- The burst of the retry buffer whose window ends first. -/
def State.firstWindow (s : State) (ch sub : Nat) : Option Ent :=
  (s.queue ch sub .retry).foldl (fun o e => match o with | none => some e | some x => if e.windowEnd < x.windowEnd then some e else some x) none

/-- The window of the burst of the retry buffer that ends first is over: it leaves, and a burst that was retried is logged (R299, R316). -/
def State.windowEnds (s : State) (ch sub : Nat) : State :=
  match s.firstWindow ch sub with
  | none => s
  | some e =>
    let s := s.advanceCyc (e.windowEnd + 1)
    let s := if 1 < e.attempts then s.plog e plogWrite 3 e.mask e.attempts else s
    s.dropEnt e.serial

end Sys2Proof.Machine
end

