-- ==== Sys2Proof/Machine/Edge.lean ====
section
/-! DEFINITION. The queues of the fabric's edge ports (R406, R409, R411, R416). Port numbers are those of R409: FE points 0–15,
stream ports 16–31, the south side 32–47 and the north side 48–63. -/

namespace Sys2Proof.Machine

/-- The tile of an edge port. -/
def portTile (k : Nat) : Nat :=
  if k < 16 then 16 * k else if k < 32 then 16 * (k - 16) + 15 else if k < 48 then k - 32 else 240 + (k - 48)

/-- The port that EDGE0 or EDGE1 of a tile names. -/
def edgePort (t e : Nat) : Option Nat :=
  let x := t % 16
  let y := t / 16
  let we := if x = 0 then some y else if x = 15 then some (16 + y) else none
  let sn := if y = 0 then some (32 + x) else if y = 15 then some (48 + x) else none
  match we, sn with
  | some a, some b => some (if e = 0 then a else b)
  | some a, none => if e = 0 then some a else none
  | none, some b => if e = 0 then some b else none
  | none, none => none

/-- The number of a watched queue (R422, R424): tile and queue code; the outbound queue of a corner tile's second port has one of its own. -/
def watchKey (t q : Nat) : Nat := 16 * t + q
def outKey (k : Nat) : Nat := if edgePort (portTile k) 0 = some k then watchKey (portTile k) 7 else 4096 + portTile k

/-- The head of a watched queue has moved: its stall, if any, is over (R422). -/
def State.headMoved' (s : State) (n : Nat) : State :=
  let s := { s with headMoved := mapSet (fun _ => 0) s.headMoved n s.cyc }
  if bitOf (s.causesOf 25) n then s.endCause 25 n else s
def State.headMoves (s : State) (t q : Nat) : State := s.headMoved' (watchKey t q)

/-- The inbound queue of an edge port. -/
def State.edgeInQ (s : State) (k : Nat) : List EdgeWord := mapGet (fun _ => []) s.edgeIn k

/-- The outbound queue of an edge port. -/
def State.edgeOutQ (s : State) (k : Nat) : List EdgeWord := mapGet (fun _ => []) s.edgeOut k

/-- Words that wait for room in an inbound queue. -/
def State.edgeWaitQ (s : State) (k : Nat) : List EdgeWord := mapGet (fun _ => []) s.edgeWait k

def State.setEdgeIn (s : State) (k : Nat) (l : List EdgeWord) : State := { s with edgeIn := mapSet (fun _ => []) s.edgeIn k l }
/-- The outbound queue of a port becomes `l`: when words have left it, its head has moved. -/
def State.setEdgeOut (s : State) (k : Nat) (l : List EdgeWord) : State :=
  let t := { s with edgeOut := mapSet (fun _ => []) s.edgeOut k l }
  if (s.edgeOutQ k).isPrefixOf l then t else t.headMoved' (outKey k)
def State.setEdgeWait (s : State) (k : Nat) (l : List EdgeWord) : State := { s with edgeWait := mapSet (fun _ => []) s.edgeWait k l }

/-- The words an inbound queue holds: 64 at a stream port's service, 4 elsewhere (R406, R416). -/
def edgeInRoom (k : Nat) : Nat := if 16 ≤ k ∧ k < 32 then 64 else 4

/-- The queue takes nothing while the context it is bound to is scanned (R441). -/
def State.edgeSpace (s : State) (k : Nat) : Nat := if s.edgeHeld.contains k then 0 else edgeInRoom k - (s.edgeInQ k).length

/-- A word enters an inbound queue: at most one per c, and it can be taken from the next c (R406). -/
def State.enterEdge (s : State) (k : Nat) (w : EdgeWord) : State :=
  let q := s.edgeInQ k
  let at' := match q.getLast? with | some l => max s.cyc l.ready | none => s.cyc
  s.setEdgeIn k (q ++ [({ w with ready := at' + 1 } : EdgeWord)])

/-- Words move from the waiting list into an inbound queue while it has room; a request whose last word has entered gets its
credit back (R416). -/
def State.fillEdge (s : State) (k : Nat) : State :=
  let n := s.edgeSpace k
  let go := (s.edgeWaitQ k).take n
  let s := s.setEdgeWait k ((s.edgeWaitQ k).drop n)
  s.each go fun w t => t.enterEdge k w

/-- Words for an inbound queue, behind those that wait. -/
def State.pushEdge (s : State) (k : Nat) (l : List EdgeWord) : State := (s.setEdgeWait k (s.edgeWaitQ k ++ l)).fillEdge k

/-- The words of a request are taken back from an inbound queue and its waiting list (R418, R420). -/
def State.withdrawEdge (s : State) (k : Nat) (n : Nat) : State :=
  let keep (w : EdgeWord) : Bool := w.req != some n
  ((s.setEdgeIn k ((s.edgeInQ k).filter keep)).setEdgeWait k ((s.edgeWaitQ k).filter keep)).fillEdge k

end Sys2Proof.Machine
end

