-- ==== Sys2Proof/Machine/Lane.lean ====
section
/-! DEFINITION. The coding of a stream-port lane: the payload of a 64b/66b block, its sync header, the scrambler and the order of the bits (R99, R100). -/

namespace Sys2Proof.Machine

/-- The type of a control block and its 56-bit field (R100); none for a data block. -/
def LaneBlock.control : LaneBlock → Option (Nat × Nat)
  | .idle => some (0x1E, 0)
  | .train port seen => some (0x2D, port % 16 * 2 ^ 52 + b2n seen * 2 ^ 51)
  | .ack seq => some (0x4B, seq % 4096 * 2 ^ 44)
  | .nak seq => some (0x55, seq % 4096 * 2 ^ 44)
  | .credit counts => some (0x66, counts % 2 ^ 48)
  | .sop seq kind len replayed => some (0x78, seq % 4096 * 2 ^ 44 + kind % 16 * 2 ^ 40 + len % 256 * 2 ^ 32 + b2n replayed * 2 ^ 31)
  | .eop seq crc => some (0x87, seq % 4096 * 2 ^ 44 + crc % 2 ^ 32)
  | .data _ => none

/-- The types of the table of R100. -/
def controlTypes : List Nat := [0x1E, 0x2D, 0x4B, 0x55, 0x66, 0x78, 0x87]

/-- The 64 payload bits: a data block carries 8 bytes, byte 0 in bits [7:0]; a control block its type in [7:0] and its field above (R100). -/
def LaneBlock.payload (b : LaneBlock) : Nat :=
  match b with
  | .data w => w % 2 ^ 64
  | _ => match b.control with | some (t, f) => f * 256 + t | none => 0

/-- The sync header, its first bit first: 01 for a data block and 10 for a control block (R99). -/
def LaneBlock.header (b : LaneBlock) : List Bool := if b.control.isSome then [true, false] else [false, true]

/-- The bits of a word in the order they are sent: bit 0 first, as IEEE 802.3 clause 49 sends a block (PRESUMED, log entry 29). -/
def bitsOf (n w : Nat) : List Bool := (List.range n).map (bitOf w)

/-- The scrambler x^58 + x^39 + 1 (R99): `h` holds the bits sent before, the latest first. -/
def scrambleTaps (h : List Bool) : Bool := h.getD 38 false != h.getD 57 false
def scrambleBits : List Bool → List Bool → List Bool
  | _, [] => []
  | h, b :: t => let o := b != scrambleTaps h; o :: scrambleBits (o :: h.take 57) t

/-- The receiver's side: it needs only the bits that came before. -/
def descrambleBits : List Bool → List Bool → List Bool
  | _, [] => []
  | h, o :: t => (o != scrambleTaps h) :: descrambleBits (o :: h.take 57) t

/-- What the scrambler holds after some bits. -/
def scrambleNext (h out : List Bool) : List Bool := (out.reverse ++ h).take 58

/-- The bits of blocks on the lane: each sync header as it is, each payload scrambled (R99). -/
def laneBits : List Bool → List LaneBlock → List Bool
  | _, [] => []
  | h, b :: t =>
    let out := scrambleBits h (bitsOf 64 b.payload)
    b.header ++ out ++ laneBits (scrambleNext h out) t

end Sys2Proof.Machine
end

