-- ==== Sys2Proof/Machine/Stream.lean ====
section
/-! DEFINITION. Stream ports: link training and loss, the packets of a link with their CRC, acknowledgement and replay, the
acceptance of a request, and its response (R99 to R137, R416). -/

namespace Sys2Proof.Machine

/-- The state of stream port p. -/
def State.sp (s : State) (p : Nat) : StreamPort := mapGet (fun _ => {}) s.ports p

/-- Change the state of stream port p. -/
def State.modSp (s : State) (p : Nat) (f : StreamPort → StreamPort) : State :=
  { s with ports := mapSet (fun _ => {}) s.ports p (f (s.sp p)) }

/-- The link of port p is ACTIVE. -/
def State.linkActive (s : State) (p : Nat) : Bool := s.obj (Obj.linkState p) == 2

/-- The credits a client holds. -/
def State.credit (s : State) (c : Nat) : Nat := mapGet (fun _ => 0) s.credits c
def State.setCredit (s : State) (c n : Nat) : State := { s with credits := mapSet (fun _ => 0) s.credits c n }

/-- The credits of a client that wait for a CREDIT block. -/
def State.owed (s : State) (c : Nat) : Nat := mapGet (fun _ => 0) (s.sp (c / 16)).owed (c % 16)
def State.setOwed (s : State) (c n : Nat) : State := s.modSp (c / 16) fun x => { x with owed := mapSet (fun _ => 0) x.owed (c % 16) n }

/-- Client c is being aborted, by itself or with its port (R123). -/
def State.clientAborting (s : State) (c : Nat) : Bool :=
  s.aborts.any fun a => a.target == .client c || a.target == .port (c / 16)

/-- Client c takes requests: it is enabled, or an abort that disables it has not ended (R124, R130). -/
def State.clientServed (s : State) (c : Nat) : Bool := s.obj (Obj.clientEnable c) == 1 || s.clientAborting c

/-- A credit is to go back to the partner in a CREDIT block (R109). -/
def State.giveCredit (s : State) (c : Nat) : State :=
  if s.linkActive (c / 16) && s.obj (Obj.clientEnable c) == 1 then
    s.setOwed c (min (s.obj (Obj.clientCredits c) - s.credit c) (s.owed c + 1))
  else s

/-- A client holds no credit, and none is on its way. -/
def State.noCredit (s : State) (c : Nat) : State := (s.setCredit c 0).setOwed c 0

/-- The clients of a port. -/
def clientsOf (p : Nat) : List Nat := (List.range 16).map (16 * p + ·)

/-- The non-posted requests of a requester that have not been answered (R113). -/
def State.outstanding (s : State) (rq : Nat) : List Req := s.reqs.filter fun r => r.rq == rq && !r.posted

/-! The CRC of R103. -/

/-- One bit of the reflected CRC-32. -/
def crcBit (c : Nat) : Nat := if c % 2 = 1 then (c / 2) ^^^ 0xEDB88320 else c / 2

/-- One byte of the CRC, least significant bit first. -/
def crcByte (c b : Nat) : Nat := (List.range 8).foldl (fun x _ => crcBit x) (c ^^^ b)

/-- CRC-32 of bytes, as IEEE 802.3 gives it: from all ones, complemented at the end. -/
def crc32 (l : List Byte) : Nat := (l.foldl (fun c b => crcByte c b.toNat) 0xFFFFFFFF) ^^^ 0xFFFFFFFF

/-- The SOP field of R100. -/
def sopField (seq kind len : Nat) (replayed : Bool) : Nat := seq * 2 ^ 44 + kind * 2 ^ 40 + len * 2 ^ 32 + b2n replayed * 2 ^ 31

/-- The CRC of a packet: the seven bytes of the SOP field, then its data blocks (R103). -/
def packetCrc (sop : Nat) (blocks : List Nat) : Nat := crc32 (leBytes 7 sop ++ blocks.flatMap (leBytes 8))

/-! Responses (R116 to R119). -/

/-- The opcode of R111. -/
def ReqKind.opcode : ReqKind → Nat
  | .read => 1 | .write => 2 | .masked => 3 | .fence => 4 | .lock => 5 | .unlock => 6

/-- LINE_STATUS: four bits a line. -/
def Req.lineStatus (r : Req) : Nat := (r.status.zipIdx.map fun (x, i) => x.getD 0 * 2 ^ (4 * i)).sum

/-- The data a READ response carries: zeros for a line without data (R118). -/
def Req.respData (r : Req) : List Byte :=
  if r.kind.isRead then r.back.flatMap fun d => if d.isEmpty then zeros 64 else d else []

/-- The response packet of a request (R116). -/
def Req.packet (r : Req) : Packet :=
  { opcode := r.kind.opcode, sub := r.rq % 16, tag := r.tag, status := r.overall, lines := r.lines - 1,
    lineStatus := r.lineStatus, data := r.respData, lockstep := r.lockstep, depart := r.depart }

/-- The data blocks of bytes. -/
def blocksOf : Nat → List Byte → List Nat
  | 0, _ => []
  | n + 1, d => leNat (d.take 8) :: blocksOf n (d.drop 8)

/-- The header block of a response (R116). -/
def Packet.header (k : Packet) : Nat :=
  k.opcode * 2 ^ 60 + k.sub * 2 ^ 56 + k.tag * 2 ^ 48 + k.status * 2 ^ 44 + k.lines * 2 ^ 42 + k.lineStatus * 2 ^ 16

/-- The blocks of a packet with SOP, EOP and the gap block of R102. -/
def Packet.blocks (k : Packet) : Nat := k.data.length / 8 + 4

/-- The blocks of a packet with a SEQ on the lane: SOP, its data blocks, EOP (R100, R103, R116); LENGTH_BLOCKS counts the data blocks, KIND is 2. -/
def Packet.lane (k : Packet) (seq : Nat) (replayed : Bool) : List LaneBlock :=
  let blocks := k.header :: blocksOf (k.data.length / 8) k.data
  [.sop seq 2 blocks.length replayed] ++ blocks.map LaneBlock.data ++ [.eop seq (packetCrc (sopField seq 2 blocks.length replayed) blocks)]

/-- The time that a number of lane blocks take, in units of `now`: one block lasts 2.578125 ns (R127). -/
def blockTime (n : Nat) : Nat := ceilDiv (n * 297) 16

/-- c that a number of lane blocks take: one block lasts 2.578125 ns (R127). -/
def State.blocksToC (s : State) (n : Nat) : Nat := ceilDiv (n * 297) (16 * s.cTicks)

/-- ABORT_DONE of a client (R124). -/
def abortDone (c : Nat) : Packet :=
  { opcode := 0xF, sub := c % 16, tag := 0, status := 0, lines := 0, lineStatus := 0, data := [] }

/-- A packet waits to be sent, while the link is ACTIVE. -/
def State.queuePacket (s : State) (p : Nat) (k : Packet) : State :=
  if s.linkActive p then s.modSp p fun x => { x with txq := x.txq ++ [k] } else s

/-- What a response adds to its client's counters (R136). -/
def State.countResponse (s : State) (r : Req) : State :=
  let late := (r.status.filter (· == some stLate)).length
  let s := if r.overall = stOk then s else s.bump (Obj.nonOkResponses r.rq)
  s.addTo (Obj.lateCount r.rq) late

/-- A stream request has its answer, which counts though a link going down sends nothing (DESIGN CHOICE, log entry 156): its credit goes back if it still holds one, and the response is queued (R109, R119). -/
def State.deliverStream (s : State) (r : Req) : State :=
  let s := if r.credited then s else s.giveCredit r.rq
  if r.posted then s else (s.countResponse r).queuePacket (r.rq / 16) r.packet

/-- A reserved departure is released (R123). -/
def State.releaseDeparture (s : State) (r : Req) : State :=
  if r.lockstep then s.modSp (r.rq / 16) fun x => { x with reserved := x.reserved.filter fun d => d.1 != r.depart } else s

/-! Transmission (R102, R107, R108, R121, R122). -/

/-- The credits of one CREDIT block: up to seven for each sub-ID, three bits each (R100). -/
def creditCounts (owed : SMap Nat) : Nat := ((List.range 16).map fun i => min 7 (mapGet (fun _ => 0) owed i) * 2 ^ (3 * i)).sum

/-- A CREDIT block goes out: the partner holds what it returns (R109). -/
def State.sendCredits (s : State) (p : Nat) : State :=
  s.each (clientsOf p) fun c t => let n := min 7 (t.owed c); if n = 0 then t else (t.setCredit c (t.credit c + n)).setOwed c (t.owed c - n)

/-- The SEQ of the last good packet (R100). -/
def StreamPort.lastGood (x : StreamPort) : Nat := (x.rxSeq + 4095) % 4096

/-- The control block that goes out next between packets: a NAK, an ACK while packets are unacknowledged and `ack` lets it, a CREDIT, else IDLE
(R102; their order is a DESIGN CHOICE, log entry 157). -/
def State.sendControl (s : State) (p : Nat) (ack : Bool) : State × LaneBlock :=
  match (s.sp p).nakOwed with
  | some n => (s.modSp p fun x => { x with nakOwed := none }, .nak n)
  | none =>
    if ack && (s.sp p).ackOwed != 0 then (s.modSp p fun x => { x with ackOwed := 0 }, .ack (s.sp p).lastGood)
    else if creditCounts (s.sp p).owed ≠ 0 then (s.sendCredits p, .credit (creditCounts (s.sp p).owed))
    else (s, .idle)

/-- A packet goes onto the lane, and the block behind it is the next control block (R102). -/
def State.putPacket (s : State) (p : Nat) (k : Packet) (seq : Nat) (replayed : Bool) : State :=
  let (s, gap) := s.sendControl p true
  s.modSp p fun x => { x with lane := k.lane seq replayed ++ [gap], busyUntil := s.now + blockTime k.blocks }

/-- A packet goes out with the next SEQ; a 257th unacknowledged packet cannot (R106, R108). -/
def State.sendPacket (s : State) (p : Nat) (k : Packet) : State :=
  (s.putPacket p k (s.sp p).txSeq false).modSp p fun x =>
    { x with txSeq := (x.txSeq + 1) % 4096, unacked := x.unacked ++ [({ seq := x.txSeq, packet := k, sentAt := s.now } : SentPacket)] }

/-- A packet is replayed: its SEQ again, with REPLAYED (R107). -/
def State.sendReplay (s : State) (p : Nat) (u : SentPacket) : State :=
  (s.putPacket p u.packet u.seq true).modSp p fun x =>
    { x with unacked := x.unacked.map fun v : SentPacket => if v.seq = u.seq then { v with waiting := false, sentAt := s.now } else v }

/-- The lane is free for a number of blocks, up to the next reserved departure (R121, R122). -/
def State.blocksFit (s : State) (p n : Nat) : Bool :=
  decide ((s.sp p).busyUntil ≤ s.now) && (s.sp p).reserved.all fun (d, e) => decide (e ≤ s.cyc) || decide (s.cyc + s.blocksToC n ≤ d)

/-- The lane is free for a packet with its gap block. -/
def State.laneRoom (s : State) (p : Nat) (k : Packet) : Bool := s.blocksFit p k.blocks

/-- One control block goes out on a lane that is free, if one waits: an ACK at 32 packets (R108). -/
def State.pumpControl (s : State) (p : Nat) : State :=
  let due := decide (32 ≤ (s.sp p).ackOwed)
  if s.linkActive p && s.blocksFit p 1 && ((s.sp p).nakOwed.isSome || due || creditCounts (s.sp p).owed != 0) then
    let (s, b) := s.sendControl p due
    s.modSp p fun x => { x with lane := [b], busyUntil := s.now + blockTime 1 }
  else s

/-- A replay from the packets after a SEQ (R107): `none` when one of them would be replayed a fifth time. A packet whose replay still waits is
not counted again. -/
def State.replayFrom (s : State) (p : Nat) : Option State :=
  if (s.sp p).unacked.any fun u => !u.waiting && decide (4 ≤ u.replays) then none
  else if (s.sp p).unacked.isEmpty then some s
  else some ((s.modSp p fun x => { x with unacked := x.unacked.map fun u : SentPacket =>
      { u with replays := u.replays + b2n (!u.waiting), waiting := true } }).bump (Obj.replays p))

/-- The packets up to a SEQ are acknowledged (R106 to R108). -/
def dropAcked (seq : Nat) : List SentPacket → List SentPacket
  | [] => []
  | u :: t => if u.seq = seq then t else if t.any fun x => x.seq == seq then dropAcked seq t else u :: t

/-! Link loss (R131, R132). -/

/-- The reasons that raise line 28. -/
def downRaises (reason : Nat) : Bool := reason != 1 && reason != 7

/-- The words of a request handed to the fabric go with it (R418). -/
def State.pullFabric (s : State) (r : Req) : State := if r.stage = .fabric then s.withdrawEdge (16 + r.rq / 16) r.serial else s

/-- Every request of some clients of a stream port is withdrawn (R123). -/
def State.withdrawClients (s : State) (p : Nat) (mine : Nat → Bool) (cause : Nat) : State :=
  let hit (r : Req) : Bool := r.rq / 16 == p && decide (r.rq < 256) && mine r.rq
  let s := s.each (s.reqs.filter hit) fun r t => (t.releaseDeparture r).pullFabric r
  (s.withdrawAll hit stAborted).orphanLocks (fun l => decide (l.holder < 256) && l.holder / 16 == p && mine l.holder) cause

/-- The CMD object of an abort (R136 to R138). -/
def AbortTarget.cmd : AbortTarget → Nat
  | .client c => Obj.clientAbort c
  | .port p => Obj.portAbort p
  | .host q => Obj.hqAbort q
  | .ctx i => if i = 0 then Obj.fabAbortFg else Obj.fabAbortBg

/-- The abort of a target runs. -/
def State.aborting (s : State) (t : AbortTarget) : Bool := s.aborts.any fun a => a.target == t

/-- A target belongs to a stream port: the port itself or one of its clients. -/
def AbortTarget.onPort (t : AbortTarget) (p : Nat) : Bool := match t with | .client c => c / 16 == p | .port q => q == p | _ => false

/-- An abort is over: its command is DONE (R123). -/
def State.abortDoneCmd (s : State) (t : AbortTarget) : State := if s.obj t.cmd = 1 then s.cmdDone t.cmd else s

/-- A link going down ends the aborts of its port and of its clients (R129). -/
def State.abortsGone (s : State) (p : Nat) : State :=
  let l := s.aborts.filter fun a => a.target.onPort p
  ({ s with aborts := s.aborts.filter fun a => !a.target.onPort p }).each l fun (a : AbortRun) t =>
    if a.off && a.target == AbortTarget.port p then ((t.abortDoneCmd a.target).setObj (Obj.linkState p) 0) else t.abortDoneCmd a.target

/-- An ACTIVE link stops: its clients are withdrawn with nothing sent, and the port's link layer starts afresh (R132). -/
def State.dropLink (s : State) (p : Nat) : State :=
  let s := (s.setObj (Obj.linkState p) 3).setBit Obj.linksUp p false
  let s := s.withdrawClients p (fun _ => true) 2
  let s := (s.each (clientsOf p) fun c t => t.setCredit c 0).abortsGone p
  s.modSp p fun x =>
    { x with txSeq := 0, rxSeq := 0, discarding := false, txq := [], unacked := [], ackOwed := 0, ackDue := 0, reserved := [],
             busyUntil := 0, nakOwed := none, owed := [], lane := [] }

/-- Training starts (R104): the lane PLL is locked, and step 2 sends TRAIN blocks from now on. -/
def State.startTraining (s : State) (p : Nat) : State :=
  (s.setObj (Obj.linkState p) 1).modSp p fun x => { x with trainFrom := some s.now, retryAt := none, lane := [.train p false] }

/-- An ACTIVE link goes DOWN with a reason; line 28 is raised except for DISABLED and CLOCK (R131). -/
def State.linkGoesDown (s : State) (p reason : Nat) : State :=
  if !s.linkActive p then s
  else
    let s := (s.dropLink p).setObj (Obj.linkDownReason p) reason
    let s := s.modSp p fun x => { x with trainFrom := none, retryAt := if reason = 1 ∨ reason = 7 then none else some s.now }
    if downRaises reason then (s.bump (Obj.linkDowns p)).beginCause 28 p (sourceWord p 0xFF) else s

/-- A RETRAIN that runs ends with the training it began (R60, R104). -/
def State.retrainEnds (s : State) (p : Nat) (good : Bool) : State :=
  if s.obj (Obj.retrain p) = 1 then (if good then s.cmdDone (Obj.retrain p) else s.cmdFailed (Obj.retrain p) 9) else s

/-- An enabled client is owed its full credits (R104, R109, R132). -/
def State.grantAll (s : State) (c : Nat) : State :=
  if s.obj (Obj.clientEnable c) = 1 then (s.setCredit c 0).setOwed c (s.obj (Obj.clientCredits c)) else s.noCredit c

/-- CREDIT blocks until every credit owed is granted: three at most, for sixteen credits a client (R104). -/
def State.sendAllCredits (s : State) (p : Nat) : Nat → State × List LaneBlock
  | 0 => (s, [])
  | n + 1 =>
    let b := creditCounts (s.sp p).owed
    if b = 0 then (s, []) else let r := (s.sendCredits p).sendAllCredits p n; (r.1, .credit b :: r.2)

/-- The link becomes ACTIVE (R104, R105, R132): TRAIN with PARTNER_SEEN, 16 IDLE blocks and the CREDIT blocks that grant every enabled client its
credits; SEQ from 0, the tags free. -/
def State.linkComesUp (s : State) (p align us : Nat) : State :=
  let s := ((s.setObj (Obj.linkState p) 2).setObj (Obj.linkDownReason p) 0).setBit Obj.linksUp p true
  let s := (s.setObj (Obj.rxAlign p) align).setObj (Obj.portLastTrainUs p) us
  let s := s.modSp p fun x => { x with trainFrom := none, retryAt := none, failsInRow := 0, txSeq := 0, rxSeq := 0 }
  let (s, credits) := (s.each (clientsOf p) fun c t => t.grantAll c).sendAllCredits p 3
  let s := s.modSp p fun x => { x with lane := .train p true :: List.replicate 16 .idle ++ credits }
  (s.endCause 28 p).retrainEnds p true

/-- A training attempt fails: a retry 1 ms later with AUTO_RETRAIN, and line 28 after four in a row (R105, R131). -/
def State.trainingFails (s : State) (p : Nat) : State :=
  let s := (s.setObj (Obj.linkState p) 3).setObj (Obj.linkDownReason p) 6
  let n := (s.sp p).failsInRow + 1
  let s := (s.modSp p fun x => { x with trainFrom := none, lane := [], failsInRow := n, retryAt := some (s.now + msTicks) }).retrainEnds p false
  if n = 4 then s.beginCause 28 p (sourceWord p 0xFF) else s

/-! Reception (R106, R112, R133, R134). -/

/-- A request as the blocks of its packet spell it: its fields, and whether it breaks R111 or R112. -/
structure Head where
  opcode : Nat
  sub : Nat
  tag : Nat
  posted : Bool
  ordered : Bool
  lockstep : Bool
  lines : Nat
  addr : Nat
  deriving DecidableEq, Repr

/-- H0 of R111. -/
def headOf (h0 : Nat) : Head :=
  { opcode := fld 60 4 h0, sub := fld 56 4 h0, tag := fld 48 8 h0, posted := bitOf h0 47, ordered := bitOf h0 46,
    lockstep := bitOf h0 45, lines := fld 43 2 h0 + 1, addr := fld 0 40 h0 }

/-- The kind of an opcode. -/
def kindOf (opcode : Nat) : Option ReqKind :=
  match opcode with
  | 1 => some .read | 2 => some .write | 3 => some .masked | 4 => some .fence | 5 => some .lock | 6 => some .unlock | _ => none

/-- The blocks of a request of a kind (R112). -/
def ReqKind.lengthBlocks (k : ReqKind) (lines : Nat) : Nat :=
  match k with
  | .read => 1 | .write => 8 * lines + 1 | .masked => 10 | .fence => 1 | .lock => 2 | .unlock => 1

/-- The row of R112 for a kind: LINES, POSTED, ORDERED and LOCKSTEP as it allows them, and the reserved fields 0. Bits [53:24] of H1 of a LOCK, which
belong to no field, must be 0 (DESIGN CHOICE, log entry 158). -/
def ReqKind.shapeOk (k : ReqKind) (h : Head) (h0 h1 : Nat) : Bool :=
  fld 40 3 h0 == 0 && h.addr % 64 == 0 &&
  match k with
  | .read => !h.posted && !h.ordered
  | .write => !h.lockstep
  | .masked => !h.lockstep && h.lines == 1
  | .fence => !h.posted && !h.ordered && !h.lockstep && h.lines == 1 && h.addr == 0
  | .lock => !h.posted && !h.ordered && !h.lockstep && h.lines == 1 && fld 24 30 h1 == 0 &&
      decide (1 ≤ fld 54 10 h1) && decide (fld 54 10 h1 ≤ 1000) && decide (1 ≤ fld 0 24 h1)
  | .unlock => !h.posted && !h.ordered && !h.lockstep && h.lines == 1

/-- The request a well-shaped packet spells. -/
def reqOf (c : Nat) (k : ReqKind) (h : Head) (blocks : List Nat) : Req :=
  let h1 := blocks.getD 1 0
  { serial := 0, rq := c, kind := k, tag := h.tag, addr := h.addr, lines := h.lines, posted := h.posted, ordered := h.ordered,
    lockstep := h.lockstep,
    data := if k = .write then (blocks.drop 1).flatMap (leBytes 8) else if k = .masked then (blocks.drop 2).flatMap (leBytes 8) else [],
    mask := if k = .masked then h1 else 0, range := if k = .lock then fld 0 24 h1 else 0,
    lease := if k = .lock then fld 54 10 h1 else 0, words := blocks }

/-- A malformed request is counted and, where R134 says so, answered DENIED; a posted write that is not applied counts in POSTED_FAILED (R119). -/
def State.malformed (s : State) (c : Nat) (h : Head) (dup : Bool) : State :=
  let p := c / 16
  let s := (s.bump (Obj.portProtocolErrors p)).bump (Obj.clientProtocolErrors c)
  let s := s.raise 30 (sourceWord p 0xFF)
  let posted := h.posted && (h.opcode == 2 || h.opcode == 3)
  if posted then s.bump (Obj.postedFailed c)
  else if dup then s
  else
    let n := if h.opcode = 1 ∨ h.opcode = 2 then h.lines else 1
    let st := ((List.range n).map fun i => stDenied * 2 ^ (4 * i)).sum
    (s.bump (Obj.nonOkResponses c)).queuePacket p
      { opcode := h.opcode, sub := h.sub, tag := h.tag, status := stDenied, lines := h.lines - 1, lineStatus := st,
        data := if h.opcode = 1 then zeros (64 * h.lines) else [] }

/-- The words of a request handed to the fabric (R416). -/
def fabricWords (n arrival : Nat) (blocks : List Nat) : List EdgeWord :=
  let hl (b : Nat) : List Nat := [b / 2 ^ 32, b % 2 ^ 32]
  let ws := hl (blocks.headD 0) ++ [arrival % 2 ^ 32] ++ (blocks.drop 1).flatMap hl
  ws.zipIdx.map fun (w, i) => { data := BitVec.ofNat 32 w, req := some n, tail := i + 1 == ws.length }

/-- The departure of a lockstep read is reserved on the port's transmitter, unless it would overlap another (R121). -/
def State.reserveDeparture (s : State) (p depart lines : Nat) : Option State :=
  let e := depart + s.blocksToC (8 * lines + 4)
  if (s.sp p).reserved.any fun (d, f) => decide (d < e) && decide (depart < f) then none
  else some (s.modSp p fun x => { x with reserved := (x.reserved.filter fun (_, f) => decide (s.cyc < f)) ++ [(depart, e)] })

/-- A request enters and is answered at once with one status; a posted write that is refused is counted (R119). -/
def State.answerNow (s : State) (r : Req) (st : Nat) : State :=
  let s := if r.posted then s.countPostedFail r.rq else s
  let s := s.enter { r with lockstep := false, complete := true }
  match s.reqs.getLast? with
  | some x => s.answerAll x st
  | none => s

/-- A lockstep read, whose EOP enters the receive crossing on c a: its departure is reserved, and it is slotted on c a + 4 in every channel of its
lines (R121, R217), or handed to the fabric (R418). A read whose interval overlaps one reserved is LATE, and leaves after those intervals (R121). -/
def State.acceptLockstep (s : State) (r : Req) : State :=
  let a := s.cyc
  let p := r.rq / 16
  let depart := a + s.obj (rqKey r.rq 0x17)
  match s.reserveDeparture p depart r.lines with
  | none =>
    (s.bump (Obj.lockstepCollisions p)).answerNow { r with depart := (s.sp p).reserved.foldl (fun m d => max m d.2) 1, stage := .lines } stLate
  | some s =>
    let fab := bitOf (s.obj (Obj.fabClients p)) (r.rq % 16)
    let n := s.serial
    let s := s.enter { r with stage := if fab then .fabric else .arriving, depart := depart, due := s.watchdogDue r }
    if fab then s.pushEdge (16 + p) (fabricWords n a r.words) else s

/-- The lockstep reads that were slotted have left the ingress: their credits return (R109). -/
def State.creditSlotted (s : State) : State :=
  s.each (s.reqs.filter fun r => r.lockstep && r.stage == .lines && !r.credited) fun r t =>
    (t.giveCredit r.rq).modReq r.serial fun x => { x with credited := true }

/-- The whole of a request to a fabric-served client lies below the top of the map, once the map is computed (R115, R416). FENCE names no address. -/
def State.belowTop (s : State) (r : Req) : Bool :=
  !s.mapped || r.kind == .fence ||
    decide (r.addr + 64 * (if r.kind = .lock then r.range else r.lines) ≤ s.mapTop)

/-- A request that passed the checks of R134 takes its credit and its path (R109, R114, R115, R416). Before the address map is computed a request that
the fabric serves has no MAP_TOP to be checked against and passes (DESIGN CHOICE, log entry 170). -/
def State.takeRequest (s : State) (r : Req) : State :=
  let s := (s.setCredit r.rq (s.credit r.rq - 1)).bump (Obj.requests r.rq)
  let p := r.rq / 16
  let fab := bitOf (s.obj (Obj.fabClients p)) (r.rq % 16)
  if r.lockstep && s.classOf r.rq != 0 then s.answerNow r stDenied
  else if fab && !s.belowTop r then s.answerNow r stDenied
  else if r.lockstep then s.acceptLockstep r
  else if fab then
    let n := s.serial
    (s.enter { r with stage := .fabric, due := s.watchdogDue r }).pushEdge (16 + p) (fabricWords n s.cyc r.words)
  else s.enter { r with openData := r.openData && s.obj (rqKey r.rq 0x19) == 1, stage := .regulator }

/-- A request packet whose link layer is good (R106): malformed, or accepted (R112, R113, R134). -/
def State.takeBlocks (s : State) (p : Nat) (blocks : List Nat) (openData : Bool) : State :=
  let h0 := blocks.headD 0
  let h := headOf h0
  let c := 16 * p + h.sub
  let dup := (s.outstanding c).any fun r => r.tag == h.tag
  match kindOf h.opcode with
  | none => s.malformed c h dup
  | some k =>
    let room := h.posted || decide ((s.outstanding c).length < 64)
    if k.shapeOk h h0 (blocks.getD 1 0) && blocks.length == k.lengthBlocks h.lines && (h.posted || !dup) && room &&
        decide (0 < s.credit c) && s.clientServed c then
      s.takeRequest { reqOf c k h blocks with openData := openData && k.isWrite }
    else s.malformed c h dup

/-- A bad packet is counted; more than CRC_BURST_LIMIT within CRC_BURST_WINDOW raise line 29 (R133). After the raise the count of recent bad packets
starts again (DESIGN CHOICE, log entry 159). -/
def State.badPacket (s : State) (p : Nat) : State :=
  let s := s.bump (Obj.crcErrors p)
  let win := s.obj Obj.crcBurstWindow * usTicks
  let l := ((s.sp p).bad.filter fun t => decide (s.now < t + win)) ++ [s.now]
  if s.obj Obj.crcBurstLimit < l.length then
    (s.modSp p fun x => { x with bad := [] }).raise 29 (sourceWord p 0xFF)
  else s.modSp p fun x => { x with bad := l }

/-- The first bad or out-of-sequence packet is answered with a NAK of the last good SEQ; the rest are discarded (R106). -/
def State.nakPacket (s : State) (p : Nat) : State :=
  if (s.sp p).discarding then s
  else s.modSp p fun x => { x with discarding := true, nakOwed := some x.lastGood }

/-- One more accepted packet to acknowledge, within 0.5 µs (R108). -/
def State.oweAck (s : State) (p : Nat) : State :=
  s.modSp p fun x => { x with ackOwed := x.ackOwed + 1, ackDue := if x.ackOwed = 0 then s.now + usTicks / 2 else x.ackDue }

/-- An ACK is sent: cumulative, with the SEQ of the last good packet (R100, R108). -/
def State.sendAck (s : State) (p : Nat) : State :=
  if (s.sp p).ackOwed = 0 then s
  else s.modSp p fun x => { x with ackOwed := 0, lane := [.ack x.lastGood], busyUntil := s.now + blockTime 1 }

/-- Control blocks came between two packets: a type that R100 does not name is ignored and counted (R133). -/
def State.rxControls (s : State) (p : Nat) (types : List Nat) : State :=
  s.addTo (Obj.crcErrors p) (types.filter fun t => !controlTypes.contains t).length

/-- A packet arrives on an ACTIVE link (R106): `between` are the types of the control blocks that came before it, `intact` says that its sync headers
and block types are valid and `eop` is the CRC its EOP carries. -/
def State.rxPacket (s : State) (p : Nat) (between : List Nat) (seq kind len : Nat) (replayed intact : Bool) (blocks : List Nat) (eop : Nat) : State :=
  if !s.linkActive p then s
  else
    let s := s.rxControls p between
    let good := intact && blocks.length == len && eop == packetCrc (sopField seq kind len replayed) blocks
    if !good then (s.badPacket p).nakPacket p
    else if seq = (s.sp p).rxSeq then
      let s := (s.modSp p fun x => { x with rxSeq := (seq + 1) % 4096, discarding := false }).oweAck p
      if kind = 1 ∧ !blocks.isEmpty then s.takeBlocks p blocks false
      else (s.bump (Obj.portProtocolErrors p)).raise 30 (sourceWord p 0xFF)
    else if ((s.sp p).rxSeq + 4096 - seq) % 4096 ≤ 2048 then s.oweAck p
    else s.nakPacket p

/-- A good packet with the next SEQ expected, as its blocks; it ends the discarding after a bad one (R106). -/
def State.rxGood (s : State) (p : Nat) (blocks : List Nat) (openData : Bool) : State :=
  if !s.linkActive p then s
  else
    let s := (s.modSp p fun x => { x with rxSeq := (x.rxSeq + 1) % 4096, discarding := false }).oweAck p
    s.takeBlocks p blocks openData

/-- H0 of a request (R111). -/
def h0Of (opcode sub tag : Nat) (posted ordered lockstep : Bool) (lines addr : Nat) : Nat :=
  opcode * 2 ^ 60 + (sub % 16) * 2 ^ 56 + (tag % 256) * 2 ^ 48 + b2n posted * 2 ^ 47 + b2n ordered * 2 ^ 46 +
    b2n lockstep * 2 ^ 45 + ((lines + 3) % 4) * 2 ^ 43 + addr % 2 ^ 40

/-! Aborts (R123 to R130). -/

/-- The answered stream requests are delivered now, so that what follows them is queued behind (R123). -/
def State.flushStream (s : State) : State :=
  let mine (r : Req) : Bool := decide (r.rq < 256)
  let t := s.each (s.answers.filter mine) fun r t => t.deliverStream r
  { t with answers := t.answers.filter fun r => !mine r }

/-- ABORT_DONE follows the responses of the withdrawn requests (R124). -/
def State.queueDone (s : State) (c : Nat) : State := s.queuePacket (c / 16) (abortDone c)

/-- What a client abort withdraws (R123). Locks are orphaned with cause `why`. -/
def State.abortClient (s : State) (c why : Nat) : State := (s.withdrawClients (c / 16) (· == c) why).flushStream

/-- What a port abort withdraws: the requests of its sixteen clients. -/
def State.abortPort (s : State) (p why : Nat) : State := (s.withdrawClients p (fun _ => true) why).flushStream

/-- The end of PORT_ENABLE 0: the packets that wait leave, and the link is DOWN with reason DISABLED (R130). -/
def State.disablePort (s : State) (p : Nat) : State :=
  let x := s.sp p
  let out := (x.txq.zipIdx.map fun (k, i) => k.lane ((x.txSeq + i) % 4096) false ++ [LaneBlock.idle]).flatten
  let s := (s.linkGoesDown p 1).modSp p fun x => { x with lane := out, trainFrom := none, retryAt := none, failsInRow := 0 }
  (((s.setObj (Obj.linkState p) 0).setObj (Obj.linkDownReason p) 1).endCause 28 p).retrainEnds p false

/-! What happens on a link. -/

/-- The response to a lockstep collision, which waits for the end of the intervals that were reserved (R121). -/
def Packet.after (k : Packet) : Bool := !k.lockstep && k.depart != 0

/-- The response that goes out next: one of R121 whose intervals are over, else the oldest that waits for none. -/
def State.nextResponse (s : State) (p : Nat) : Option Packet :=
  let q := (s.sp p).txq
  match q.find? fun k => k.after && decide (k.depart ≤ s.cyc) with
  | some k => some k
  | none => q.find? fun k => !k.after

/-- The lane's next packet (R107, R121, R122): the LATE of a collision at the first point after the intervals it waits for, then a replay that
waits, then the oldest response. -/
def State.txPacket (s : State) (p : Nat) : State :=
  if !s.linkActive p then s
  else
    let t := s.advanceTo (s.sp p).busyUntil
    let t := match (s.sp p).txq with
      | k :: _ => if (t.nextResponse p).isNone && (t.sp p).unacked.all (fun u => !u.waiting) then t.advanceCyc k.depart else t
      | [] => t
    let next := t.nextResponse p
    match (t.sp p).unacked.find? (fun u => u.waiting), next.any Packet.after with
    | some u, false => if t.laneRoom p u.packet then t.sendReplay p u else s
    | _, _ =>
      match next with
      | none => s
      | some k =>
        if 256 ≤ (t.sp p).unacked.length then s.linkGoesDown p 5
        else if t.laneRoom p k then (t.modSp p fun x => { x with txq := x.txq.erase k }).sendPacket p k
        else s

/-- ACK of a SEQ (R108). -/
def State.ackFrom (s : State) (p seq : Nat) : State :=
  if s.linkActive p then s.modSp p fun x => { x with unacked := dropAcked seq x.unacked } else s

/-- NAK of a SEQ (R107). -/
def State.nakFrom (s : State) (p seq : Nat) : State :=
  if s.linkActive p then
    let s := s.ackFrom p seq
    match s.replayFrom p with
    | some t => t
    | none => s.linkGoesDown p 4
  else s

/-- The ACK timer, or the count of 32 (R108): the block goes out when the lane is free, but not into a reserved departure (R121). -/
def State.ackTimer (s : State) (p : Nat) : State :=
  if (s.sp p).ackOwed = 0 then s
  else
    let s := s.advanceTo (if 32 ≤ (s.sp p).ackOwed then (s.sp p).busyUntil else max (s.sp p).ackDue (s.sp p).busyUntil)
    if s.blocksFit p 1 then s.sendAck p else s

/-- A packet unacknowledged for 4 µs (R108). -/
def State.replayTimeout (s : State) (p : Nat) : State :=
  match (s.sp p).unacked.find? fun u => !u.waiting with
  | some u =>
    if s.linkActive p then
      let s := s.advanceTo (u.sentAt + 4 * usTicks)
      match s.replayFrom p with
      | some t => t
      | none => s.linkGoesDown p 4
    else s
  | none => s

/-! Lockstep departures (R120, R218, R220, R418). -/

/-- The lockstep read of a port whose departure is next. -/
def State.nextDeparture (s : State) (p : Nat) : Option Req :=
  (s.reqs.filter fun r => r.lockstep && r.rq / 16 == p && decide (r.rq < 256)).foldl
    (fun o r => match o with | none => some r | some x => if r.depart < x.depart then some r else some x) none

/-- The counter of a line that is not ready at its departure (R220). -/
def State.lateCause (s : State) (e : Ent) : Nat :=
  if !s.released e.ch || !s.chanRuns e.ch then Obj.lateStopped e.ch
  else if e.first.isSome then Obj.lateReplay e.ch
  else if e.hazard || e.reread then Obj.lateHazard e.ch
  else Obj.lateStopped e.ch

/-- At a + L the response leaves, with LATE for every line that is not ready (R120, R218, R220). -/
def State.lockstepDeparture (s : State) (p : Nat) : State :=
  match s.nextDeparture p with
  | none => s
  | some r =>
    let s := (s.advanceCyc r.depart).slotArrivals
    let s := if r.stage = .fabric then (s.bump (Obj.fabLate p)).pullFabric r else s
    let s := s.each (s.ents.filter fun e => e.req == r.serial) fun e t =>
      if e.first.isSome then t.bump (t.lateCause e) else (t.bump (t.lateCause e)).dropEnt e.serial
    match s.req? r.serial with
    | none => s
    | some r =>
      let r := { r with status := r.status.map fun x : Option Nat => some (x.getD stLate) }
      let s := { s with reqs := s.reqs.filter fun x : Req => x.serial != r.serial }
      let s := (if r.credited then s else s.giveCredit r.rq).countResponse r
      let s := s.modSp p fun x => { x with reserved := x.reserved.filter fun d => d.1 != r.depart }
      if !s.linkActive p then s
      else if 256 ≤ (s.sp p).unacked.length then s.linkGoesDown p 5
      else s.sendPacket p r.packet

/-! The client watchdog (R126). -/

/-- The request of a client whose watchdog runs out first. -/
def State.nextWatchdog (s : State) (c : Nat) : Option (Req × Nat) :=
  (s.reqs.filter fun r => r.rq == c).foldl (fun o r =>
    match r.due, o with
    | none, _ => o
    | some d, none => some (r, d)
    | some d, some (_, e) => if d < e then some (r, d) else o) none

/-- A watchdog expires: that one request is answered TIMEOUT and line 31 raised (R126). -/
def State.clientWatchdog (s : State) (c : Nat) : State :=
  match s.nextWatchdog c with
  | none => s
  | some (r, d) =>
    let s := (((s.advanceTo d).releaseDeparture r).pullFabric r).withdraw r stTimeout
    (s.bump (Obj.watchdogExpiries c)).raise 31 (sourceWord c 0xFF)

/-! The regulator stage (R109, R149). -/

/-- The oldest request of a requester at its regulator passes when it finds its tokens and room (R149); a client's credit
returns. One that finds too few tokens is counted once in REG_WAITS. -/
def State.regulatorPass (s : State) (rq : Nat) : State :=
  match (s.atStage rq .regulator).head? with
  | none => s
  | some r =>
    if !s.tokensFor r then
      if r.waited then s else (s.bump (rqKey rq 0x1A)).modReq r.serial fun x => { x with waited := true }
    else if !s.roomFor r then s
    else
      let s := s.leaveRegulator r
      if rq < 0x100 then (s.giveCredit rq).modReq r.serial fun x => { x with credited := true } else s

end Sys2Proof.Machine
end

