-- ==== Sys2Proof/Machine/HostQueue.lean ====
section
/-! DEFINITION. The host queues H0 to H3 and their window BAR2 onto the store: how TLPs become requests, how reads complete, the
command pages, and HQ_ABORT (R483 to R488, R508, R509), with the PCI Express error reports (R491). -/

namespace Sys2Proof.Machine

/-- Host queue q. -/
def State.hq (s : State) (q : Nat) : HostQueue := mapGet (fun _ => {}) s.hqs q
def State.modHq (s : State) (q : Nat) (f : HostQueue → HostQueue) : State :=
  { s with hqs := mapSet (fun _ => {}) s.hqs q (f (s.hq q)) }

/-- A host line is not applied or not read: HQ_LAST_FAIL (R516). -/
def State.lastFail (s : State) (q addr st : Nat) (write : Bool) : State :=
  s.setObj (Obj.hqLastFail q) (addr % 2 ^ 40 + st * 2 ^ 40 + b2n write * 2 ^ 44)

/-- An error of the PCI Express link: its report, and line 47 for an uncorrectable one the host's severity register calls fatal
(R491, R511). Errors are numbered by their bit in the AER status registers; bit 32 on for the correctable ones. -/
def State.pcieError (s : State) (e : Nat) : State :=
  let s := { s with sent := s.sent ++ [Emit.aer e] }
  if 32 ≤ e then
    let s := { s with pcie := { s.pcie with correctable := withBit s.pcie.correctable (e - 32) true } }
    if e = 45 then s else s.bump Obj.pcieCorrectable
  else
    let s := { s with pcie := { s.pcie with uncorrectable := withBit s.pcie.uncorrectable e true } }
    let fatal := bitOf s.pcie.severity e
    let s := if e = 4 ∨ e = 13 ∨ e = 17 ∨ e = 18 then s.bump Obj.pcieUncorrectable else s
    if fatal then s.raise 47 (sourceWord 0 0xFF) else s

/-- An error handled as an Advisory Non-Fatal Error unless the host's severity register calls it fatal (R491). -/
def State.pcieAdvisory (s : State) (e : Nat) : State :=
  if bitOf s.pcie.severity e then s.pcieError e
  else ({ s with pcie := { s.pcie with uncorrectable := withBit s.pcie.uncorrectable e true } }).pcieError (32 + 13)

/-- Poisoned TLP Received: counted, and an Advisory Non-Fatal Error (R491). -/
def State.poisonedTlp (s : State) : State := (s.bump Obj.pciePoisonedRx).pcieAdvisory 12

/-- The requests a span of bytes is cut into: up to 4 lines that do not cross a 256-byte boundary (R484, R486). -/
def lineGroups : Nat → Nat → Nat → List (Nat × Nat)
  | 0, _, _ => []
  | f + 1, la, last =>
    if last ≤ la then []
    else
      let k := min (4 - la / 64 % 4) (ceilDiv (last - la) 64)
      (la, k) :: lineGroups f (la + 64 * k) last

/-- One line of a write TLP: its address, bytes and mask, and whether it is open. -/
structure CutLine where
  addr : Nat
  data : List Byte
  mask : Nat
  isOpen : Bool
  deriving DecidableEq, Repr

/-- The lines of a write TLP at engine address a; a line is open when the TLP ends partway through it and began before it (R485). -/
def cutLines (a n : Nat) (d : List Byte) (be : Nat) : List CutLine :=
  let l0 := a - a % 64
  (List.range (ceilDiv (a + n - l0) 64)).map fun i =>
    let la := l0 + 64 * i
    let byte (j : Nat) : Bool := decide (a ≤ la + j) && decide (la + j < a + n) && bitOf be (la + j - a)
    { addr := la, data := (List.range 64).map fun j => if byte j then byteAt d (la + j - a) else 0#8,
      mask := ((List.range 64).map fun j => b2n (byte j) * 2 ^ j).sum,
      isOpen := decide (a + n < la + 64) && decide (0 < i) }

/-- Full lines in a row within 256 bytes make one WRITE, cut into fours from the first; any other line is a WRITE_MASKED of its own
(R484). -/
def groupForward : Nat → List CutLine → List (List CutLine)
  | 0, _ => []
  | _, [] => []
  | f + 1, l :: t =>
    let full (x : CutLine) : Bool := x.mask == 2 ^ 64 - 1 && !x.isOpen
    let g := if full l then ((t.zipIdx.takeWhile fun (x, i) => full x && x.addr / 256 == l.addr / 256 && decide (i < 3)).map Prod.fst) else []
    (l :: g) :: groupForward f (t.drop g.length)

/-- A group of lines of a host write enters as a posted request. -/
def State.enterHostWrite (s : State) (q : Nat) (g : List CutLine) (ordered poisoned : Bool) : State :=
  match g with
  | [] => s
  | l :: _ =>
    let whole := l.mask == 2 ^ 64 - 1 && !l.isOpen
    s.enter { serial := 0, rq := rqHost q, kind := if whole then .write else .masked, addr := l.addr, lines := g.length, posted := true,
              ordered := ordered, data := g.flatMap CutLine.data, mask := l.mask,
              poison := if poisoned then 2 ^ (64 * g.length) - 1 else 0, openData := l.isOpen }

/-- An open line's bytes are complete (R485): they are given to its request and lines, and the entry is open no more. -/
def State.closeHostLine (s : State) (q : Nat) : State :=
  match (s.hq q).openLine with
  | none => s
  | some o =>
    let s := s.modHq q fun h => { h with openLine := none }
    let p := if o.poisoned then 2 ^ 64 - 1 else 0
    let s := s.modReq o.req fun r => { r with data := o.data, mask := o.mask, poison := p }
    let s := { s with ents := s.ents.map fun e : Ent => if e.req = o.req then { e with data := o.data, mask := o.mask, poison := p } else e }
    s.completeOpen o.req

/-- The first bytes of a TLP join the open line (R485): the bytes joined. -/
def HostOpen.join (o : HostOpen) (d : List Byte) (be k due : Nat) (poisoned : Bool) : HostOpen :=
  let i0 := o.next % 64
  { o with next := o.next + k, due := due, poisoned := o.poisoned || poisoned,
           data := (List.range 64).map fun j => if decide (i0 ≤ j) && decide (j < i0 + k) && bitOf be (j - i0) then byteAt d (j - i0) else byteAt o.data j,
           mask := ((List.range 64).map fun j => b2n (bitOf o.mask j || (decide (i0 ≤ j) && decide (j < i0 + k) && bitOf be (j - i0))) * 2 ^ j).sum }

/-- The queue is enabled. -/
def State.hqOn (s : State) (q : Nat) : Bool := s.obj (Obj.hqEnable q) == 1

/-- A write TLP of a queue, in link order (R484, R485, R487, R509). -/
def State.hostWrite (s : State) (q off : Nat) (d : List Byte) (be : Nat) (relaxed poisoned : Bool) : State :=
  let due := s.cyc + s.obj (Obj.hqMergeWait q)
  let (s, d, be, off) : State × List Byte × Nat × Nat :=
    match (s.hq q).openLine with
    | some o =>
      let k := min d.length (64 - off % 64)
      let s := s.modHq q fun h => { h with openLine := some (o.join d be k due poisoned) }
      if off % 64 + k < 64 then (s, [], 0, off + k) else (s.closeHostLine q, d.drop k, be >>> k, off + k)
    | none => (s, d, be, off)
  if d.isEmpty then s
  else
    let a := s.obj (Obj.hqWindowBase q) + off % 2 ^ 34
    let ordered := !relaxed && s.obj (Obj.hqOrderMode q) == 0
    s.each (groupForward 16 (cutLines a d.length d be)) fun g t =>
      match g with
      | [] => t
      | l :: _ =>
        if !t.hqOn q then (t.bump (Obj.hqPostedFailed q)).lastFail q l.addr stDenied true
        else
          let n := t.serial
          let t := (t.addTo (Obj.hqWriteLines q) g.length).enterHostWrite q g ordered poisoned
          if l.isOpen then
            t.modHq q fun h => { h with openLine := some (⟨n, l.addr, off + d.length, l.data, l.mask, poisoned, due⟩ : HostOpen) }
          else t

/-- The completion of one line of a read (R486). `true` ends the request with a Completer Abort. -/
def State.completeLine (s : State) (q : Nat) (r : HostRead) (l : HostLine) (st : Nat) (d : List Byte) : State × Bool :=
  let lo := max r.first l.addr
  let n := min r.last (l.addr + 64) - lo
  let s := if st = stOk then s else (s.bump (Obj.hqNonOk q)).lastFail q l.addr st false
  if st = stOk ∨ st = stHazardBroken ∨ st = stPoison then
    ({ s with sent := s.sent ++ [Emit.completion q lo st (st == stPoison) ((d.drop (lo - l.addr)).take n)] }, false)
  else if s.obj (Obj.hqFailMode q) = 1 then
    (({ s with sent := s.sent ++ [Emit.completion q lo 0xFF false []] }).pcieAdvisory 15, true)
  else ({ s with sent := s.sent ++ [Emit.completion q lo st false (List.replicate n 0xFF#8)] }, false)

/-- The lines at the front of a read that have their outcome are completed, in address order. -/
def State.completeFront (s : State) (q : Nat) (r : HostRead) : List HostLine → State × List HostLine
  | [] => (s, [])
  | l :: t =>
    match l.result with
    | none => (s, l :: t)
    | some (st, d) =>
      let (s', ends) := s.completeLine q r l st d
      if ends then (s', []) else State.completeFront s' q r t

/-- Every read of a queue completes as far as its lines go. -/
def State.pumpReads (s : State) (q : Nat) : State :=
  s.each (s.hq q).reads fun r t =>
    let (t, rest) := t.completeFront q r r.lines
    t.modHq q fun h => { h with reads := h.reads.filterMap fun x =>
      if x = r then (if rest.isEmpty then none else some { r with lines := rest }) else some x }

/-- A read TLP of a queue, in link order (R486, R509). -/
def State.hostRead (s : State) (q off len : Nat) : State :=
  let a := s.obj (Obj.hqWindowBase q) + off % 2 ^ 34
  let gs := lineGroups 65 (a - a % 64) (a + len)
  let (s, ls) := gs.foldl (fun (x : State × List HostLine) (la, k) =>
    let n := x.1.serial
    let ls := (List.range k).map fun i => if x.1.hqOn q then ({ req := n, addr := la + 64 * i } : HostLine)
      else { req := n, addr := la + 64 * i, result := some (stDenied, []) }
    let t := if x.1.hqOn q then (x.1.addTo (Obj.hqReadLines q) k).enter { serial := 0, rq := rqHost q, kind := .read, addr := la, lines := k }
      else x.1
    (t, x.2 ++ ls)) (s, [])
  (s.modHq q fun h => { h with reads := h.reads ++ [({ first := a, last := a + len, lines := ls } : HostRead)] }).pumpReads q

/-- The command of a page is answered: RESULT and the message of HQ_VECTOR (R488). -/
def State.hostAnswer (s : State) (q op st : Nat) : State :=
  (s.modHq q fun h => { h with pending := none, waiting := false,
                               result := st + op * 16 + ((h.result / 2 ^ 16 + 1) % 2 ^ 16) * 2 ^ 16 }).msixOn (s.obj (Obj.hqVector q))

/-- A command of a page enters its queue (R185, R488). -/
def State.hostCommand (s : State) (q op addr range lease : Nat) : State :=
  if !s.hqOn q then s.hostAnswer q op stDenied
  else
    let k : ReqKind := if op = 4 then .fence else if op = 5 then .lock else .unlock
    let n := s.serial
    (s.enter { serial := 0, rq := rqHost q, kind := k, addr := if op = 4 then 0 else addr, range := if op = 5 then range else 0,
               lease := if op = 5 then lease else 0 }).modHq q fun h => { h with pending := some n }

/-- A write of HQ_WINDOW_BASE of the queue that the host has sent and the write port has not decided yet holds what came later
(R483). -/
def State.baseHeld (s : State) (q : Nat) : Bool :=
  let hit (w : Wr) : Bool := w.path == .pcie && w.index == 0x4100 + q && w.sub == 3
  s.port.held.any hit || s.port.queue.any fun g => g.any hit

/-- The requests a read TLP needs fit in the 64 a queue may have outstanding (R508). -/
def State.readFits (s : State) (q off len : Nat) : Bool :=
  let a := s.obj (Obj.hqWindowBase q) + off % 2 ^ 34
  !s.hqOn q || decide ((s.reqs.filter fun r => r.rq == rqHost q && r.kind.isRead).length + (lineGroups 65 (a - a % 64) (a + len)).length ≤ 64)

/-- One item of a queue is taken, unless it must wait. -/
def State.hostItem (s : State) (q : Nat) (i : HostItem) : Option State :=
  let joins := match (s.hq q).openLine, i with
    | some o, .write off _ _ _ _ => off == o.next
    | _, _ => false
  let c := if joins then s else s.closeHostLine q
  match i with
  | .write off d be ro ep => if s.baseHeld q then none else some (c.hostWrite q off d be ro ep)
  | .read off len => if s.baseHeld q || !s.readFits q off len then none else some (c.hostRead q off len)
  | .command op a r l => some (c.hostCommand q op a r l)

/-- The items of a queue are taken in link order until one must wait. -/
def State.pumpHost (s : State) (q : Nat) : Nat → State
  | 0 => s
  | f + 1 =>
    match (s.hq q).items with
    | [] => s
    | i :: t =>
      match (s.modHq q fun h => { h with items := t }).hostItem q i with
      | some s' => State.pumpHost s' q f
      | none => s

/-- An item arrives on the link. -/
def State.hostArrive (s : State) (q : Nat) (i : HostItem) : State :=
  let s := s.modHq q fun h => { h with items := h.items ++ [i] }
  s.pumpHost q (s.hq q).items.length

/-- Every queue takes what it can. -/
def State.pumpHosts (s : State) : State := s.each [0, 1, 2, 3] fun q t => t.pumpHost q (t.hq q).items.length

/-- A TLP to BAR2 is well formed: within 4 KiB and the payload or read size of R480 and R508. -/
def tlpOk (off len most : Nat) : Bool := decide (1 ≤ len) && decide (len ≤ most) && decide (off % 4096 + len ≤ 4096)

/-- A write TLP to BAR2 (R483, R484, R491). -/
def State.bar2Write (s : State) (off : Nat) (d : List Byte) (be : Nat) (relaxed poisoned : Bool) : State :=
  if !s.bit Obj.pcieLink 9 then s
  else if 2 ^ 36 ≤ off then s.pcieError 20
  else if !tlpOk off d.length 512 then s.pcieError 18
  else
    let s := if poisoned then s.poisonedTlp else s
    s.hostArrive (off / 2 ^ 34) (.write off d be relaxed poisoned)

/-- A read TLP to BAR2 (R483, R486). -/
def State.bar2Read (s : State) (off len : Nat) : State :=
  if !s.bit Obj.pcieLink 9 then s
  else if 2 ^ 36 ≤ off then s.pcieError 20
  else if !tlpOk off len 4096 then s.pcieError 18
  else s.hostArrive (off / 2 ^ 34) (.read off len)

/-- A COMMAND write of a page with the values of its registers, ADDR_LO [5:0] being zero (R488). -/
def State.pageCommand (s : State) (q op addr range lease : Nat) : State :=
  let addr := addr - addr % 64
  let s := s.modHq q fun h => { h with addr := addr, range := range, lease := lease }
  if op < 4 ∨ 6 < op ∨ (s.hq q).waiting then s.bump (Obj.hqCmdDiscarded q)
  else (s.modHq q fun h => { h with waiting := true }).hostArrive q (.command op addr range lease)

/-- RESULT of a page (R488). -/
def State.pageResult (s : State) (q : Nat) : Nat := (s.hq q).result + b2n (s.hq q).waiting * 256

/-- The merge wait of an open line runs out (R485). -/
def State.mergeExpiry (s : State) (q : Nat) : State :=
  match (s.hq q).openLine with
  | some o => (s.advanceCyc o.due).closeHostLine q
  | none => s

/-- The first line of a posted write that is not OK is the one HQ_LAST_FAIL names (R484, R516). -/
def State.failedLine (s : State) (q : Nat) (r : Req) : State :=
  match (r.status.map fun o => o.getD stAborted).zipIdx.find? fun x => x.1 != stOk with
  | some (st, i) => s.lastFail q (r.addr + 64 * i) st true
  | none => s

/-- A request of a host queue has its answer: a read's lines, a command's RESULT, or a posted write that was not applied. -/
def State.deliverHost (s : State) (r : Req) : State :=
  let q := r.rq - 0x100
  match r.kind with
  | .read =>
    let s := s.modHq q fun h => { h with reads := h.reads.map fun x : HostRead => { x with lines := x.lines.map fun l : HostLine =>
      if l.req = r.serial then
        let i := (l.addr - r.addr) / 64
        { l with result := some ((r.status.getD i none).getD stAborted, r.back.getD i []) }
      else l } }
    (s.pumpReads q).pumpHost q (s.hq q).items.length
  | .write => s.failedLine q r
  | .masked => s.failedLine q r
  | _ => if (s.hq q).pending = some r.serial then s.hostAnswer q (r.kind.opcode) r.overall else s

/-- What still waited in a queue is withdrawn (R123). -/
def State.withdrawItem (s : State) (q : Nat) (i : HostItem) : State :=
  match i with
  | .write off d be _ _ =>
    let a := s.obj (Obj.hqWindowBase q) + off % 2 ^ 34
    s.each (groupForward 16 (cutLines a d.length d be)) fun g t =>
      (t.bump (Obj.hqPostedFailed q)).lastFail q ((g.map CutLine.addr).headD 0) stAborted true
  | .read off len =>
    let a := s.obj (Obj.hqWindowBase q) + off % 2 ^ 34
    let ls := (lineGroups 65 (a - a % 64) (a + len)).flatMap fun (la, k) =>
      (List.range k).map fun i => ({ req := 0, addr := la + 64 * i, result := some (stAborted, []) } : HostLine)
    s.modHq q fun h => { h with reads := h.reads ++ [({ first := a, last := a + len, lines := ls } : HostRead)] }
  | .command op _ _ _ => s.hostAnswer q op stAborted

/-- HQ_ABORT (R123, R124, R509): every request of the queue is withdrawn, and reads complete under HQ_FAIL_MODE. -/
def State.abortHost (s : State) (q why : Nat) : State :=
  let items := (s.hq q).items
  let s := s.modHq q fun h => { h with items := [], openLine := none }
  let s := s.withdrawAll (fun r => r.rq == rqHost q) stAborted
  let mine (r : Req) : Bool := r.rq == rqHost q
  let out := s.answers.filter mine
  let s := { s with answers := s.answers.filter fun r => !mine r }
  let s := s.each out fun r t => t.deliverHost r
  let s := s.each items fun i t => t.withdrawItem q i
  (s.pumpReads q).orphanLocks (fun l => l.holder == rqHost q) why

/-- What a reset of the function discards of a queue: completions and an unanswered command (R492). -/
def State.forgetHost (s : State) (q : Nat) : State := s.modHq q fun h => { result := h.result }

end Sys2Proof.Machine
end

