-- ==== Sys2Proof/Machine/Train.lean ====
section
/-! DEFINITION. Store channels in and out of service: self-refresh and park (R224, R630), training with its sets and its rows (R263 to
R274, R281 to R291), resume (R283, R284), release and fill (R22, R307, R308), and drift tracking (R275 to R280, R289). -/

namespace Sys2Proof.Machine

/-! Self-refresh and park. -/

/-- A visible write goes to DRAM and out of the retry buffer, its CRC window over (R224, R322). -/
def State.drainWrite (s : State) (e : Ent) : State :=
  let s := if e.stage = .writeQ ∨ e.stage = .retryQ then s.burst e else s
  let s := if e.stage = .retryQ then s.bump (Obj.wcrcRetries e.ch) else s
  let n := e.attempts + (if e.stage = .retry then 0 else 1)
  let s := if 1 < n then s.plog e plogWrite 3 e.mask n else s
  s.dropEnt e.serial

/-- Every visible write of a channel is issued, in the order of visibility. -/
def State.drainWrites (s : State) (ch : Nat) : State :=
  let mine (e : Ent) : Bool := e.ch == ch && e.isWrite && !e.isOpen &&
    (e.stage == .writeQ || e.stage == .retry || e.stage == .retryQ)
  let visOrder := (s.ents.filter mine).mergeSort fun a b => decide (a.vis ≤ b.vis)
  s.each visOrder fun e t => t.drainWrite e

/-- The lockstep lines slotted on a channel are LATE with LATE_STOPPED (R220, R224, R282). -/
def State.lateSlotted (s : State) (ch : Nat) : State :=
  s.each (s.ents.filter fun e => e.ch == ch && e.stage == .slotted) fun e t => t.lateLine e (Obj.lateStopped ch)

/-- The channel's subchannels stand with every bank closed. -/
def Chan.closeAll (c : Chan) : Chan :=
  { c with subA := { took := c.subA.took }, subB := { took := c.subB.took } }

/-- The c by which every rank of a channel may enter self-refresh: rule 2 holds from each PRE and auto-precharge to it, and open rows are closed as
soon as the rules allow (R211). -/
def State.sreAt (s : State) (ch : Nat) : Nat :=
  let k := s.hotCounts ch
  [0, 1].foldl (fun m sub =>
    let x := (s.chan ch).sub sub
    let cmd (d : DramKind) (rank bg bank : Nat) : DramCmd := ⟨d, rank, bg, bank, 0, false, false, 0, true⟩
    let pres := (x.rows.filter fun o => o.2.isSome).map fun o =>
      earliest k x.hist (cmd .pre (o.1 / 32) ((o.1 / 4) % 8) (o.1 % 4)) s.cyc + k.rule 2
    (pres ++ (rankNos (s.chan ch).dimms).map fun r => earliest k x.hist (cmd .sre r 0 0) s.cyc).foldl max m) s.cyc

/-- A channel issues its visible writes and enters self-refresh (R211, R224, R251, R611). -/
def State.enterSelfRefresh (s : State) (ch : Nat) : State :=
  let s := ((s.drainWrites ch).lateSlotted ch).dropEvents ch
  let s := s.modChan ch fun c => { c.closeAll with selfRefresh := true, stoppedAt := s.sreAt ch }
  (s.setBit (Obj.schedStatus ch) 0 false).setBit (Obj.schedStatus ch) 1 false

/-- The open entry of a channel is discarded at a park: answered ABORTED, or counted if posted (R123, R159). -/
def State.parkOpen (s : State) (ch : Nat) : State :=
  match (s.chan ch).pathHolder with
  | none => s
  | some n =>
    match s.ents.find? fun e => e.serial == n with
    | none => s
    | some w =>
      let s := s.discardOpen ch true
      let s := match s.req? w.req with
        | some r => if r.posted && !r.status.contains (some stAborted) then s.countPostedFail r.rq else s
        | none => s
      s.lineDone w.req w.ix stAborted []

/-! Self-refresh exit (R234, R253, R255, R283). -/

/-- The refresh state of a rank after an exit: every bank is refreshed once first. -/
def State.freshRank (s : State) (ch : Nat) (x : RankRefresh) : RankRefresh :=
  let n := if s.obj (Obj.refMode ch) = 1 then 4 else 1
  { x with passLeft := n, acts := [], overdue := 0, held := false, lastAt := (List.range n).foldl (fun m k => mapSet (fun _ => 0) m k s.cyc) [] }

/-- The channel leaves reset or self-refresh: the first command of each rank waits for rule 23 (R211). -/
def State.exitSelfRefresh (s : State) (ch : Nat) : State :=
  let s := s.advanceCyc (s.chan ch).stoppedAt
  let s := if (s.chan ch).place.isEmpty then s.placeFresh ch (s.obj Obj.opCurrent) else s
  let n := rankCount (s.chan ch).dimms
  let keys := (List.range n).flatMap fun r => [(0, r), (1, r)]
  let stop := s.cyc - (s.chan ch).stoppedAt
  let s := { s with ents := s.ents.map fun e : Ent => if e.ch = ch then { e with watch := e.watch.map (· + stop) } else e }
  s.modChan ch fun c =>
    let c := { c with selfRefresh := false, parked := false, grantAt := s.cyc, cmdA := 0, cmdB := 0,
                      mr4Sent := [], oscRun := [], mr4At := (List.range (2 * n)).foldl (fun m k => mapSet (fun _ => 0) m k s.cyc) [] }
    let c := keys.foldl (fun c (sub, r) => c.setRank sub r (s.freshRank ch (c.rank sub r))) c
    let srx := (rankNos c.dimms).map fun rk : Nat => (⟨.srx, rk, 0, 0, 0, false, false, s.cyc, false⟩ : DramCmd)
    { c with subA := { c.subA with hist := srx }, subB := { c.subB with hist := srx } }

/-! Release and fill (R22, R171, R307, R308). -/

/-- The time that the pacing of a scrub pass gives to so many lines of a channel (R310). -/
def State.scrubSpan (s : State) (ch l : Nat) : Nat :=
  l * (s.act (Obj.scrubPeriod ch) * 1000 * msTicks) / max 1 (s.capacity ch / 64)

/-- The channel is released: CHANNELS_READY is set, its quota windows and watchdogs start (R161), and scrub starts a pass, or goes on from
SCRUB_POSITION at the pace of its pass (R310, R325; DESIGN CHOICE, log entry 165). -/
def State.releaseChan (s : State) (ch : Nat) : State :=
  let s := if s.obj (Obj.scrubPosition ch) = 0 then s.dropShadows fun h => h.bound == .scrubPass && h.key / 0x10000 == 0x30 + ch else s
  (s.setBit Obj.channelsReady ch true).modChan ch fun c =>
    { c with scrubSince := s.now - s.scrubSpan ch (s.obj (Obj.scrubPosition ch)), quotaStart := s.nextWrap, quotaBase := [], quotaUsed := [],
             trackAt := (List.range (rankCount c.dimms)).foldl (fun m k => mapSet (fun _ => 0) m k s.cyc) [],
             readAt := (List.range (2 * rankCount c.dimms)).foldl (fun m k => mapSet (fun _ => 0) m k s.cyc) [],
             oscRun := [], oscAt := [], laneAt := mapSet (fun _ => 0) [] 768 s.cyc }

/-- After its training or resume a channel fills, goes on filling, or is released (R284, R307). -/
def State.enterService (s : State) (ch : Nat) : State :=
  let s := s.setObj (Obj.trainState ch) 3
  if s.act (Obj.initMode ch) = 0 then
    if s.obj (Obj.fillState ch) = 2 then s.releaseChan ch
    else if s.obj (Obj.fillState ch) = 3 then s.releaseChan ch
    else if s.obj (Obj.fillState ch) = 1 then s
    else
      ((s.setObj (Obj.fillState ch) 1).setObj (Obj.fillPosition ch) 0).modChan ch fun c => { c with fillNext := 0 }
  else if s.obj (Obj.fillState ch) = 0 then (s.setObj (Obj.fillState ch) 3).releaseChan ch
  else if s.obj (Obj.fillState ch) = 1 then s
  else s.releaseChan ch

/-! Trained sets (R264, R273, R274). -/

/-- The set of an operating point. -/
def State.setOf (s : State) (ch op : Nat) : TrainedSet := (s.chan ch).sets.getD op {}

def State.putSet (s : State) (ch op : Nat) (x : TrainedSet) : State :=
  (s.modChan ch fun c => { c with sets := c.sets.set op x }).setBit (Obj.setValid ch) op x.valid

/-- The population code of a channel (R273). -/
def populationCode (l : List Dimm) : Nat :=
  let d := l.headD {}
  b2n (l.length == 2) + 2 * b2n (d.ranks == 2) + 4 * (if d.density = 16 then 0 else if d.density = 24 then 1 else 2)

/-- What a byte of a record from byte 64 on belongs to (R273): 0 and 1 the low and high byte of a delay, 2 a control word of the RCD, 3 a Vref, 4 a DFE
code, 5 reserved or of a rank or DIMM that is not there. -/
def bodyRole (l : List Dimm) (i : Nat) : Nat :=
  let two := (l.headD {}).ranks == 2
  if i < 192 then
    let o := i % 48
    if l.length ≤ i / 96 then 5
    else if o < 18 then o % 2
    else if o < 20 then (if two then o % 2 else 5)
    else if o < 28 then 2
    else if o < 38 || two then 3 else 5
  else
    let k := (i - 192) / 512
    let o := (i - 192) % 256
    if decide (l.length ≤ k / 2) || (k % 2 == 1 && !two) then 5
    else if o < 180 then o % 2
    else if o < 190 then 3
    else if o < 215 then 4 else 5

/-- The body of a record for a population: bits [15:12] of a delay and whatever is reserved or not populated read zero (R259, R273). -/
def setBody (l : List Dimm) (body : List Byte) : List Byte :=
  ((body ++ zeros 2240).take 2240).zipIdx.map fun (b, i) =>
    match bodyRole l i with
    | 1 => b &&& 0x0F#8
    | 5 => 0#8
    | _ => b

/-- What a SEEDED search may find (R263): every delay within 8 units of the seed's, every Vref within 4 steps, the DFE the seed's own. -/
def nearSeed (l : List Dimm) (seed body : List Byte) : Bool :=
  let words (x : List Byte) := x.zip (x.drop 1 ++ zeros 1)
  ((words seed).zip (words body)).zipIdx.all fun ((a, b), i) =>
    match bodyRole l i with
    | 0 => decide (absDiff (leNat [a.1, a.2]) (leNat [b.1, b.2]) ≤ 8)
    | 3 => decide (absDiff a.1.toNat b.1.toNat ≤ 4)
    | 4 => a.1 == b.1
    | _ => true

/-- The bytes of a record before its CRC, and from 64 on. -/
def setBytes (l : List Dimm) (op ch ts way margins : Nat) (body : List Byte) : List Byte :=
  let head := leBytes 4 0x54455354 ++ leBytes 1 1 ++ leBytes 1 op ++ leBytes 1 ch ++ leBytes 1 (populationCode l) ++
    leBytes 8 ((l.getD 0 { ident := 0 }).ident) ++ leBytes 8 (if l.length = 2 then (l.getD 1 {}).ident else 0) ++ leBytes 8 ts ++
    leBytes 1 way ++ zeros 1 ++ leBytes 4 margins ++ zeros 22
  let rest := setBody l body
  head ++ leBytes 4 (crc32 (head ++ rest)) ++ rest

/-- A stored set of the channel is valid (R264): its tag, version, operating point, channel, population, identities and CRC. -/
def setMatches (l : List Dimm) (op ch : Nat) (b : List Byte) : Bool :=
  b.length == 2304 && leNat (b.take 4) == 0x54455354 && leNat ((b.drop 4).take 1) == 1 && leNat ((b.drop 5).take 1) == op &&
    leNat ((b.drop 6).take 1) == ch && leNat ((b.drop 7).take 1) == populationCode l &&
    leNat ((b.drop 8).take 8) == (l.getD 0 {}).ident && leNat ((b.drop 16).take 8) == (if l.length = 2 then (l.getD 1 {}).ident else 0) &&
    leNat ((b.drop 60).take 4) == crc32 (b.take 60 ++ b.drop 64)

/-- The set in force is valid for the DIMMs now found. -/
def State.storedSet (s : State) (ch op : Nat) : Bool :=
  (s.setOf ch op).valid && setMatches (s.chan ch).dimms op ch (s.setOf ch op).bytes

/-- Tracking offsets return to zero, so that no lane is held at its bound (R277, R280). -/
def State.zeroOffsets (s : State) (ch : Nat) : State := (s.putDom (Obj.laneOffsets ch) (zeros 768)).setBit (Obj.driftStatus ch) 0 false

/-! Training rows (R268, R269). -/

/-- The lines of the training rows: bank group 0, bank 0, the highest row of each rank of each subchannel. -/
def State.trainingLines (s : State) (ch : Nat) : List Nat :=
  let l := (s.chan ch).dimms
  let r := b2n ((l.headD {}).ranks == 2)
  let d := b2n (l.length == 2)
  let row := deviceRows (l.headD {}).density - 1
  let hash := s.obj Obj.bankHash == 1
  let bg := if hash then row % 8 else 0
  let ba := if hash then (row >>> 3) % 4 else 0
  (List.range (2 * 2 ^ (r + d))).flatMap fun k => (List.range 64).map fun col =>
    k % 2 + bg * 2 + col * 16 + ba * 1024 + (k / 2) * 4096 + row * 2 ^ (12 + r + d)

/-- The rows are read into the save buffer at the end of step 5, unless a buffer still waits or a FILL pass follows (R268, R269). -/
def State.saveRows (s : State) (ch : Nat) : State :=
  if s.obj (Obj.savePending ch) = 1 ∨ s.obj (Obj.fillState ch) = 1 ∨ (s.act (Obj.initMode ch) = 0 ∧ s.obj (Obj.fillState ch) = 0) then s
  else
    (s.modChan ch fun c => { c with saveBuf := (s.trainingLines ch).map fun l => (l, s.dramLine ch l) }).setObj (Obj.savePending ch) 1

/-- After step 9 the rows hold what the buffer holds. -/
def State.restoreRows (s : State) (ch : Nat) : State :=
  if s.obj (Obj.savePending ch) = 0 then s
  else
    let s := s.each (s.chan ch).saveBuf fun (l, v) t => t.setDram ch l v
    (s.modChan ch fun c => { c with saveBuf := [] }).setObj (Obj.savePending ch) 0

/-- What a training that reached its step 6 leaves in the rows until they are restored: contents the spec leaves open. -/
def State.spoilRows (s : State) (ch : Nat) : State :=
  let ep := mapGet (fun _ => 0) s.lost ch
  s.each (s.trainingLines ch) fun l t => t.setDram ch l (openLine (ep + 2 ^ 40 + s.drawn) (dramKey ch l))

/-! The run of a training in time (R265, R268, R286). -/

/-- The step of a run at the present time. -/
def State.stepNow (s : State) (ch : Nat) (t : TrainRun) : Nat := t.stepNow (s.chan ch).dimms ((s.now - t.started) / usTicks)

/-- TRAIN_STEP: the step running, or the last step run (R292). -/
def State.trainStepNow (s : State) (ch : Nat) : Nat :=
  match (s.chan ch).train with
  | some t => if t.running then s.stepNow ch t else s.obj (Obj.trainStep ch)
  | none => s.obj (Obj.trainStep ch)

/-- A training past its step 5 has read its rows into the save buffer (R268). -/
def State.trainSaves (s : State) (ch : Nat) : State :=
  match (s.chan ch).train with
  | some t =>
    if t.running && !t.saved && decide (5 < s.stepNow ch t) then
      (s.saveRows ch).modChan ch fun c => { c with train := some { t with saved := true } }
    else s
  | none => s

/-- Training that is in progress is abandoned: its partial set is discarded, the save buffer kept, and the channel trains again when it
returns (R286), what start-up left to train with it if `keep` says so (R281, R291). A TRAIN_CMD that it served has failed. -/
def State.abandonTraining (s : State) (ch : Nat) (keep : Bool) : State :=
  match (s.chan ch).train with
  | none => s
  | some t =>
    let n := s.trainStepNow ch
    let s := s.trainSaves ch
    let s := if t.running && decide (5 < n) then s.spoilRows ch else s
    let s := s.modChan ch fun c => { c with train := none, mustTrain := true, opsLeft := if keep && !t.command then t.ops else [] }
    let s := if t.command then s.cmdFailed (Obj.trainCmd ch) 9 else s
    (s.setObj (Obj.trainStep ch) n).setObj (Obj.trainState ch) 0

/-- A park of one channel, its training abandoned (R630): while parked it is not released (R27, R281). -/
def State.parkChan (s : State) (ch : Nat) : State :=
  let s := s.abandonTraining ch true
  let s := if (s.chan ch).selfRefresh then s else (s.parkOpen ch).enterSelfRefresh ch
  ((s.modChan ch fun c => { c with parked := true, resuming := false }).setBit Obj.padStatus ch true).setBit Obj.channelsReady ch false

/-- A park of every accepted channel (R630); PARK_MAX_NS keeps the longest, which the spec bounds by 1,500 ns. -/
def State.parkStore (s : State) : State :=
  let s := s.track Obj.parkMaxNs (s.freeNat 0 % 1501)
  (s.drew 1).each s.acceptedChans fun ch t => t.parkChan ch

/-! Training (R265 to R270, R281 to R288). -/

/-- A channel waits to be trained at operating points, the last being where it will run. -/
def State.planTraining (s : State) (ch : Nat) (ops : List Nat) (full command : Bool) : State :=
  let fin := ops.getLast?.getD (s.obj Obj.opCurrent)
  (s.modChan ch fun c => { c with train := some { ops := ops, full := full, command := command, finalOp := fin }, resuming := false,
                                  mustTrain := false }).setObj (Obj.trainState ch) 1

/-- The channel is withdrawn (R282): requests to it wait, and lockstep lines slotted on it are LATE. -/
def State.withdrawChan (s : State) (ch : Nat) : State :=
  (s.setBit Obj.channelsReady ch false).lateSlotted ch

/-- The channel's queues are empty. -/
def State.queuesEmpty (s : State) (ch : Nat) : Bool := !s.ents.any fun e => e.ch == ch && e.stage != .input

/-- The operating points that channels in start-up training, or on their way back to it, have yet to train before the one the engine will run at
last (R270). -/
def State.earlyOps (s : State) : List Nat :=
  channels.flatMap fun ch =>
    let c := s.chan ch
    match c.train with
    | some t => if t.command then [] else t.ops.filter (· != t.finalOp)
    | none => if c.resuming then c.opsLeft.filter (· != c.opsLeft.getLast?.getD 3) else []

/-- The operating point that is trained next: the least of those, then the one the engine will run at last (R270). -/
def State.trainTarget (s : State) : Nat :=
  let fin := (((channels.filterMap fun ch => (s.chan ch).train).filter fun t => !t.command).map TrainRun.finalOp).headD (s.obj Obj.opCurrent)
  if s.earlyOps.isEmpty then fin else s.earlyOps.foldl min 3

/-- Training of the next operating point begins, with the times that its steps will take: shadows of EYE_MIN and VREF_MIN act, the tracking offsets are
zero, and refresh runs from the exit (R267, R280, R292). -/
def State.trainingStarts (s : State) (ch : Nat) (times : List Nat) : State :=
  match (s.chan ch).train with
  | none => s
  | some t =>
    if t.running || !s.queuesEmpty ch || (t.ops.headD 3) != s.obj Obj.opCurrent || (!t.command && s.trainTarget != s.obj Obj.opCurrent) then s
    else
      let s := s.dropShadows fun h => h.bound == .training && h.key / 0x10000 == 0x30 + ch
      let s := if (s.chan ch).selfRefresh || (s.chan ch).refresh.isEmpty then s.exitSelfRefresh ch else s
      let s := (s.zeroOffsets ch).modChan ch fun c => { c with train := some { t with running := true, started := s.now, times := times, saved := false } }
      ((s.setObj (Obj.trainState ch) 1).setObj (Obj.trainStep ch) 1).bump (Obj.trainings ch)

/-- The lines of requests that wait for a channel declared failed are answered DENIED (R171). -/
def State.denyLines (s : State) (ch : Nat) : State :=
  s.each (s.ents.filter fun e => e.ch == ch && e.stage == .input) fun e t =>
    let t := match t.req? e.req with
      | some r => if r.posted && e.isWrite && !r.status.contains (some stDenied) then t.countPostedFail e.rq else t
      | none => t
    (t.dropEnt e.serial).lineDone e.req e.ix stDenied []

/-- FULL training failed where R287 names it: the channel is failed, its DRAM in self-refresh if step 2 ever passed, else in reset. -/
def State.failChan (s : State) (ch step : Nat) : State :=
  let s := s.modChan ch fun c => { c with train := none, failed := true, selfRefresh := c.caPassed || decide (2 < step) }
  let s := s.denyLines ch
  let s := (s.setObj (Obj.trainState ch) 4).setBit Obj.channelsReady ch false
  (s.setBit (Obj.phyFaultCause ch) 0 true).beginCause (4 * ch + 1) 0 (sourceWord ch 0)

/-! Lane offsets (R277, R286). -/

/-- The bound of a lane's offset (R277). -/
def State.laneBound (s : State) (ch lane : Nat) : Nat :=
  if lane % 96 < 80 then s.act (Obj.driftWindow ch) else s.act (Obj.gateWindow ch)

/-- An offset as the byte of LANE_OFFSETS. -/
def offsetByte (i : Int) : Byte := BitVec.ofInt 8 i
def laneOffset (d : List Byte) (lane : Nat) : Int := toInt 8 (byteAt d lane).toNat

/-- DRIFT_STATUS [0] from the lanes: a lane stands at its bound. -/
def State.anyPinned (s : State) (ch : Nat) : Bool :=
  (s.dom (Obj.laneOffsets ch)).zipIdx.any fun (b, i) => decide (i % 96 < 90) && decide (s.laneBound ch i ≤ (toInt 8 b.toNat).natAbs)

/-- A lane's offset takes a value, clamped at its bound and pinned there (R277). -/
def State.setOffset (s : State) (ch lane : Nat) (want : Int) : State :=
  let b : Int := s.laneBound ch lane
  let v := max (-b) (min b want)
  let s := s.patchDom (Obj.laneOffsets ch) lane [offsetByte v]
  let s := s.track (Obj.driftMax ch) v.natAbs
  if v ≠ want then
    let s := if s.bit (Obj.driftStatus ch) 0 then s else s.bump (Obj.driftPinnedCount ch)
    (s.setBit (Obj.driftStatus ch) 0 true).setBit (Obj.driftStatus ch) 1 true
  else if s.bit (Obj.driftStatus ch) 0 && !s.anyPinned ch then s.setBit (Obj.driftStatus ch) 0 false
  else s

/-- The windows written act at a wheel wrap: an offset beyond one is clamped, and the loop is no longer pinned when no lane stands at its bound (R249,
R286). -/
def State.clampOffsets (s : State) (ch : Nat) : State :=
  let s := s.each ((List.range 768).filter fun i => decide (i % 96 < 90) &&
      decide (s.laneBound ch i < (laneOffset (s.dom (Obj.laneOffsets ch)) i).natAbs)) fun i t =>
    t.setOffset ch i (laneOffset (t.dom (Obj.laneOffsets ch)) i)
  if s.bit (Obj.driftStatus ch) 0 && !s.anyPinned ch then s.setBit (Obj.driftStatus ch) 0 false else s

/-! Operating points of the core PLL. -/

/-- OP_CURRENT and CCLK_HZ show an operating point (R611). -/
def State.showOp (s : State) (op : Nat) : State := (s.setObj Obj.opCurrent op).setObj Obj.cclkHz (cclkHzOf op)

/-- The core PLL relocks at an operating point: from the next frame boundary on CCLK runs there, aligned with the frame (R30, R31, R48, R611). -/
def State.setOp (s : State) (op : Nat) : State :=
  let s := s.toFrame.showOp op
  let s := { s with clk := { s.clk with holdsOp := none } }
  let s := ((s.setBit Obj.clockStatus 0 true).setBit Obj.clockStatus 6 true).restartWheel
  s.each s.acceptedChans fun ch t => t.clampOffsets ch

/-- The channels in training. -/
def State.training (s : State) : List Nat := channels.filter fun ch => (s.chan ch).train.isSome

/-- When every channel has finished an operating point of start-up, the core PLL is retuned for the next one: ascending, the one the
engine will run at last (R270). -/
def State.nextTrainOp (s : State) : State :=
  let runs := s.training.filterMap fun ch => (s.chan ch).train
  if runs.isEmpty || runs.any TrainRun.running || runs.any TrainRun.command || s.trainTarget == s.obj Obj.opCurrent then s
  else (s.each s.acceptedChans fun ch t => if (t.chan ch).selfRefresh then t else t.enterSelfRefresh ch).setOp s.trainTarget

/-- The channel has finished an operating point: the next one waits, or the channel enters service and a TRAIN_CMD is done. -/
def State.afterTraining (s : State) (ch : Nat) (t : TrainRun) : State :=
  let rest := t.ops.tail
  if rest.isEmpty then
    let s := (s.modChan ch fun c => { c with train := none, failed := false }).enterService ch
    (if t.command then s.cmdDone (Obj.trainCmd ch) else s).nextTrainOp
  else
    (s.modChan ch fun c => { c with train := some { t with ops := rest, full := !s.storedSet ch (rest.headD 3), running := false } }).nextTrainOp

/-- A step has failed: SEEDED is to train again FULL, from step 1; FULL fails the operating point or the channel, which keeps the set it had (R266, R287,
R288). `word` holds step, rank, subchannel, bit and reason in TRAIN_FAIL's layout. -/
def State.trainingFailed (s : State) (ch word : Nat) (t : TrainRun) : State :=
  let op := t.ops.headD 3
  let step := fld 0 4 word
  let s := (((s.setObj (Obj.trainFail ch) (putFld 4 2 (word % 2 ^ 20) op)).setObj (Obj.trainStep ch) step).bump (Obj.trainFailures ch)).setObj
    (Obj.scLastTrainUs ch) ((s.now - t.started) / usTicks)
  let s := if 6 ≤ step then (if t.saved then s else s.saveRows ch).spoilRows ch else s
  let s := s.modChan ch fun c => { c with caPassed := c.caPassed || decide (2 < step) }
  if !t.full then
    (s.modChan ch fun c => { c with train := some { t with full := true, running := false } }).setObj (Obj.trainStep ch) 1
  else if t.command || op == 3 || op == t.finalOp then
    let s := s.failChan ch step
    (if t.command then s.cmdFailed (Obj.trainCmd ch) 9 else s).nextTrainOp
  else
    let s := s.setBit (Obj.setValid ch) op false
    ((s.setBit (Obj.phyFaultCause ch) 1 true).raise (4 * ch + 1) (sourceWord ch 1)).afterTraining ch t

/-- Training at an operating point passes: the set is committed and the rows stand restored (R265, R269). -/
def State.trainingPassed (s : State) (ch margins : Nat) (body : List Byte) (t : TrainRun) : State :=
  let op := t.ops.headD 3
  let way := if t.full then 3 else 2
  let s := (s.putSet ch op { valid := true, bytes := setBytes (s.chan ch).dimms op ch s.ts way margins body }).restoreRows ch
  let s := (((s.setObj (Obj.lastWay ch) way).setObj (Obj.scLastTrainUs ch) ((s.now - t.started) / usTicks)).setObj
    (Obj.marginSummary ch) (margins % 2 ^ 32)).setObj (Obj.trainStep ch) 10
  let s := (s.setBit (Obj.driftStatus ch) 1 false).modChan ch fun c => { c with caPassed := true }
  (s.endCause (4 * ch + 1) 0).afterTraining ch t

/-- A step ends in a failure, at the end of its time: `word` holds step, rank, subchannel, bit and reason in TRAIN_FAIL's layout. Nothing happens when the step
has passed already or does not end (R265, R266). -/
def State.stepFails (s : State) (ch word : Nat) (t : TrainRun) : State :=
  match t.stepStart (s.chan ch).dimms (fld 0 4 word + 1) with
  | some us => if t.started + us * usTicks < s.now then s else (s.advanceTo (t.started + us * usTicks)).trainingFailed ch word t
  | none => s

/-- The last step ends, and the operating point is trained; a SEEDED search finds only what lies near its seed (R263, R265). -/
def State.lastStepEnds (s : State) (ch margins : Nat) (body : List Byte) (t : TrainRun) : State :=
  let l := (s.chan ch).dimms
  match t.stepStart l 11 with
  | some us =>
    let op := t.ops.headD 3
    if t.full || !s.storedSet ch op || nearSeed l ((s.setOf ch op).bytes.drop 64) (setBody l body) then
      let s := (s.advanceTo (t.started + us * usTicks)).trainSaves ch
      s.trainingPassed ch margins body t
    else s
  | none => s

/-- Training at an operating point ends: a step fails, or the last one passes. -/
def State.trainingEnds (s : State) (ch : Nat) (word : Option Nat) (margins : Nat) (body : List Byte) : State :=
  match (s.chan ch).train with
  | some t => if !t.running then s else (match word with | some w => s.stepFails ch w t | none => s.lastStepEnds ch margins body t)
  | none => s

/-- The step of a run that takes longer than its time. -/
def TrainRun.overruns (t : TrainRun) (l : List Dimm) : Option Nat :=
  ((List.range 10).find? fun i => (t.stepStart l (i + 2)).isNone).map (· + 1)

/-- The step that takes longer than its time fails with TIMEOUT (5) when its time is over (R265). `place` gives rank, subchannel and bit in TRAIN_FAIL's
layout. -/
def State.stepTimesOut (s : State) (ch place : Nat) : State :=
  match (s.chan ch).train with
  | some t =>
    let l := (s.chan ch).dimms
    match t.overruns l with
    | some n =>
      let us := (t.stepStart l n).getD 0 + stepMax l t.full n
      if !t.running then s else (s.advanceTo (t.started + us * usTicks)).trainingFailed ch (n + fld 6 9 place * 2 ^ 6 + 5 * 2 ^ 16) t
    | none => s
  | none => s

/-! Resume (R281, R283, R284). -/

/-- A channel in self-refresh may resume: it waits for its RESUME. -/
def State.startResume (s : State) (ch : Nat) (keep : Bool) : State :=
  let c := s.chan ch
  if !c.accepted || c.failed then s
  else
    ((s.modChan ch fun c => { c with resuming := true, parked := false, keptOffsets := c.keptOffsets && keep }).setObj (Obj.trainState ch)
      2).setBit Obj.padStatus ch false

/-- Every accepted channel may resume. -/
def State.resumeStore (s : State) (keep : Bool) : State := s.each s.acceptedChans fun ch t => t.startResume ch keep

/-- The window a lane's correction may have in a resume check (R284): half its drift window, none for a calculated delay. -/
def State.resumeBound (s : State) (ch lane : Nat) : Nat :=
  let i := lane % 96
  if i < 80 then s.act (Obj.driftWindow ch) / 2 else if 85 ≤ i ∧ i < 90 then s.act (Obj.gateWindow ch) / 2 else 0

/-- Every correction of a resume check lies in its window. -/
def State.checkPasses (s : State) (ch : Nat) (corr : List Byte) : Bool :=
  corr.zipIdx.all fun (b, i) => decide ((toInt 8 b.toNat).natAbs ≤ s.resumeBound ch i)

/-- A set held in retention memory serves the operating point in force; otherwise training follows (R281). -/
def State.resumes? (s : State) (ch : Nat) : Bool :=
  s.storedSet ch (s.obj Obj.opCurrent) && !(s.chan ch).mustTrain &&
    !(s.bit (Obj.driftStatus ch) 1 && s.obj (Obj.retrainPolicy ch) == 1)

/-- The resume sequence of a channel, with what its check read: `pattern` says that every pattern read was correct, `corr` the
correction of each lane. Where a reset cut start-up training short, what it left is trained first (R270, R281, R291). -/
def State.resumeChan (s : State) (ch : Nat) (pattern : Bool) (corr : List Byte) : State :=
  if !(s.chan ch).resuming then s
  else
    let op := s.obj Obj.opCurrent
    let seeded := s.storedSet ch op
    let s := if (s.chan ch).keptOffsets then s else s.zeroOffsets ch
    let s := s.modChan ch fun c => { c with keptOffsets := true }
    let left := (s.chan ch).opsLeft
    if !left.isEmpty then ((s.planTraining ch left (!s.storedSet ch (left.headD 3)) false).modChan ch fun c => { c with opsLeft := [] }).nextTrainOp
    else if !s.resumes? ch then s.planTraining ch [op] (!seeded) false
    else
      let s := ((s.bump (Obj.resumes ch)).setObj (Obj.lastWay ch) 1).exitSelfRefresh ch
      if pattern && s.checkPasses ch corr then
        let moved := (List.range 768).filter fun i => laneOffset corr i != 0
        let s := s.each moved fun i t => t.setOffset ch i (laneOffset (t.dom (Obj.laneOffsets ch)) i + laneOffset corr i)
        let s := s.modChan ch fun c => { c with resuming := false, caPassed := true }
        if s.bit Obj.channelsReady ch then s.setObj (Obj.trainState ch) 3 else s.enterService ch
      else
        let s := s.bump (Obj.resumeCheckFails ch)
        ((s.enterSelfRefresh ch).planTraining ch [op] false false).setBit Obj.channelsReady ch false

/-! Drift tracking (R275 to R277, R289). -/

/-- The lanes one measurement moves: the eight write DQ bits of a device together, any other lane alone. -/
def tracked (lane : Nat) : List Nat := if lane % 96 < 40 then (List.range 8).map fun i => lane - lane % 96 % 8 + i else [lane]

/-- The c from which a lane may be updated again, if a measurement of it has been made since its last update: a read of the rank once per wheel for a read lane,
an MRR of the oscillator once per 16 wheels for a write DQ lane (R275, R285). `k` is twice the rank index plus the subchannel. -/
def State.laneDue (s : State) (ch k lane key : Nat) : Option Nat :=
  let c := s.chan ch
  let last := mapGet (fun _ => 0) c.laneAt key
  let write := decide (lane < 40)
  let seen := mapGet (fun _ => 0) (if write then c.oscAt else c.readAt) k
  if seen ≤ max last (mapGet (fun _ => 0) c.laneAt 768) then none
  else if last = 0 then some s.cyc
  else some (s.wheelBase + (if write then (s.trackPeriod last + 1) * 16384 else (s.wheelNo last + 1) * 1024))

/-- A tracking measurement of a rank moves a lane by at most one unit, towards the side measured (R275, R276). -/
def State.trackLane (s : State) (ch rank sub lane : Nat) (up down : Bool) : State :=
  let base := 96 * (2 * ((rankNos (s.chan ch).dimms).getD rank 0) + sub)
  let key := base + (tracked lane).headD lane
  if !s.tracks ch || !s.chanRuns ch || decide (90 ≤ lane) || (decide (80 ≤ lane) && decide (lane < 85)) ||
      decide (rankCount (s.chan ch).dimms ≤ rank) then s
  else
    match s.laneDue ch (2 * rank + sub) lane key with
    | none => s
    | some due =>
      let s := s.advanceCyc due
      let step : Int := if up && !down then 1 else if down && !up then -1 else 0
      let s := s.each (tracked lane) fun l t => t.setOffset ch (base + l) (laneOffset (t.dom (Obj.laneOffsets ch)) (base + l) + step)
      let s := (s.bump (Obj.trackUpdates ch)).modChan ch fun c =>
        { c with trackAt := mapSet (fun _ => 0) c.trackAt rank s.cyc, laneAt := mapSet (fun _ => 0) c.laneAt key s.cyc }
      if bitOf (s.causesOf (4 * ch + 1)) (1 + rank) then
        let s := s.endCause (4 * ch + 1) (1 + rank)
        s.setBit (Obj.driftStatus ch) 3 ((List.range 4).any fun k => bitOf (s.causesOf (4 * ch + 1)) (1 + k))
      else s

/-- 64 wheels have passed without a tracking measurement of a rank (R285, R289). -/
def State.trackGoesStale (s : State) (ch rank : Nat) : State :=
  if !s.released ch || s.act (Obj.trackEnable ch) != 1 || decide (rankCount (s.chan ch).dimms ≤ rank) ||
      bitOf (s.causesOf (4 * ch + 1)) (1 + rank) then s
  else
    let s := s.advanceCyc (mapGet (fun _ => 0) (s.chan ch).trackAt rank + 65536)
    let s := ((s.setBit (Obj.phyFaultCause ch) 2 true).setBit (Obj.driftStatus ch) 3 true).bump (Obj.trackStaleCount ch)
    s.beginCause (4 * ch + 1) (1 + rank) (sourceWord ch 2)

/-- The trained write DQS delay of a device, from the set in force (R273). -/
def State.wdqsDelay (s : State) (ch k sub dev : Nat) : Nat :=
  leNat (((s.setOf ch (s.obj Obj.opCurrent)).bytes.drop (256 + 256 * (2 * k + sub) + 160 + 2 * dev)).take 2)

/-- Division of an integer, rounded to nearest. -/
def roundDiv (a : Int) (b : Nat) : Int := if 0 ≤ a then (2 * a + b) / (2 * b) else -((2 * (-a) + b) / (2 * b))

/-- The calculated write DQS offsets follow SHMOO_ACTUAL (R275). -/
def State.calcWdqs (s : State) (ch : Nat) : State :=
  if !s.released ch || s.act (Obj.trackEnable ch) != 1 then s
  else
    let act := toInt 16 (s.obj Obj.shmooActual)
    let n := cclkHzOf (s.obj Obj.opCurrent) / 10000
    s.each ((rankNos (s.chan ch).dimms).flatMap fun k => [(k, 0), (k, 1)]) fun (k, sub) t =>
      t.each (List.range 5) fun dev u =>
        u.setOffset ch (96 * (2 * k + sub) + 80 + dev) (roundDiv ((u.wdqsDelay ch k sub dev : Int) * act) n)

end Sys2Proof.Machine
end

