-- ==== Sys2Proof/Machine/Care.lean ====
section
/-! DEFINITION. The end of a fill, patrol scrub, the peek and the retire fence (R307 to R320), and the reads and writes the management
core makes of the store. -/

namespace Sys2Proof.Machine

/-! Fill (R307, R657). -/

/-- The lines of the fenced pages that map to a channel: a fill counts them as filled and leaves them as they are. -/
def State.fencedLines (s : State) (ch : Nat) : List Nat :=
  s.fence.flatMap fun p => (List.range 64).filterMap fun i =>
    match s.decodeAddr (p * 4096 + 64 * i) with
    | some (c, loc) => if c = ch then some (loc / 64) else none
    | none => none

/-- Every line of a channel holds what a fill leaves, zeros with check bytes 0xFF: no line of it is listed. -/
def State.zeroFilled (s : State) (ch n : Nat) : State :=
  { s with dram := s.dram.filter fun e => e.1 / 2 ^ 40 != ch }.modChan ch fun c => { c with filled := true, fillNext := n }

/-- The rest of a fill: every line of the channel holds zeros with check bytes 0xFF, but for fenced pages and the lines written since. -/
def State.fillRest (s : State) (ch : Nat) : State :=
  let n := s.capacity ch / 64
  let s := s.drainWrites ch
  let from' := (s.chan ch).fillNext
  let fenced := (s.fencedLines ch).map fun l => (l, s.dramLine ch l)
  let fencedLeft := (fenced.filter fun e => decide (from' ≤ e.1)).length
  let mine (k : Nat) : Bool := k / 2 ^ 40 == ch
  let early := (s.dram.filter fun e => mine e.1 && decide (e.1 % 2 ^ 40 < from')).filterMap fun e => e.2.map fun v => (e.1 % 2 ^ 40, v)
  let keep := early ++ fenced
  let s := s.zeroFilled ch n
  let s := s.each keep fun (l, v) t => t.setDram ch l v
  (s.addTo Obj.retiredHits fencedLeft).setObj (Obj.fillPosition ch) n

/-- The last fill line becomes visible: FILL_STATE is DONE and the channel released (R307). -/
def State.fillEnds (s : State) (ch : Nat) : State :=
  if s.obj (Obj.fillState ch) != 1 || !s.chanRuns ch || (s.chan ch).train.isSome || (s.chan ch).resuming then s
  else ((s.fillRest ch).setObj (Obj.fillState ch) 2).releaseChan ch

/-! Patrol scrub (R310, R311). -/

/-- The lines of a channel. -/
def State.lineCount (s : State) (ch : Nat) : Nat := s.capacity ch / 64

/-- The time at which the pacing of a pass makes the read of a line due. -/
def State.scrubDue (s : State) (ch l : Nat) : Nat :=
  (s.chan ch).scrubSince + s.scrubSpan ch l

/-- A pass ends and the next one starts at line 0: behind is shown when it took longer than its period (R310, R311). -/
def State.scrubPassEnds (s : State) (ch : Nat) : State :=
  let inTime := decide (s.now ≤ (s.chan ch).scrubSince + s.act (Obj.scrubPeriod ch) * 1000 * msTicks)
  let s := (s.bump (Obj.scrubPasses ch)).setObj (Obj.scrubPosition ch) 0
  let s := s.setBit (Obj.scrubStatus ch) 1 (!inTime)
  (s.dropShadows fun h => h.bound == .scrubPass && h.key / 0x10000 == 0x30 + ch).modChan ch fun c => { c with scrubSince := s.now }

/-- The next background read of a channel; a line of a retired page is skipped (R310). -/
def State.scrubRead (s : State) (ch : Nat) : State :=
  if s.obj (Obj.scrubEnable ch) != 1 || !s.released ch || !s.chanRuns ch then s
  else
    let l := s.obj (Obj.scrubPosition ch)
    let s := s.advanceTo (s.scrubDue ch l)
    let a := s.encodeAddr ch (64 * l)
    let s := if s.fenced a then s
      else s.enter { serial := 0, rq := rqFs, kind := .read, tag := 1, addr := a, lines := 1, ctx := ch }
    let s := s.setObj (Obj.scrubPosition ch) (l + 1)
    if s.lineCount ch ≤ l + 1 then s.scrubPassEnds ch else s

/-- SCRUB_PERIOD has passed and the pass is not complete (R311). -/
def State.scrubBehind (s : State) (ch : Nat) : State :=
  if s.obj (Obj.scrubEnable ch) != 1 || !s.released ch then s
  else
    (s.advanceTo ((s.chan ch).scrubSince + s.act (Obj.scrubPeriod ch) * 1000 * msTicks)).setBit (Obj.scrubStatus ch) 1 true

/-! Peek (R314). -/

/-- MG reads the line that PEEK_ADDRESS of a channel names. -/
def State.startPeek (s : State) (ch a : Nat) : State :=
  s.enter { serial := 0, rq := rqMg, kind := .read, tag := 1, addr := a, lines := 1, ctx := ch }

/-- The peek's line has its outcome. -/
def State.peekDone (s : State) (r : Req) : State :=
  let ch := r.ctx
  let d := r.back.headD []
  if r.overall = stRetired then s.setObj (Obj.peekAddress ch) 0x86
  else if r.overall ≠ stOk then s.setObj (Obj.peekAddress ch) 0x89
  else
    ((s.putDom (Obj.peekData ch) (d.take 80)).setObj (Obj.peekMismatch ch) (failMask (d.take 64) (d.drop 64))).setObj (Obj.peekAddress ch) 3

/-! The retire fence (R318, R319). -/

/-- A page number enters an ascending list. -/
def insertPage (p : Nat) : List Nat → List Nat
  | [] => [p]
  | q :: t => if p < q then p :: q :: t else if p = q then q :: t else q :: insertPage p t

/-- The fence takes a value: the table and RETIRE_COUNT follow. -/
def State.setFence (s : State) (l : List Nat) : State := ({ s with fence := l }).setObj Obj.retireCount l.length

/-- A page is fenced. -/
def State.retirePage (s : State) (a : Nat) : State := s.setFence (insertPage (a / 4096) s.fence)

/-- A page is unfenced. -/
def State.unretirePage (s : State) (a : Nat) : State := s.setFence (s.fence.filter (· != a / 4096))

/-- RETIRE_TABLE (R328). -/
def State.retireTable (s : State) : List Byte :=
  (s.fence.flatMap fun p => leBytes 8 (p * 4096)) ++ List.replicate (32768 - 8 * s.fence.length) 0xFF#8

end Sys2Proof.Machine
end

