-- ==== Sys2Proof/Machine/Probe.lean ====
section
/-! DEFINITION. The probe channels: the sequencer and its guard table, mode-register access, the DUT supplies and the curl (chapter
11). An instruction takes effect when the sequencer takes it, ten c before its first cycle, with the stamps of its own CK; an
END moves the clock to its CK. -/

namespace Sys2Proof.Machine

def State.pb (s : State) (n : Nat) : ProbeCh := mapGet (fun _ => {}) s.probes n
def State.modPb (s : State) (n : Nat) (f : ProbeCh → ProbeCh) : State :=
  { s with probes := mapSet (fun _ => {}) s.probes n (f (s.pb n)) }

def State.cmdRunning (s : State) (k : Nat) : Bool := s.obj k == 1

/-- The probe channels of the part (R1, R23). -/
def State.probeChans (s : State) : List Nat := if s.part = .ft4216 then [0, 1] else []

def pbDisabled : Nat := 0
def pbIdle : Nat := 1
def pbRunning : Nat := 2
def pbCurled : Nat := 3

def State.pbIs (s : State) (n st : Nat) : Bool := s.part == .ft4216 && s.obj (Obj.pbState n) == st
/-- The channel is enabled: IDLE or RUNNING (R332). -/
def State.pbOn (s : State) (n : Nat) : Bool := s.pbIs n pbIdle || s.pbIs n pbRunning

/-- The probe CK multiple N (R37). -/
def State.pbMult (s : State) (n : Nat) : Nat := s.act (Obj.pb0CkMult + n)

/-- CCLK in Hz, the shmoo offset included (R35). -/
def State.cclkHz (s : State) : Nat := ((cclkHzOf (s.obj Obj.opCurrent) : Nat) + 10000 * toInt 16 (s.obj Obj.shmooActual)).toNat

/-- The data rate at a CCLK lies within 3200 to 9000 MT/s (R37, R331). -/
def rateOk (n hz : Nat) : Bool := decide (3200000000 ≤ 2 * n * hz) && decide (2 * n * hz ≤ 9000000000)

/-! Sites. -/

/-- A site is enabled (R364). -/
def State.siteOn (s : State) (n i : Nat) : Bool := s.bit (Obj.siteConfig n i) 0
/-- The width code of a site: 0 x4, 1 x8, 2 x16. -/
def State.siteWidth (s : State) (n i : Nat) : Nat := fld 1 2 (s.obj (Obj.siteConfig n i))
def sites8 : List Nat := [0, 1, 2, 3, 4, 5, 6, 7]
/-- The enabled sites among those of a mask. -/
def State.sitesOf (s : State) (n mask : Nat) : List Nat := sites8.filter fun i => bitOf mask i && s.siteOn n i

/-! Pins. -/

/-- The level of FAIL_Pn (R351, R389, R360): high as well while the supplies of a cold reset ramp down (R639). -/
def State.failPin (s : State) (n : Nat) : Bool := s.pbIs n pbCurled || (s.pb n).failHigh || (s.probeChans.contains n && decide (s.now < s.rst.rampsUntil))

/-! DUT supplies. -/

def psOff : Nat := 0
def psUp : Nat := 1
def psGood : Nat := 2
def psDown : Nat := 3
def psDischarge : Nat := 4
def psHeld : Nat := 6

def State.powerIs (s : State) (n st : Nat) : Bool := s.obj (Obj.powerState n) == st
/-- The supplies are on: ramping, good or held. -/
def State.supplyOn (s : State) (n : Nat) : Bool := s.powerIs n psUp || s.powerIs n psGood || s.powerIs n psDown || s.powerIs n psHeld

/-- A supply's output is on: DUT_VDD and DUT_VDDQ start when DUT_VPP has reached its gate, and are off again at 0 V (R346, R347). -/
def State.supplyIsOn (s : State) (n k : Nat) : Bool :=
  let x := s.pb n
  let y := x.supplies.getD k {}
  s.supplyOn n && !(s.powerIs n psUp && x.stage == 0 && decide (k < 2)) &&
    !(s.powerIs n psDown && decide (k < 2) && x.stage == 1 && decide (y.v0 * msTicks ≤ y.rate * (s.now - y.t0)))

/-- All three supplies of a probe channel are off. -/
def State.suppliesOff (s : State) (n : Nat) : Bool := [0, 1, 2].all fun k => !s.supplyIsOn n k

def ProbeCh.supply (x : ProbeCh) (k : Nat) : Supply := x.supplies.getD k {}
def State.modSupply (s : State) (n k : Nat) (f : Supply → Supply) : State :=
  s.modPb n fun x => { x with supplies := x.supplies.set k (f (x.supply k)) }

/-- Where a supply's path stands at a time, in 0.1 mV. -/
def Supply.at (x : Supply) (t : Nat) : Nat :=
  let m := x.rate * (t - x.t0) / msTicks
  if x.v0 ≤ x.target then min x.target (x.v0 + m) else max x.target (x.v0 - m)

/-- When a supply's path reaches a value it heads for. -/
def Supply.reach (x : Supply) (v : Nat) : Nat := if x.rate = 0 then x.t0 else x.t0 + ceilDiv (absDiff x.v0 v * msTicks) x.rate

/-- A supply heads for a target at a rate from a time on. -/
def Supply.go (x : Supply) (t target rate : Nat) : Supply := { x with v0 := x.at t, t0 := t, target := target, rate := rate }

def State.supplyGo (s : State) (n k t target rate : Nat) : State := s.modSupply n k fun x => x.go t target rate

/-- The 95 % of the DUT_VPP setpoint at which the other two start (R346). -/
def vppGate (x : Supply) : Nat := ceilDiv (x.target * 95) 100

/-- Bring the stages of a ramp up to the time: DUT_VDD and DUT_VDDQ start at 95 % of DUT_VPP, RESET_N is driven low from 0.3 V
of DUT_VDDQ, and DUT_VPP goes down once the others are below 0.1 V (R346, R347). -/
def State.rampStage (s : State) (n : Nat) : State :=
  let x := s.pb n
  if s.powerIs n psUp then
    let t := (x.supply 2).reach (vppGate (x.supply 2))
    let s := s.when (x.stage == 0 && decide (t ≤ s.now)) fun s =>
      ((s.supplyGo n 0 t (s.obj (Obj.setpoint n 0)) x.rampRate).supplyGo n 1 t (s.obj (Obj.setpoint n 1)) x.rampRate).modPb n
        fun y => { y with stage := 1 }
    s.when (decide (3000 < ((s.pb n).supply 1).at s.now) && (s.pb n).resetN.isNone && !s.pbIs n pbCurled) fun s =>
      s.modPb n fun y => { y with resetN := some false }
  else if s.powerIs n psDown && x.stage == 0 then
    let t := max ((x.supply 0).reach 999) ((x.supply 1).reach 999)
    s.when (decide (t ≤ s.now)) fun s => (s.supplyGo n 2 t 0 x.rampRate).modPb n fun y => { y with stage := 1 }
  else s

/-- The time of the next stage of a ramp, or of its end. -/
def State.rampNext (s : State) (n : Nat) : Nat :=
  let x := s.pb n
  if s.powerIs n psUp then
    if x.stage = 0 then (x.supply 2).reach (vppGate (x.supply 2))
    else (x.supplies.map fun y => y.reach y.target).foldl max 0
  else if x.stage = 0 then max ((x.supply 0).reach 999) ((x.supply 1).reach 999)
  else (x.supply 2).reach 999

/-- A supply that has been switched off. -/
def Supply.off (y : Supply) (t : Nat) : Supply :=
  { y with v0 := 0, t0 := t, target := 0, rate := 0, pinned := false, fold := false, overFor := 0, underFor := 0,
           aboveFor := 0, openFor := 0 }

/-- DUT_POWER UP (R346): the ramp of DUT_VPP begins. -/
def State.dutUp (s : State) (n : Nat) : State :=
  let s := s.dropShadows fun h => h.key == Obj.dutRamp n
  let rate := s.obj (Obj.dutRamp n) * 1000
  let t := s.now
  let s := s.modPb n fun x =>
    { x with supplies := x.supplies.map fun y => { y.off t with onLocal := false }, stage := 0, rampRate := rate, resetN := none }
  ((s.setObj (Obj.powerState n) psUp).setObj (Obj.dutPower n) 1).supplyGo n 2 s.now (s.obj (Obj.setpoint n 2)) rate

/-- The three supplies go down in the order of R347, at a rate. -/
def State.dutDownAt (s : State) (n rate : Nat) : State :=
  let s := s.modPb n fun x => { x with stage := 0, rampRate := rate, resetN := some false }
  let s := s.setObj (Obj.powerState n) psDown
  (s.supplyGo n 0 s.now 0 rate).supplyGo n 1 s.now 0 rate

/-- DUT_POWER DOWN (R347); with every supply off it completes with no effect, and a discharge in progress completes it. -/
def State.dutDown (s : State) (n : Nat) : State :=
  if s.powerIs n psOff then s.cmdDone (Obj.dutPower n)
  else if s.powerIs n psDischarge then s.setObj (Obj.dutPower n) 1
  else
    let s := s.dropShadows fun h => h.key == Obj.dutRamp n
    (s.setObj (Obj.dutPower n) 1).dutDownAt n (s.obj (Obj.dutRamp n) * 1000)

/-- The causes of the channel's supply line that supply faults hold. -/
def supplyLine (n : Nat) : Nat := 19 + 4 * n
def foldCause (n k : Nat) : Nat := 1 + 3 * n + k

/-- The supplies are off with their discharge enabled: every condition of theirs has ended (R347, R351). -/
def State.dutOff (s : State) (n : Nat) : State :=
  let t := s.now
  let s := s.modPb n fun x => { x with supplies := x.supplies.map (Supply.off · t), stage := 0, resetN := none }
  let s := s.setObj (Obj.powerState n) psOff
  let s := s.forAll 13 fun b s => s.endCause (supplyLine n) b
  let s := s.forAll 3 fun k s => s.endCause 39 (foldCause n k)
  if s.cmdRunning (Obj.dutPower n) then s.cmdDone (Obj.dutPower n) else s

/-- All three supplies are within 5 mV of their setpoints (R346). -/
def State.dutGood (s : State) (n : Nat) : State :=
  if s.powerIs n psUp then
    let s := (s.advanceTo (s.rampNext n)).rampStage n
    let s := (s.advanceTo (s.rampNext n)).rampStage n
    let boot := s.obj Obj.runPhase == 1
    (s.setObj (Obj.powerState n) (if boot then psHeld else psGood)).cmdDone (Obj.dutPower n)
  else s

/-- The end of a DOWN ramp, or of a discharge that took `us` microseconds, at most 2 ms (R347, R351). -/
def State.dutDischarged (s : State) (n us : Nat) : State :=
  if s.powerIs n psDown then
    let s := (s.advanceTo (s.rampNext n)).rampStage n
    (s.advanceTo (s.rampNext n)).dutOff n
  else if s.powerIs n psDischarge then (s.advanceTo (((s.pb n).supply 0).t0 + min us 2000 * usTicks)).dutOff n
  else s

/-- A setpoint is written: kept, taken as the ramp's target, or slewed to (R348). -/
def State.newSetpoint (s : State) (n k : Nat) : State :=
  let v := s.obj (Obj.setpoint n k)
  if s.powerIs n psUp then
    if k = 2 ∨ (s.pb n).stage = 1 then s.supplyGo n k s.now v (s.pb n).rampRate else s
  else if s.powerIs n psGood then s.supplyGo n k (s.now + s.untilCyc (s.cyc + 1)) v (s.obj (Obj.slew n k) * 1000)
  else s

/-- The supplies are discharged by a curl (R351, R354): a ramp stops. -/
def State.dutDischarge (s : State) (n : Nat) : State :=
  if s.powerIs n psOff || s.powerIs n psDischarge then s
  else
    let s := if s.cmdRunning (Obj.dutPower n) then s.cmdFailed (Obj.dutPower n) 9 else s
    let s := s.modPb n fun x => { x with supplies := x.supplies.map fun y => y.go s.now (y.at s.now) 0 }
    s.setObj (Obj.powerState n) psDischarge

/-! The curl (R351, R352). -/

/-- The records in the capture queues and holding registers of a channel. -/
def ProbeCh.records (x : ProbeCh) : Nat :=
  (sites8.map fun i => (mapGet (fun _ => []) x.cap i).length + (mapGet (fun _ => []) x.held i).length +
    b2n (mapGet (fun _ => []) x.capPart i != [])).sum

/-- The expected queue and the capture queues are emptied; discarded records are counted (R394). -/
def State.dropCapture (s : State) (n : Nat) : State :=
  let s := s.addTo (Obj.recordsDiscarded n) (s.pb n).records
  s.modPb n fun x => { x with cap := [], capPart := [], held := [], due := [], expected := [], owed := [], prev := [], counts := [] }

/-- A calibration ends without a result (R391). -/
def State.dropCal (s : State) (n : Nat) : State :=
  match (s.pb n).cal with
  | none => s
  | some (_, asked) =>
    let s := (s.modPb n fun x => { x with cal := none }).setBit (Obj.calStatus n) 4 false
    if asked then s.cmdFailed (Obj.calCmd n) 9 else s

/-- The sequencer stops and its queue is discarded. -/
def State.dropSequencer (s : State) (n : Nat) : State :=
  let s := s.modPb n fun x => { x with queue := [], late := false, mr := none, driven := none, lowPower := 0 }
  let s := if s.cmdRunning (Obj.mrCmd n) then s.cmdFailed (Obj.mrCmd n) 9 else s
  (s.setBit (Obj.seqStatus n) 0 false).setBit (Obj.seqStatus n) 1 false

/-- A curl of one channel with its cause and depth (R351, R352). -/
def State.curl (s : State) (n cause : Nat) (discharge : Bool) : State :=
  if s.part != .ft4216 then s
  else
    let s := s.when (!s.pbIs n pbCurled) fun s =>
      let s := ((s.dropCal n).dropSequencer n).dropCapture n
      let s := (s.modPb n fun x => { x with resetN := none, failHigh := false }).setObj (Obj.pbState n) pbCurled
      (s.setObj (Obj.curlCause n) cause).bump (Obj.curls n)
    if discharge then s.dutDischarge n else s

/-- PB_CURL (R351): 1 outputs, 2 discharge. -/
def State.pbCurlCmd (s : State) (n v : Nat) : State := (s.curl n v (v == 2)).cmdDone (Obj.pbCurl n)

/-! Enabling. -/

/-- PB_ENABLE as written (R332): 1 takes a disabled channel to IDLE, 0 any channel to DISABLED. A curled channel of which the supplies are
on drives RESET_N low again, as before a RESET_RELEASE (R346; DEDUCED, log entry 141). -/
def State.pbEnableEffect (s : State) (n : Nat) : State :=
  if s.obj (Obj.pbEnable n) = 1 then
    if s.pbIs n pbDisabled then
      (s.modPb n fun x => { x with failHigh := false, replicaAt := s.now + msTicks, hist := [],
                                   calOwed := !s.bit (Obj.calStatus n) 0, calJust := false }).setObj (Obj.pbState n) pbIdle
    else s
  else if s.pbIs n pbDisabled then s
  else
    let s := if s.pbIs n pbCurled then s else (s.dropCal n).dropSequencer n
    let low (x : ProbeCh) : Option Bool := if x.resetN.isNone && s.supplyOn n && !s.powerIs n psUp then some false else x.resetN
    (s.modPb n fun x => { x with failHigh := false, due := [], expected := [], owed := [], prev := [], counts := [], resetN := low x }).setObj
      (Obj.pbState n) pbDisabled

/-! The sequencer. -/

/-- What an instruction word asks for (R334). -/
inductive SeqOp | command | wait | resetAssert | resetRelease | mark | fin | ckStop | ckStart | malformed
  deriving DecidableEq, Repr

/-- The kind of an instruction word, and MALFORMED (R334). -/
def seqOp (w : Nat) : SeqOp :=
  match fld 62 2 w with
  | 0 => if fld 56 2 w = 3 ∨ (fld 59 2 w ≠ 0 ∧ fld 61 1 w = 0) then .malformed else .command
  | 1 => if fld 0 32 w = 0 then .malformed else .wait
  | 2 =>
    match fld 56 6 w with
    | 1 => .resetAssert
    | 2 => .resetRelease
    | 3 => .mark
    | 4 => .fin
    | 5 => .ckStop
    | 6 => .ckStart
    | _ => .malformed
  | _ => .malformed

/-- The instruction at the head of the queue of a running channel; BL32 is for x4 sites only (R334). -/
def State.seqHead (s : State) (n : Nat) : Option (SeqOp × Nat) :=
  if s.pbIs n pbRunning ∧ (s.pb n).cal = none ∧ (s.pb n).mr = none then
    match (s.pb n).queue with
    | [] => none
    | w :: _ =>
      let op := seqOp w
      if op = .command ∧ fld 56 2 w = 2 ∧ (s.sitesOf n (fld 48 8 w)).any fun i => s.siteWidth n i != 0 then some (.malformed, w)
      else some (op, w)
  else none

/-- PB_PIPE (R338). -/
def pbPipe : Nat := 10

/-- An underrun is counted once (R339). -/
def State.countUnderrun (s : State) (n : Nat) : State :=
  if (s.pb n).late then s
  else ((s.modPb n fun x => { x with late := true }).bump (Obj.underruns n)).setBit (Obj.seqStatus n) 2 true

/-- The CK at which the head instruction starts when `gap` deselect CK go before it, and the state when the sequencer takes it: ten
c before the c of that CK, or now when that c has passed, an underrun (R336, R338, R339). -/
def State.seqTake (s : State) (n gap : Nat) : State × Nat :=
  let m := s.pbMult n
  let ck := (s.pb n).last + gap + 1
  let c := ck / m - pbPipe
  if decide (s.cyc ≤ c) && !(s.pb n).late then
    ((s.advanceCyc c).modPb n fun x => { x with queue := x.queue.drop 1 }, ck)
  else
    ((s.countUnderrun n).modPb n fun x => { x with queue := x.queue.drop 1, late := false }, (s.cyc + pbPipe) * m)

/-- The time of a CK. -/
def State.ckTime (s : State) (n ck : Nat) : Nat :=
  max s.now (s.timeAt ck (s.pbMult n))

/-- The timestamp at a time. -/
def State.tsAt (s : State) (t : Nat) : Nat := (t / 9 + s.tsOff) % 2 ^ 64

def State.setLast (s : State) (n ck : Nat) : State := s.modPb n fun x => { x with last := ck }

/-! The guard table. -/

/-- The class of a command by its first CA cycle, as the command truth table of JESD79-5 gives it (R341; PRESUMED, log entry 60). `low` says that the
site is in self-refresh or power-down, where a NOP is the exit. -/
def caClass (ca1 : Nat) (low : Bool) : Nat :=
  if ca1 % 4 = 0 then 1
  else
    match ca1 % 32 with
    | 31 => if low then 0xE else 0
    | 27 => 2
    | 11 => if bitOf ca1 10 then 3 else 4
    | 19 => if !bitOf ca1 9 then 0xB else if bitOf ca1 10 then 6 else 5
    | 29 => 7
    | 13 => 8
    | 9 => 8
    | 5 => 9
    | 21 => 0xA
    | 23 => if bitOf ca1 10 then 0xD else 0xC
    | _ => 0xF

/-- The banks a command names (R341). -/
def guardCmd (cls site ca1 ck : Nat) : GuardCmd :=
  let bg := some (fld 8 3 ca1)
  let ba := some (fld 6 2 ca1)
  let sb := bitOf ca1 10
  if cls = 1 ∨ cls = 2 ∨ cls = 7 ∨ cls = 8 then ⟨cls, site, true, bg, ba, ck⟩
  else if cls = 3 ∨ cls = 6 ∨ (cls = 0xB ∧ sb) then ⟨cls, site, true, none, ba, ck⟩
  else if cls = 4 ∨ cls = 5 ∨ cls = 0xB then ⟨cls, site, true, none, none, ck⟩
  else ⟨cls, site, false, none, none, ck⟩

def optMeets (a b : Option Nat) : Bool := a.isNone || b.isNone || a == b

/-- Two commands stand in a rule's scope (R342). -/
def inScope (scope : Nat) (a b : GuardCmd) : Bool :=
  match scope with
  | 0 => a.site == b.site && a.banked && b.banked && optMeets a.bg b.bg && optMeets a.bank b.bank
  | 1 => a.site == b.site && a.banked && b.banked && optMeets a.bg b.bg
  | 2 => a.site == b.site
  | _ => true

/-- One rule of GUARD_RULES (R342). -/
def State.guardRule (s : State) (n i : Nat) : Nat := leNat (((s.actDom (Obj.guardRules n)).drop (8 * i)).take 8)

/-- The earlier commands that a rule counts from for a command. -/
def ruleHits (r : Nat) (hist : List GuardCmd) (x : GuardCmd) : List GuardCmd :=
  if bitOf r 34 && bitOf (fld 16 16 r) x.cls then
    hist.filter fun h => bitOf (fld 0 16 r) h.cls && inScope (fld 32 2 r) h x && decide (x.ck < h.ck + fld 40 16 r)
  else []

/-- GUARD_LAST of one broken rule (R365). -/
def guardLastWord (i : Nat) (x h : GuardCmd) (bypassed : Bool) : Nat :=
  i + x.site * 32 + x.cls * 2 ^ 8 + h.cls * 2 ^ 12 + min 65535 (x.ck - h.ck) * 2 ^ 16 + b2n bypassed * 2 ^ 32

/-- The latest of some commands. -/
def latest (l : List GuardCmd) : Option GuardCmd :=
  l.foldl (fun o h => match o with | none => some h | some x => if x.ck < h.ck then some h else some x) none

/-- The rules a command breaks, site by site and rule by rule: the rule, the command and the command it stands too close to. -/
def State.guardBreaks (s : State) (n : Nat) (l : List GuardCmd) : List (Nat × GuardCmd × GuardCmd) :=
  let rules := (List.range 32).map fun i => (i, s.guardRule n i)
  l.flatMap fun x => rules.filterMap fun (i, r) => (latest (ruleHits r (s.pb n).hist x)).map fun h => (i, x, h)

/-- The CK from which a held command breaks no rule (R343). -/
def State.guardHold (s : State) (n : Nat) (l : List GuardCmd) (ck : Nat) : Nat :=
  let rules := (List.range 32).map fun i => s.guardRule n i
  (l.flatMap fun x => rules.flatMap fun r => (ruleHits r (s.pb n).hist x).map fun h => h.ck + fld 40 16 r).foldl max ck

/-- Every broken rule is recorded, the last one standing (R343). -/
def State.recordBreaks (s : State) (n : Nat) (b : List (Nat × GuardCmd × GuardCmd)) (bypassed : Bool) : State :=
  s.each b fun e t => t.setObj (Obj.guardLast n) (guardLastWord e.1 e.2.1 e.2.2 bypassed)

/-- Issued commands enter the history of the last 65,535 CK. -/
def State.remember (s : State) (n : Nat) (l : List GuardCmd) (ck : Nat) : State :=
  s.modPb n fun x => { x with
    hist := (x.hist.filter fun h => decide (ck ≤ h.ck + 65535)) ++ l.map fun g => { g with ck := ck },
    lowPower := l.foldl (fun m g => if g.cls = 0xC ∨ g.cls = 0xD then withBit m g.site true
                                    else if g.cls = 0xE then withBit m g.site false else m) x.lowPower }

/-- What the guard decides of a command (R343): the CK it is issued at, none when it is blocked. -/
def State.guard (s : State) (n : Nat) (l : List GuardCmd) (ck : Nat) (bypass : Bool) : State × Option Nat :=
  let mode := s.act (Obj.guardMode n)
  let b := if mode = 0 then [] else s.guardBreaks n l
  if mode != 0 && bypass && s.act (Obj.guardAllowBypass n) == 1 then ((s.recordBreaks n b true).bump (Obj.guardBypassed n), some ck)
  else if b.isEmpty then (s, some ck)
  else
    let t := s.recordBreaks n b false
    if mode = 1 then (t.bump (Obj.guardHolds n), some (s.guardHold n l ck))
    else if mode = 2 then (t.bump (Obj.guardBlocks n), none)
    else (t.bump (Obj.guardLogged n), some ck)

/-! Mode-register access (R344). -/

/-- The bytes that an MRR returns, one for each selected site (R344). -/
def State.mrrResult (s : State) (n mask : Nat) (bytes : List Byte) : State :=
  s.each (s.sitesOf n mask) fun i t => (t.patchDom (Obj.mrResult n) i [byteAt bytes i]).setBit (Obj.mrResultValid n) i true

/-- MR_CMD is accepted: the channel runs until it completes. -/
def State.mrStart (s : State) (n v : Nat) : State :=
  let s := (s.modPb n fun x => { x with mr := some v, calStart := s.now }).setObj (Obj.mrResultValid n) 0
  (s.setObj (Obj.pbState n) pbRunning).setObj (Obj.mrCmd n) 1

/-- MR_CMD completes, within 2 µs, with what the sites answered to a READ. -/
def State.mrDone (s : State) (n : Nat) (bytes : List Byte) (ns : Nat) : State :=
  match (s.pb n).mr with
  | none => s
  | some v =>
    let s := s.advanceTo ((s.pb n).calStart + min ns 2000 * 36 / 5)
    let s := if v = 2 then s.mrrResult n (s.obj (Obj.mrSites n)) bytes else s
    ((s.modPb n fun x => { x with mr := none }).setObj (Obj.pbState n) pbIdle).cmdDone (Obj.mrCmd n)

/-! Supply samples and faults (R349, R350, R356). -/

/-- The mean of some samples. -/
def mean (l : List Nat) : Nat := l.sum / max 1 l.length

/-- The last `n` of some samples with one more. -/
def pushSample (n v : Nat) (l : List Nat) : List Nat := (l ++ [v]).drop (l.length + 1 - max 1 n)

def SupplyFaults : List Nat := [0, 1, 2, 3]

/-- One fault condition of a supply has held for `m` samples in a row, or ended (R356). -/
def countFor (holds : Bool) (m : Nat) : Nat := if holds then m + 1 else 0

/-- One sample of a supply: remote and local voltage in 0.1 mV, and current in mA (R350). -/
def State.supplySample (s : State) (n k v l i : Nat) : State :=
  let x := (s.pb n).supply k
  let s := s.advanceTo (x.sampleAt + usTicks)
  let t := x.at s.now
  let top := s.obj (Obj.senseMaxCorr n k)
  let drop := l - v
  let on := s.supplyOn n
  let pin := on && !x.onLocal && decide (top < drop)
  let isOpen := on && !x.onLocal && decide (top + 500 < drop)
  let watch := s.powerIs n psGood || s.powerIs n psHeld
  let under := watch && !isOpen && decide (v + s.obj (Obj.uvMargin n k) < t)
  let above := on && decide (t + s.obj (Obj.ovMargin n k) < v)
  let oc := on && decide (s.obj (Obj.iLimit n k) < i)
  let avg := s.obj (Obj.measAvg n k)
  let y : Supply := { x with
    volts := pushSample avg v x.volts, amps := pushSample avg i x.amps, pinned := pin, trackArm := x.trackArm && !on,
    overFor := countFor oc x.overFor, underFor := countFor under x.underFor, aboveFor := countFor above x.aboveFor,
    openFor := countFor isOpen x.openFor, sampleAt := s.now }
  let s := s.modSupply n k fun _ => y
  let s := (s.setObj (Obj.measV n k) (mean y.volts)).setObj (Obj.measI n k) (mean y.amps)
  let s := s.setObj (Obj.senseCorr n k) (if x.onLocal then 0 else ofInt 16 (min ((l : Int) - v) top))
  let s := s.when (pin && !x.pinned) fun s => s.bump (Obj.sensePinnedCount n k)
  let s := s.when on fun s =>
    if x.trackArm then ((s.setObj (Obj.vMin n k) v).setObj (Obj.vMax n k) v).setObj (Obj.iMax n k) i
    else ((s.modObj (Obj.vMin n k) (min v)).track (Obj.vMax n k) v).track (Obj.iMax n k) i
  let s := s.when (!oc) fun s => s.endCause (supplyLine n) (4 * k)
  let s := s.when (!under) fun s => s.endCause (supplyLine n) (4 * k + 1)
  let s := s.when (!above) fun s => s.endCause (supplyLine n) (4 * k + 2)
  s.when (!isOpen && !x.onLocal) fun s => s.endCause (supplyLine n) (4 * k + 3)

/-- A supply fault sets its cause bit, counts and raises the channel's supply line (R356). -/
def State.supplyFaultAt (s : State) (n bit : Nat) : State :=
  let s := (s.setBit (Obj.supplyFaultCause n) bit true).bump (Obj.supplyFaults n)
  s.beginCause (supplyLine n) bit (sourceWord n bit)

/-- The condition of a fault has held for its time (R356): 0 overcurrent, 1 undervoltage, 2 overvoltage, 3 sense open. `hard` is the
local over-voltage of 100 ns, which no sample shows. -/
def State.supplyFaultDue (s : State) (n k kind : Nat) (hard : Bool) : Bool :=
  let x := (s.pb n).supply k
  match kind with
  | 0 => decide (s.obj (Obj.iLimitTime n k) ≤ x.overFor)
  | 1 => decide (10 ≤ x.underFor)
  | 2 => hard || decide (1 ≤ x.aboveFor)
  | _ => decide (10 ≤ x.openFor)

/-- A DUT supply fault is detected (R356, R359): a discharge curl with cause 3, or for an open sense line the switch to local sense. A
condition that is already recorded and holds is not detected again. -/
def State.supplyFault (s : State) (n k kind : Nat) (hard : Bool) : State :=
  if s.part = .ft4216 ∧ k < 3 ∧ kind < 4 ∧ s.supplyOn n ∧ s.supplyFaultDue n k kind hard ∧
      ¬ bitOf (s.causesOf (supplyLine n)) (4 * k + kind) then
    let s := s.supplyFaultAt n (4 * k + kind)
    if kind = 3 then (s.modSupply n k fun x => { x with onLocal := true, pinned := false }).setObj (Obj.senseCorr n k) 0
    else s.curl n 3 true
  else s

/-- SUPPLY_STATUS as it reads (R366). -/
def State.supplyStatusWord (s : State) (n k : Nat) : Nat :=
  let x := (s.pb n).supply k
  let on := s.supplyIsOn n k
  let slewing := s.powerIs n psGood && x.at s.now != x.target
  let reg := (s.powerIs n psGood || s.powerIs n psHeld) && !slewing && !x.fold
  b2n on + 2 * b2n reg + 4 * b2n (x.pinned && on) + 8 * b2n x.onLocal + 16 * b2n slewing + 32 * b2n x.fold

/-- A pad clamp conducts (R355). -/
def State.clampEvent (s : State) (n : Nat) : State :=
  if s.part = .ft4216 then (s.bump (Obj.clampEvents n)).beginCause (16 + 4 * n) 0 (sourceWord n 0xFF) else s

/-- An assertion edge on a site's ALERT_N (R354). -/
def State.probeAlert (s : State) (n i : Nat) : State :=
  if s.part = .ft4216 then (s.setBit (Obj.alertStatus n) i true).bump (Obj.alertCount n) else s

end Sys2Proof.Machine
end

