-- ==== Sys2Proof/Machine/Compare.lean ====
section
/-! DEFINITION. Edge placement, calibration, compare and capture of the probe channels (chapter 12), and the instructions of the sequencer
whose data bursts they serve (R334 to R340). -/

namespace Sys2Proof.Machine

/-! Edge offsets (R367 to R370). -/

/-- The 16-bit offset of pin `p` in a table of offsets. -/
def i16At (d : List Byte) (p : Nat) : Int := toInt 16 ((byteAt d (2 * p)).toNat + 256 * (byteAt d (2 * p + 1)).toNat)

/-- An object's bytes or value: those accepted, or those that act. -/
def State.bytesIn (s : State) (acting : Bool) (k : Nat) : List Byte := if acting then s.actDom k else s.dom k
def State.valIn (s : State) (acting : Bool) (k : Nat) : Nat := if acting then s.act k else s.obj k

/-- The offset of a drive pin, in units of 0.25 ps (R369). -/
def State.driveOffsets (s : State) (acting : Bool) (n : Nat) : List Int :=
  let sk := s.bytesIn acting (Obj.driveDeskew n)
  let off := s.bytesIn acting (Obj.driveOffset n)
  let dat := toInt 16 (s.valIn acting (Obj.driveShiftData n))
  let ca := toInt 16 (s.valIn acting (Obj.driveShiftCa n))
  (List.range 183).map fun p => i16At sk p + i16At off p + if p < 160 then dat else if p < 182 then ca else 0

/-- The offset of a strobe (R369); an MRR leaves STROBE_SHIFT out (R380). -/
def State.strobeOffset (s : State) (acting : Bool) (n p : Nat) : Int :=
  i16At (s.bytesIn acting (Obj.strobeDeskew n)) p + i16At (s.bytesIn acting (Obj.strobeOffset n)) p +
    toInt 16 (s.valIn acting (Obj.strobeShift n))

def State.strobeOffsets (s : State) (acting : Bool) (n : Nat) : List Int :=
  let sk := s.bytesIn acting (Obj.strobeDeskew n)
  let off := s.bytesIn acting (Obj.strobeOffset n)
  let sh := toInt 16 (s.valIn acting (Obj.strobeShift n))
  (List.range 128).map fun p => i16At sk p + i16At off p + sh

/-- An offset lies within 1 UI at a CCLK (R370): 1 UI is 4 * 10^12 / (2 N f) units. -/
def withinUi (m hz : Nat) (o : Int) : Bool := decide (o.natAbs * (2 * m * hz) ≤ 4000000000000)

/-- Every offset lies within 1 UI. -/
def State.offsetsFit (s : State) (acting : Bool) (n : Nat) : Bool :=
  let m := s.valIn acting (Obj.pb0CkMult + n)
  (s.driveOffsets acting n ++ s.strobeOffsets acting n).all (withinUi m s.cclkHz)

/-- The second sample of a window lies within 1 UI of the nominal strobe (R379). -/
def State.windowFits (s : State) (n : Nat) : Bool :=
  let m := s.obj (Obj.pb0CkMult + n)
  let w := s.obj (Obj.windowWidth n)
  w == 0 || (s.strobeOffsets false n).all fun o => decide ((o + w) * (2 * m * s.cclkHz) ≤ 4000000000000)

/-- A clamped offset (R370). -/
def clampUi (m hz : Nat) (o : Int) : Int :=
  let u : Int := (4000000000000 / (2 * m * hz) : Nat)
  max (-u) (min u o)

/-- A site that compares: enabled with COMPARE_MODE 1 (R381). -/
def State.compares (s : State) (n i : Nat) : Bool := s.siteOn n i && s.act (Obj.compareMode n i) == 1

/-- With EXPECT_BROADCAST the comparing sites have one width (R382), as accepted. -/
def State.broadcastOk (s : State) (n : Nat) : Bool :=
  s.obj (Obj.expectBroadcast n) == 0 ||
    (let l := sites8.filter fun i => s.siteOn n i && s.obj (Obj.compareMode n i) == 1
     l.all fun i => s.siteWidth n i == s.siteWidth n (l.headD 0))

/-- Every enabled guard rule has a minimum (R365), and no reserved bit of an entry is set (R8, R342). -/
def guardRulesOk (d : List Byte) : Bool :=
  (List.range 32).all fun i =>
    let r := leNat ((d.drop (8 * i)).take 8)
    (!bitOf r 34 || fld 40 16 r != 0) && fld 35 5 r == 0 && fld 56 8 r == 0

/-! Calibration (R373 to R377). -/

/-- A calibration starts: FULL or TRACK, asked for by CAL_CMD or not. -/
def State.calStart (s : State) (n : Nat) (full asked : Bool) : State :=
  let s := (s.modPb n fun x => { x with cal := some (full, asked), calStart := s.now, calOwed := false }).setObj (Obj.pbState n) pbRunning
  let s := s.setBit (Obj.calStatus n) 4 true
  if asked then s.setObj (Obj.calCmd n) 1 else s

/-- A calibration is called for by itself (R377). -/
def State.calWanted (s : State) (n : Nat) : Option Bool :=
  if s.pbIs n pbIdle then
    if (s.pb n).calOwed then some true
    else if s.obj (Obj.calAuto n) == 1 && fld 1 3 (s.obj (Obj.calStatus n)) != 0 then some false
    else none
  else none

/-- The causes of line 18 + 4n that a pass ends. -/
def State.endDrift (s : State) (n : Nat) : State := (s.endCause (18 + 4 * n) 0).endCause (18 + 4 * n) 1

/-- A calibration ends (R375), having taken `us` microseconds: with a pass at a die temperature and a worst error, or not. -/
def State.calDone (s : State) (n : Nat) (pass : Bool) (worst temp us : Nat) : State :=
  match (s.pb n).cal with
  | none => s
  | some (full, asked) =>
    let s := s.advanceTo ((s.pb n).calStart + min us (if full then 20000 else 1000) * usTicks)
    let s := s.bump (Obj.calibrations n)
    let over' (s : State) : State :=
      let s := ((s.modPb n fun x => { x with cal := none, calJust := true }).setBit (Obj.calStatus n) 4 false).setObj (Obj.pbState n) pbIdle
      if asked then s.cmdDone (Obj.calCmd n) else s
    if pass then
      let s := s.modObj (Obj.calStatus n) fun v => withBit (clearBits v 0x2E) 0 true
      let s := ((s.setObj (Obj.calTemp n) temp).setObj (Obj.calVddq n) (s.obj (Obj.setpoint n 1))).setObj (Obj.calWorst n) worst
      over' ((s.setObj (Obj.calDrift n) 0).endDrift n)
    else if full then
      let s := (s.setBit (Obj.calStatus n) 5 true).setBit (Obj.calFaultCause n) 2 true
      over' (s.raise (18 + 4 * n) (sourceWord n 2))
    else s.modPb n fun x => { x with cal := some (true, asked), calStart := s.now }

/-- The replica is measured, every 1 ms while the channel is enabled (R376): the drift in units and the die temperature in 0.1 °C,
as their two's complement words. -/
def State.replica (s : State) (n drift temp : Nat) : State :=
  if s.pbOn n then
    let s := s.advanceTo (s.pb n).replicaAt
    let s := s.modPb n fun x => { x with replicaAt := s.now + msTicks }
    let s := s.setObj (Obj.calDrift n) (drift % 65536)
    if s.bit (Obj.calStatus n) 0 then
      let far := (toInt 16 drift).natAbs
      let dt := (toInt 16 temp - toInt 16 (s.obj (Obj.calTemp n))).natAbs
      let dv := absDiff (s.obj (Obj.setpoint n 1)) (s.obj (Obj.calVddq n))
      let hit (s : State) (b c : Nat) : State :=
        ((s.setBit (Obj.calStatus n) b true).setBit (Obj.calFaultCause n) c true).beginCause (18 + 4 * n) c (sourceWord n c)
      let s := s.when (decide (s.obj (Obj.calDriftLimit n) < far)) fun s => if s.bit (Obj.calStatus n) 1 then s else hit s 1 0
      let s := s.when (decide (10 * s.obj (Obj.calTempLimit n) < dt)) fun s => if s.bit (Obj.calStatus n) 2 then s else hit s 2 1
      s.when (decide (250 < dv)) fun s => s.setBit (Obj.calStatus n) 3 true
    else s
  else s

/-- CAL_STATUS as it reads: bit 6 while an edge is clamped (R370). -/
def State.calStatusWord (s : State) (n : Nat) : Nat := withBit (s.obj (Obj.calStatus n)) 6 (!s.offsetsFit true n)

/-! Expected entries (R381 to R383). -/

/-- The bytes of a site's map for a burst (R383), BL as the instruction word codes it. -/
def mapBytes (width bl : Nat) : Nat :=
  match width, bl with
  | 2, 0 => 32 | 2, 1 => 16
  | 1, 0 => 16 | 1, 1 => 8
  | 0, 0 => 8 | 0, 1 => 4 | 0, 2 => 16
  | _, _ => 0

/-- The sites whose data sets an entry carries: the one set of EXPECT_BROADCAST, or every comparing site of the burst. -/
def State.setSites (s : State) (n mask : Nat) : List Nat :=
  let l := sites8.filter fun i => bitOf mask i
  if s.obj (Obj.expectBroadcast n) = 1 then l.take 1 else l

/-- The words of one site's set: data, and with MASK_DYNAMIC as many mask words. -/
def State.setWords (s : State) (n bl i : Nat) : Nat :=
  mapBytes (s.siteWidth n i) bl / 4 * (if s.obj (Obj.maskDynamic n) = 1 then 2 else 1)

/-- The words that follow an entry's header. -/
def State.entryWords (s : State) (n bl mask : Nat) : Nat := ((s.setSites n mask).map (s.setWords n bl)).sum

/-- The words of the previous entry used again, complemented in their data words when asked (R381); words it does not have are open. -/
def State.repeatWords (s : State) (n bl mask : Nat) (invert : Bool) : State × List Nat :=
  let old := (s.pb n).prev
  let need := s.entryWords n bl mask
  let all := old.take need ++ (List.range (need - old.length)).map fun i => s.freeNat i % 2 ^ 32
  let flip (l : List Nat) : List Nat := l.map fun w => 2 ^ 32 - 1 - w
  let cut := (s.setSites n mask).foldl (fun (acc : List Nat × List Nat) i =>
    let w := mapBytes (s.siteWidth n i) bl / 4
    let d := acc.2.take w
    let rest := (acc.2.drop w).take (s.setWords n bl i - w)
    (acc.1 ++ (if invert then flip d else d) ++ rest, acc.2.drop (s.setWords n bl i))) (([] : List Nat), all)
  (s.drew (need - old.length), cut.1)

/-- The entry at the head of the expected queue for a burst, when it is wholly there: its TAG and words; it leaves the queue (R382). -/
def State.takeEntry (s : State) (n bl mask : Nat) : Option (State × Nat × List Nat) :=
  match (s.pb n).expected with
  | [] => none
  | h :: q =>
    if bitOf h 31 then
      let (t, w) := s.repeatWords n bl mask (bitOf h 30)
      some (t.modPb n fun x => { x with expected := q, prev := w }, fld 8 12 h, w)
    else
      let need := s.entryWords n bl mask
      if need ≤ q.length then
        let w := q.take need
        some (s.modPb n fun x => { x with expected := q.drop need, prev := w }, fld 8 12 h, w)
      else none

/-- Late entries that have arrived are discarded (R382). -/
def State.dropLate (s : State) (n : Nat) : Nat → State
  | 0 => s
  | f + 1 =>
    match (s.pb n).owed with
    | [] => s
    | (bl, mask) :: l =>
      match s.takeEntry n bl mask with
      | none => s
      | some (t, _, _) => (t.modPb n fun x => { x with owed := l }).dropLate n f

/-- The expected port takes the words that stand at the heads of its four edge queues, strictly in turn, up to four in a c and 1,024
in the queue (R381, R411). -/
def State.takeExpected (s : State) (n : Nat) : Nat → State
  | 0 => s
  | f + 1 =>
    let x := s.pb n
    let k := (if n = 0 then 34 else 50) + x.expTurn
    match s.edgeOutQ k with
    | [] => s
    | w :: q =>
      if w.ready ≤ s.cyc ∧ x.expected.length < 1024 then
        let s := s.setEdgeOut k q
        let s := if s.pbOn n then s.modPb n fun x => { x with expected := x.expected ++ [w.data.toNat] } else s
        (s.modPb n fun x => { x with expTurn := (x.expTurn + 1) % 4, expAt := s.cyc }).takeExpected n f
      else s

/-- One c of the expected port. -/
def State.expectedEntry (s : State) (n : Nat) : State :=
  let s := if (s.pb n).expAt = s.cyc ∧ s.cyc ≠ 0 then s.advanceCyc (s.cyc + 1) else s
  (s.takeExpected n 4).dropLate n 1024

/-- The two words at the heads of SEQ_HI and SEQ_LO are paired into an instruction, at most one in a c; those of a channel that is
disabled or curled are discarded (R411). -/
def State.seqPair (s : State) (n : Nat) : State :=
  let k := if n = 0 then 32 else 48
  match s.edgeOutQ k, s.edgeOutQ (k + 1) with
  | h :: hq, l :: lq =>
    let s := s.advanceCyc (max (max h.ready l.ready) ((s.pb n).pairAt))
    if s.pbOn n then
      if (s.pb n).queue.length < 64 then
        ((s.setEdgeOut k hq).setEdgeOut (k + 1) lq).modPb n fun x =>
          { x with queue := x.queue ++ [h.data.toNat * 2 ^ 32 + l.data.toNat], pairAt := s.cyc + 1 }
      else s
    else (s.setEdgeOut k hq).setEdgeOut (k + 1) lq
  | _, _ => s

/-- Words pushed to the SEQ and EXP ports of a channel that is disabled or curled are discarded (R411, R351). -/
def State.dropProbePorts (s : State) (n : Nat) : State :=
  if s.pbOn n then s
  else s.each ((List.range 6).map ((if n = 0 then 32 else 48) + ·)) fun k t => if t.edgeOutQ k = [] then t else t.setEdgeOut k []

/-! Capture records (R385 to R387). -/

def State.capOf (s : State) (n i : Nat) : List (List Nat) := mapGet (fun _ => []) (s.pb n).cap i
def State.capPartOf (s : State) (n i : Nat) : List Nat := mapGet (fun _ => []) (s.pb n).capPart i
def State.heldOf (s : State) (n i : Nat) : List (List Nat) := mapGet (fun _ => []) (s.pb n).held i
def State.setCap (s : State) (n i : Nat) (l : List (List Nat)) : State :=
  s.modPb n fun x => { x with cap := mapSet (fun _ => []) x.cap i l }
def State.setCapPart (s : State) (n i : Nat) (l : List Nat) : State :=
  s.modPb n fun x => { x with capPart := mapSet (fun _ => []) x.capPart i l }
def State.setHeld (s : State) (n i : Nat) (l : List (List Nat)) : State :=
  s.modPb n fun x => { x with held := mapSet (fun _ => []) x.held i l }

/-- The words in a site's capture queue. -/
def State.capLevel (s : State) (n i : Nat) : Nat := (s.capPartOf n i).length + ((s.capOf n i).map List.length).sum

/-- The level has changed: QUEUE_MAX and SITE_STATUS[3]. -/
def State.capNote (s : State) (n i : Nat) : State :=
  (s.track (Obj.queueMax n i) (s.capLevel n i)).setBit (Obj.siteStatus n i) 3 (decide (32 < s.capLevel n i))

/-- Held records enter as soon as they fit (R391). -/
def State.capRefill (s : State) (n i : Nat) : Nat → State
  | 0 => s
  | f + 1 =>
    match s.heldOf n i with
    | [] => s
    | r :: l =>
      if s.capLevel n i + r.length ≤ 64 then (((s.setCap n i (s.capOf n i ++ [r])).setHeld n i l).capNote n i).capRefill n i f
      else s

/-- A record that is never dropped enters the queue, or its holding register. -/
def State.capHold (s : State) (n i : Nat) (r : List Nat) : State := (s.setHeld n i (s.heldOf n i ++ [r])).capRefill n i 4

/-- A MAP record enters the queue whole, or is dropped (R392). -/
def State.capMap (s : State) (n i : Nat) (r : List Nat) : State :=
  if s.heldOf n i = [] ∧ s.capLevel n i + r.length ≤ 64 then (s.setCap n i (s.capOf n i ++ [r])).capNote n i
  else ((s.bump (Obj.mapDropped n)).setBit (Obj.siteStatus n i) 2 true).raise (17 + 4 * n) (sourceWord n 0xFF)

/-- The header word of a record (R385). -/
def State.recHeader (s : State) (n i kind len tag : Nat) : Nat :=
  kind * 2 ^ 28 + i * 2 ^ 25 + len * 2 ^ 20 + tag * 2 ^ 8 + s.obj (Obj.comparedDbursts n i) % 256

/-- A NO_COMPARE record to a site (R387). -/
def State.noCompare (s : State) (n i tag reason : Nat) : State :=
  (s.bump (Obj.noCompareCount n)).capHold n i [s.recHeader n i 4 1 tag, reason]

/-- The words of a MAP record: the mask, and the enabled bytes packed four to a word (R386). -/
def mapWords (fails : List Byte) (all : Bool) : List Nat :=
  let on := (List.range fails.length).filter fun k => all || byteAt fails k != 0#8
  let bytes := on.map (byteAt fails)
  (on.map (2 ^ ·)).sum :: (List.range (ceilDiv bytes.length 4)).map fun j => leNat ((bytes.drop (4 * j)).take 4)

/-- The site-relative DQ and the beat of bit b of byte k (R383). -/
def mapDq (width k b : Nat) : Nat := match width with | 2 => 8 * (k % 2) + b | 1 => b | _ => b % 4
def mapBeat (width k b : Nat) : Nat := match width with | 2 => k / 2 | 1 => k | _ => 2 * k + b / 4

/-- The c in which a beat's strobe of a DQ of a site falls, and the time of it in units of `now` (R368, R369); `w` is the window. -/
def State.strobeAt (s : State) (n ck i dq beat w : Nat) : Nat × Nat :=
  let m := s.pbMult n
  let rt := (byteAt (s.actDom (Obj.roundTrip n)) i).toNat
  let o := clampUi m s.cclkHz (s.strobeOffset true n (16 * i + dq)) + w
  let half : Int := (4 * (ck + s.act (Obj.pbCl n)) + 2 * beat + 1 + 2 * rt : Nat)
  let den : Nat := 4 * m * phaseUnits * 5000
  let num : Int := half * (phaseUnits * 5000 : Nat) + o * (36 * m * s.cRate : Nat)
  ((num / den).toNat, s.timeAt num den)

/-- The fail bytes of a site (R384). -/
def State.failBytes (s : State) (n i bl : Nat) (samp second words : List Byte) : List Byte :=
  let w := s.siteWidth n i
  let len := mapBytes w bl
  let pm := s.act (Obj.pinMask n i)
  let dyn := s.obj (Obj.maskDynamic n) == 1
  let win := s.act (Obj.windowWidth n) != 0
  (List.range len).map fun k =>
    let e := byteAt words k
    let f := (byteAt samp k ^^^ e) ||| (if win then byteAt second k ^^^ e else 0#8)
    let masked : Byte := BitVec.ofNat 8 ((List.range 8).map fun b => b2n (bitOf pm (mapDq w k b)) * 2 ^ b).sum
    f &&& ~~~masked &&& ~~~(if dyn then byteAt words (len + k) else 0#8)

/-- The first failing beat of a map and its lowest failing DQ. -/
def firstFail (width : Nat) (fails : List Byte) : Option (Nat × Nat) :=
  let l := (List.range fails.length).flatMap fun k => (List.range 8).filterMap fun b =>
    if (byteAt fails k).toNat.testBit b then some (mapBeat width k b, mapDq width k b) else none
  l.foldl (fun o x => match o with
    | none => some x
    | some y => if x.1 < y.1 ∨ (x.1 = y.1 ∧ x.2 < y.2) then some x else some y) none

def sat32 (v : Nat) : Nat := min v (2 ^ 32 - 1)

/-- The counts of the burst in progress for a site (R386). -/
def State.countBurst (s : State) (n i bits : Nat) : State :=
  s.modPb n fun x =>
    let (a, b, c) := mapGet (fun _ => (0, 0, 0)) x.counts i
    { x with counts := mapSet (fun _ => (0, 0, 0)) x.counts i (sat32 (a + bits), sat32 (b + b2n (bits != 0)), sat32 (c + 1)) }

/-- The compare of one site of a data burst (R384 to R389). -/
def State.compareSite (s : State) (n i : Nat) (d : DBurst) (fails : List Byte) : State :=
  let w := s.siteWidth n i
  let bits : Nat := (fails.map fun b => popCount 8 b.toNat).sum
  let s := (s.bump (Obj.comparedDbursts n i)).countBurst n i bits
  let s := (s.addTo (Obj.failBits n i) bits).when (bits != 0) fun s => s.bump (Obj.failDbursts n i)
  let win := s.act (Obj.windowWidth n)
  let s : State := match firstFail w fails with
    | none => s
    | some (beat, dq) =>
      let (c, t) := s.strobeAt n d.ck i dq beat win
      let s := if bitOf (s.obj (Obj.failSites n)) i then
          s.modPb n fun x => { x with failHigh := true, failCyc := c, failUntil := max x.failUntil (t + s.obj (Obj.failHold n) * 36 / 5) }
        else s
      let s := s.setBit (Obj.siteStatus n i) 1 true
      if s.bit (Obj.siteStatus n i) 0 then
        let ts := s.tsAt (s.timeAt c 1)
        let at' := beat + dq * 256
        let s := ((s.setObj (Obj.firstFailTs n i) ts).setObj (Obj.firstFailAt n i) at').setBit (Obj.siteStatus n i) 0 false
        s.capHold n i [s.recHeader n i 2 4 d.tag, ts % 2 ^ 32, ts / 2 ^ 32, at', s.obj (Obj.comparedDbursts n i)]
      else s
  let mode : Nat := s.act (Obj.captureMap n i)
  if mode = 1 ∨ (mode = 2 ∧ bits ≠ 0) then
    let m := mapWords fails (mode == 1)
    s.capMap n i (s.recHeader n i 1 m.length d.tag :: m)
  else s

/-- The records at the END of a burst (R387): COUNT records, and first-fail armed again. -/
def State.burstRecords (s : State) (n : Nat) : State :=
  let s := s.each sites8 fun i s =>
    let s := if s.compares n i && s.act (Obj.countRecords n i) == 1 then
        let (a, b, c) := mapGet (fun _ => (0, 0, 0)) (s.pb n).counts i
        s.capHold n i [s.recHeader n i 3 3 0, a, b, c]
      else s
    if s.act (Obj.ffScope n i) = 1 then s.setBit (Obj.siteStatus n i) 0 true else s
  s.modPb n fun x => { x with counts := [] }

/-- Data bursts that are not compared, and the end of a burst, as soon as every burst ahead of them is done. -/
def State.flushDue (s : State) (n : Nat) : Nat → State
  | 0 => s
  | f + 1 =>
    match (s.pb n).due with
    | [] => s
    | d :: l =>
      let t := s.modPb n fun x => { x with due := l }
      if d.ending then (t.burstRecords n).flushDue n f
      else if d.reason ≠ 0 then
        (t.each (sites8.filter fun i => bitOf d.sites i) fun i t => t.noCompare n i d.tag d.reason).flushDue n f
      else s

def State.pushDue (s : State) (n : Nat) (d : DBurst) : State :=
  let s := s.modPb n fun x => { x with due := x.due ++ [d] }
  s.flushDue n (s.pb n).due.length

/-- The bytes of a site's set among the words of an entry. -/
def State.setBytesOf (s : State) (n i : Nat) (d : DBurst) : List Byte :=
  let before := (s.setSites n d.sites).filter fun j => decide (j < i) && s.obj (Obj.expectBroadcast n) == 0
  let skip := (before.map (s.setWords n d.bl)).sum
  ((d.words.drop skip).take (s.setWords n d.bl i)).flatMap (leBytes 4)

/-- A compared data burst has been strobed (R384): `samp` and `second` hold 32 bytes a site in the layout of R383. Its records enter the
queues 6 c after the c of its last strobe (R387). -/
def State.dburst (s : State) (n : Nat) (samp second : List Byte) : State :=
  match (s.pb n).due with
  | [] => s
  | d :: l =>
    let on := sites8.filter fun i => bitOf d.sites i
    let beats := match d.bl with | 0 => 16 | 1 => 8 | _ => 32
    let last := (on.flatMap fun i => (List.range (4 * 2 ^ s.siteWidth n i)).map fun dq =>
      (s.strobeAt n d.ck i dq (beats - 1) (s.act (Obj.windowWidth n))).1).foldl max 0
    let s := (s.advanceCyc (last + 6)).modPb n fun x => { x with due := l }
    let s := s.each on fun i s =>
      s.compareSite n i d (s.failBytes n i d.bl ((samp.drop (32 * i)).take 32) ((second.drop (32 * i)).take 32) (s.setBytesOf n i d))
    s.flushDue n (s.pb n).due.length

/-- The capture port of a site (R385). -/
def capPort (n i : Nat) : Nat := (if n = 0 then 38 else 54) + i

/-- The capture port delivers the next word, at most one in a c, when its edge queue has room (R385, R411). A header that is delivered
carries DROPPED. -/
def State.capDeliver (s : State) (n i : Nat) : State :=
  let k := capPort n i
  let at' := mapGet (fun _ => 0) (s.pb n).capAt i
  if 0 < s.edgeSpace k then
    match s.capPartOf n i, s.capOf n i with
    | w :: l, _ =>
      let s := s.advanceCyc at'
      let s := s.modPb n fun x => { x with capAt := mapSet (fun _ => 0) x.capAt i (s.cyc + 1) }
      (((s.setCapPart n i l).enterEdge k { data := BitVec.ofNat 32 w }).capNote n i).capRefill n i 4
    | [], (w :: l) :: q =>
      let s := s.advanceCyc at'
      let s := s.modPb n fun x => { x with capAt := mapSet (fun _ => 0) x.capAt i (s.cyc + 1) }
      let h := w + b2n (s.bit (Obj.siteStatus n i) 2) * 2 ^ 24
      let s := s.setBit (Obj.siteStatus n i) 2 false
      ((((s.setCap n i q).setCapPart n i l).enterEdge k { data := BitVec.ofNat 32 h }).capNote n i).capRefill n i 4
    | _, _ => s
  else s

/-- FAIL_HOLD ends in LIVE mode (R389). -/
def State.failHoldEnds (s : State) (n : Nat) : State :=
  if (s.pb n).failHigh ∧ s.obj (Obj.failMode n) = 0 then (s.advanceTo (s.pb n).failUntil).modPb n fun x => { x with failHigh := false }
  else s

/-- FAIL_CLEAR (R389, R391): a fail on the same c keeps the pin high. -/
def State.failClear (s : State) (n : Nat) : State :=
  let s := if s.obj (Obj.failMode n) = 1 ∧ (s.pb n).failCyc ≠ s.cyc then s.modPb n fun x => { x with failHigh := false } else s
  s.cmdDone (Obj.failClear n)

/-- FF_ARM (R387). -/
def State.armFirstFail (s : State) (n i : Nat) : State := (s.setBit (Obj.siteStatus n i) 0 true).cmdDone (Obj.ffArm n i)

/-! The instructions (R333 to R340). -/

/-- A burst may start: the channel is IDLE with no calibration due, and the queue holds SEQ_PREFILL instructions or an END (R333). -/
def State.burstReady (s : State) (n : Nat) : Bool :=
  let q := (s.pb n).queue
  s.pbIs n pbIdle && ((s.calWanted n).isNone || (s.pb n).calJust) && !q.isEmpty &&
    (decide (s.obj (Obj.seqPrefill n) ≤ q.length) || q.any fun w => seqOp w == .fin)

/-- A key of a channel's span whose shadow acts at a burst. -/
def probeKey (n k : Nat) : Bool := k / 0x10000 == 0x38 + n

/-- A burst starts (R333): the shadows that wait for it act. -/
def State.burstStart (s : State) (n : Nat) : State :=
  if s.burstReady n then
    let s := s.dropShadows fun h => h.bound == .burst && probeKey n h.key
    let s := ((s.setObj (Obj.pbState n) pbRunning).setBit (Obj.seqStatus n) 0 true).bump (Obj.bursts n)
    let s := s.when (!s.offsetsFit true n) fun s => s.bump (Obj.edgeClamps n)
    s.modPb n fun x => { x with last := (s.cyc + pbPipe) * s.pbMult n - 1, late := false, calJust := false }
  else s

/-- The burst has ended at a CK: the channel is IDLE (R333). -/
def State.burstEnds (s : State) (n ck : Nat) : State :=
  let s := s.advanceTo (s.ckTime n ck)
  let s := (s.setObj (Obj.pbState n) pbIdle).setBit (Obj.seqStatus n) 0 false
  s.pushDue n { ending := true }

/-- A malformed instruction is executed as END and the queue behind it discarded (R340). -/
def State.seqMalformed (s : State) (n : Nat) : State :=
  let (s, ck) := s.seqTake n 0
  let s := ((s.modPb n fun x => { x with queue := [] }).bump (Obj.malformed n)).setBit (Obj.seqStatus n) 3 true
  s.burstEnds n ck

/-- The data burst of a COMMAND (R334, R337, R339). `blocked` says the guard blocked it. -/
def State.dataBurst (s : State) (n w ck : Nat) (blocked dataReady : Bool) (mrr : List Byte) : State :=
  let tag := fld 28 12 w
  let bl := fld 56 2 w
  let mask := fld 48 8 w
  let bits (l : List Nat) : Nat := (l.map (2 ^ ·)).sum
  match fld 59 2 w with
  | 1 =>
    if blocked || dataReady then s
    else (s.bump (Obj.dataUnderruns n)).pushDue n { ck := ck, tag := tag, bl := bl, sites := bits (s.sitesOf n mask), reason := 4 }
  | 2 =>
    let on := bits ((s.sitesOf n mask).filter (s.compares n))
    if on = 0 then s
    else
      let s := s.dropLate n 1024
      let d : DBurst := { ck := ck, tag := tag, bl := bl, sites := on }
      match (if (s.pb n).owed = [] then s.takeEntry n bl on else none) with
      | none => (s.modPb n fun x => { x with owed := x.owed ++ [(bl, on)] }).pushDue n { d with reason := if blocked then 1 else 2 }
      | some (t, tg, words) => t.pushDue n { d with reason := if blocked then 1 else if tg = tag then 0 else 3, words := words }
  | 3 => if blocked then s else s.mrrResult n mask mrr
  | _ => s

/-- A COMMAND instruction (R334 to R343): the guard decides, CA and CS_n are driven as given, and its data burst follows. -/
def State.seqCommand (s : State) (n w : Nat) (dataReady : Bool) (mrr : List Byte) : State :=
  let (s, ck) := s.seqTake n (fld 40 8 w)
  let ca1 := fld 0 14 w
  let len := fld 61 1 w
  let cmds := (s.sitesOf n (fld 48 8 w)).map fun i => guardCmd (caClass ca1 (bitOf (s.pb n).lowPower i)) i ca1 ck
  let (s, at') := s.guard n cmds ck (bitOf w 58)
  match at' with
  | none => (s.setLast n (ck + len)).dataBurst n w ck true dataReady mrr
  | some ck =>
    let s := ((s.remember n cmds ck).setLast n (ck + len)).bump (Obj.commands n)
    let s := s.modPb n fun x => { x with driven := some (ca1, fld 14 14 w, fld 48 8 w) }
    s.dataBurst n w ck false dataReady mrr

/-- A WAIT instruction (R334): its count of deselect CK. -/
def State.seqWait (s : State) (n w : Nat) : State :=
  let (s, ck) := s.seqTake n 0
  s.setLast n (ck + fld 0 32 w - 1)

/-- A CONTROL instruction but END, at its CK (R334). -/
def State.seqControl (s : State) (n w : Nat) (op : SeqOp) : State :=
  let (s, ck) := s.seqTake n (fld 40 8 w)
  let s := s.setLast n ck
  match op with
  | .resetAssert => s.modPb n fun x => { x with resetN := some false }
  | .resetRelease => s.modPb n fun x => { x with resetN := some true }
  | .mark =>
    let e := leBytes 8 (s.tsAt (s.ckTime n ck)) ++ leBytes 4 (fld 0 32 w) ++ leBytes 4 (s.obj (Obj.bursts n))
    (s.patchDom (Obj.markLog n) (16 * (s.obj (Obj.marksWritten n) % 16)) e).wrapBump (Obj.marksWritten n)
  | .ckStop => s.setBit (Obj.seqStatus n) 1 true
  | .ckStart => s.setBit (Obj.seqStatus n) 1 false
  | _ => s

/-- An END instruction (R333, R334). -/
def State.seqEnd (s : State) (n w : Nat) : State :=
  let (s, ck) := s.seqTake n (fld 40 8 w)
  (s.setLast n ck).burstEnds n ck

/-- The instruction at the head, when it is of the kind `op`; a malformed one is executed as END whichever was looked for. -/
def State.sequence (s : State) (n : Nat) (op : SeqOp) (dataReady : Bool) (mrr : List Byte) : State :=
  match s.seqHead n with
  | none => s
  | some (o, w) =>
    if o = .malformed then s.seqMalformed n
    else if o = op then
      match op with
      | .command => s.seqCommand n w dataReady mrr
      | .wait => s.seqWait n w
      | .fin => s.seqEnd n w
      | _ => s.seqControl n w op
    else s

/-- The next instruction is not at the queue head by its c (R339): with none there, the c of one with no GAP. -/
def State.underrun (s : State) (n : Nat) : State :=
  if s.pbIs n pbRunning ∧ (s.pb n).cal = none ∧ (s.pb n).mr = none ∧ (s.pb n).queue = [] then
    (s.advanceCyc (((s.pb n).last + 1) / s.pbMult n - pbPipe + 1)).countUnderrun n
  else s

/-- The context that feeds the sequencer is aborted (R125, R354): the queue is discarded and the burst ends as at END, without a curl. -/
def State.seqAbort (s : State) (n : Nat) : State :=
  let s := s.modPb n fun x => { x with queue := [] }
  if s.pbIs n pbRunning ∧ (s.pb n).cal = none ∧ (s.pb n).mr = none then s.burstEnds n ((s.pb n).last + 1) else s

/-- The context that feeds the expected port is aborted: its queue is emptied (R391). -/
def State.expectAbort (s : State) (n : Nat) : State := s.modPb n fun x => { x with expected := [], owed := [] }

/-- The context that drains a capture port is aborted: its records are discarded and counted (R391). -/
def State.captureAbort (s : State) (n i : Nat) : State :=
  let k := (s.capOf n i).length + (s.heldOf n i).length + b2n (s.capPartOf n i != [])
  ((((s.addTo (Obj.recordsDiscarded n) k).setCap n i []).setHeld n i []).setCapPart n i []).capNote n i

end Sys2Proof.Machine
end

