-- ==== Sys2Proof/Machine/Fabric.lean ====
section
/-! DEFINITION. The Cyumond fabric: tiles, contexts and their instructions, the mesh, the edge ports, the FE points and the stream-port
service, traps and the stall watchdog (chapter 13). -/

namespace Sys2Proof.Machine

/-! Tiles and contexts. -/

def State.tile (s : State) (t : Nat) : Tile := mapGet (fun _ => {}) s.tiles t
def State.modTile (s : State) (t : Nat) (f : Tile → Tile) : State := { s with tiles := mapSet (fun _ => {}) s.tiles t (f (s.tile t)) }
def Tile.ctx (x : Tile) (i : Nat) : Ctx := if i = 0 then x.fg else x.bg
def Tile.setCtx (x : Tile) (i : Nat) (c : Ctx) : Tile := if i = 0 then { x with fg := c } else { x with bg := c }
def State.ctx (s : State) (t i : Nat) : Ctx := (s.tile t).ctx i
def State.modCtx (s : State) (t i : Nat) (f : Ctx → Ctx) : State := s.modTile t fun x => x.setCtx i (f (x.ctx i))
def tiles256 : List Nat := List.range 256

/-- How many tiles of a context are in a run state. -/
def State.tilesIn (s : State) (i run : Nat) : Nat := (s.tiles.filter fun e => (e.2.ctx i).run == run).length
/-- The context is RUNNING on some tile. -/
def State.ctxRuns (s : State) (i : Nat) : Bool := decide (0 < s.tilesIn i 1)
def State.ctxTrapped (s : State) (i : Nat) : Bool := decide (0 < s.tilesIn i 4)
/-- The tiles of a context that are not NOT_LOADED. -/
def State.tilesLoaded (s : State) (i : Nat) : Nat := (s.tiles.filter fun e => (e.2.ctx i).run != 0).length

/-- FAB_STATE as it reads (R424). -/
def State.fabStateWord (s : State) : Nat :=
  let half (i : Nat) : Nat := b2n (s.ctxRuns i) + 2 * b2n (s.ctxTrapped i) + 4 * b2n (0 < s.tilesLoaded i)
  half 0 + 16 * half 1

/-! Edge ports (R409, R410). -/

/-- A probe-side port of a part without probe channels (R26, R430). -/
def probePort (k : Nat) : Bool := (decide (32 ≤ k) && decide (k ≤ 45)) || (decide (48 ≤ k) && decide (k ≤ 61))

/-- EDGE_BIND of a port (R425). -/
def State.bindOf (s : State) (k : Nat) : Nat := mapGet (fun _ => 0) s.bind k
def State.setBind (s : State) (k v : Nat) : State := { s with bind := mapSet (fun _ => 0) s.bind k v }
/-- The port is bound to a context. -/
def State.bound (s : State) (k i : Nat) : Bool := s.bindOf k == 1 + 2 * i
/-- The ports bound to a context. -/
def State.portsOf (s : State) (i : Nat) : List Nat := (s.bind.filter fun e => e.2 == 1 + 2 * i).map (·.1)

/-- The port an edge operand reaches for a context, none where R410 traps. -/
def State.edgeFor (s : State) (t i o : Nat) : Option Nat :=
  match edgePort t (o - 28) with
  | some k => if s.bound k i && !(s.part == .ft4016 && probePort k) then some k else none
  | none => none

/-! FE commands (R412 to R415). -/

def feOp (h : Nat) : Nat := fld 28 4 h
def feLines (h : Nat) : Nat := fld 24 2 h + 1

/-- The words of a command, as far as the words that have come say. -/
def feNeed (l : List EdgeWord) : Nat :=
  let w (i : Nat) : Nat := ((l[i]?).map fun x => x.data.toNat).getD 0
  let h := w 0
  match feOp h with
  | 1 => 3
  | 2 => 3 + feLines h * 16
  | 3 =>
    if l.length < 5 then 5
    else 5 + ((List.range 16).filter fun k => fld (4 * k) 4 (w 3 + w 4 * 2 ^ 32) != 0).length
  | 4 => 1
  | 5 => 5
  | 6 => 3
  | _ => 1

/-- The words of a command that must have reached the port before it is presented (R413). -/
def feHead (l : List EdgeWord) : Nat :=
  match feOp (((l[0]?).map fun x => x.data.toNat).getD 0) with
  | 2 => 3
  | 3 => 5
  | _ => feNeed l

/-- The whole commands at the front of a stream of words, and what is left. -/
def feSplit : Nat → List EdgeWord → List (List EdgeWord) × List EdgeWord
  | 0, l => ([], l)
  | n + 1, l =>
    if l.isEmpty || decide (l.length < feNeed l) then ([], l)
    else
      let (a, b) := feSplit n (l.drop (feNeed l))
      (l.take (feNeed l) :: a, b)

/-- The data words that an open write of an FE port still takes. -/
def State.feOwed (s : State) (e : Nat) : Nat := ((mapGet (fun _ => none) s.feOpen e).map Prod.snd).getD 0

/-- The words of an FE port that belong to commands not presented yet: those behind the data of an open write. -/
def State.feWords (s : State) (e : Nat) : List EdgeWord := (s.edgeOutQ e).drop (s.feOwed e)

/-- A word breaks the protocol as the last of the words of its command (R412, R415): `dup` says that a non-posted TAG or the count of 64
is already in use. -/
def feBreak (l : List EdgeWord) (dup : Bool) : Bool :=
  match l.getLast? with
  | none => false
  | some x =>
    let h := ((l[0]?).map fun y => y.data.toNat).getD 0
    let v := x.data.toNat
    let posted := bitOf h 26
    match l.length - 1 with
    | 0 =>
      let op := feOp h
      x.poison || op == 0 || decide (6 < op) || fld 0 16 h != 0 || (op != 2 && op != 3 && (posted || bitOf h 27)) ||
        (op != 1 && op != 2 && feLines h != 1) || (dup && !posted)
    | 1 => x.poison || v % 64 != 0
    | 2 => x.poison || decide (255 < v)
    | 3 => (feOp h == 3 && x.poison) || (feOp h == 5 && (x.poison || v == 0 || decide (2 ^ 24 ≤ v)))
    | 4 => (feOp h == 3 && x.poison) || (feOp h == 5 && (x.poison || v == 0 || decide (1000 < v)))
    | _ => false

/-- The non-posted commands of an FE point not answered yet (R426). -/
def State.feOutstanding (s : State) (e : Nat) : List Req := s.outstanding (rqFe e)

/-- The TAG of a header is in use, or 64 non-posted commands are outstanding (R113, R412). -/
def State.feDup (s : State) (e h : Nat) : Bool :=
  let queued := (feSplit 64 (s.feWords e)).1.filterMap fun l =>
    match l with
    | x :: _ => if bitOf x.data.toNat 26 then none else some (fld 16 8 x.data.toNat)
    | [] => none
  let tags := (s.feOutstanding e).map Req.tag ++ queued
  tags.contains (fld 16 8 h) || decide (64 ≤ tags.length)

/-! Pushing words (R406, R411, R415, R417). -/

def wordAt (l : List EdgeWord) (i : Nat) : Nat := ((l[i]?).map fun x => x.data.toNat).getD 0

/-- The words of the response at the front of a stream port's outbound words (R417). -/
def respNeed (l : List EdgeWord) : Nat :=
  let h := wordAt l 0
  if l.length < 2 then 2 else if fld 28 4 h = 1 then 2 + 16 * (fld 10 2 h + 1) else 2

/-- The words that the assembly of up to n responses takes from a stream port's outbound words: the port assembles four (R417). -/
def respWords : Nat → List EdgeWord → Nat
  | 0, _ => 0
  | n + 1, l => if l.length < respNeed l then l.length else respNeed l + respWords n (l.drop (respNeed l))

/-- The port has room for one more word. -/
def State.pushRoom (s : State) (k : Nat) : Bool :=
  let q := s.edgeOutQ k
  if s.portBad.contains k then true
  else if k < 16 then
    let w := s.feWords k
    decide (w.length < feNeed w + 4) || w.isEmpty
  else if k < 32 then decide (q.length < respWords 4 q + 4)
  else if probePort k && !s.pbOn (if k < 48 then 0 else 1) && decide (k % 16 < 6) then true
  else decide (q.length < 4)

/-- A word pushed to a port: the trap cause it brings, 0 for none (R411, R415). -/
def State.pushTrap (s : State) (k : Nat) (x : EdgeWord) : Nat :=
  if s.portBad.contains k then 0
  else if k < 16 ∧ (s.edgeOutQ k).length < s.feOwed k then 0
  else if k < 16 then
    let tail := (feSplit 64 (s.feWords k)).2
    if feBreak (tail ++ [x]) (tail.isEmpty && s.feDup k x.data.toNat) then 4 else 0
  else if x.poison && !(decide (38 ≤ k) && decide (k ≤ 45)) && !(decide (54 ≤ k) && decide (k ≤ 61)) then 5
  else 0

/-- The word enters the outbound queue, and reaches its port two c later (R406); a port that discards takes it away. -/
def State.push (s : State) (k : Nat) (x : EdgeWord) : State :=
  if s.portBad.contains k then s
  else if probePort k && decide (k % 16 < 6) && !s.pbOn (if k < 48 then 0 else 1) then s
  else
    let at' := match (s.edgeOutQ k).getLast? with | some l => max (s.cyc + 2) (l.ready + 1) | none => s.cyc + 2
    s.setEdgeOut k (s.edgeOutQ k ++ [({ x with ready := at' } : EdgeWord)])

/-! Instruction words (R400 to R402). -/

def iOp (w : Nat) : Nat := fld 26 6 w
def iD (w : Nat) : Nat := fld 21 5 w
def iA (w : Nat) : Nat := fld 16 5 w
def iB (w : Nat) : Nat := fld 11 5 w
def iImm (w : Nat) : Nat := fld 0 16 w

/-- An operand may be read; written; named as a route register; pushed to. -/
def readable (o : Nat) : Bool := decide (o < 20) || (decide (24 ≤ o) && decide (o ≤ 29))
def isRoute (o : Nat) : Bool := decide (20 ≤ o) && decide (o ≤ 23)
def isEdge (o : Nat) : Bool := o == 28 || o == 29
def isInbox (o : Nat) : Bool := decide (16 ≤ o) && decide (o ≤ 19)
def writable (o : Nat) : Bool := decide (o < 16) || isRoute o || isEdge o

/-- The classes of opcodes: their fields (R400, R402). -/
inductive Form | none' | alu | alu1 | imm | shift | lui | branch | jump | dbnz | waitc | halt | trap | sendf | rflg | setrt | setrtr | reserved
  deriving DecidableEq, Repr

def formOf (op : Nat) : Form :=
  if op = 0 then .none'
  else if op ≤ 0x13 then .alu
  else if op ≤ 0x15 then .alu1
  else if op = 0x27 then .lui
  else if 0x24 ≤ op ∧ op ≤ 0x26 then .shift
  else if 0x20 ≤ op ∧ op ≤ 0x28 then .imm
  else match op with
    | 0x30 => .branch | 0x31 => .branch | 0x32 => .jump | 0x33 => .dbnz | 0x34 => .waitc | 0x35 => .halt
    | 0x36 => .trap | 0x37 => .sendf | 0x38 => .rflg | 0x39 => .setrt | 0x3A => .setrtr | _ => .reserved

/-- The instruction traps ILLEGAL (R421). -/
def illegal (w : Nat) : Bool :=
  let d := iD w
  let a := iA w
  match formOf (iOp w) with
  | .none' => fld 0 11 w != 0
  | .alu => fld 0 11 w != 0 || !writable d || !readable a || !readable (iB w)
  | .alu1 => fld 0 16 w != 0 || !writable d || !readable a
  | .imm => !writable d || !readable a
  | .shift => fld 5 11 w != 0 || !writable d || !readable a
  | .lui => a != 0 || !writable d
  | .branch => d != 0 || fld 6 10 w != 0 || !readable a
  | .jump => d != 0 || a != 0 || fld 6 10 w != 0
  | .dbnz => a != 0 || fld 6 10 w != 0 || d == 0 || decide (15 < d)
  | .waitc => d != 0 || a != 0 || iImm w == 0
  | .halt => fld 0 11 w != 0
  | .trap => d != 0 || a != 0
  | .sendf => !(isRoute d || isEdge d) || !readable a
  | .rflg => a != 0 || !writable d || !(isInbox (fld 0 5 w) || isEdge (fld 0 5 w))
  | .setrt => !isRoute d
  | .setrtr => !isRoute d || !readable a || fld 0 11 w != 0
  | .reserved => true

/-- The operands an instruction reads, in order. -/
def readsOf (w : Nat) : List Nat :=
  match formOf (iOp w) with
  | .alu => [iA w, iB w]
  | .alu1 | .imm | .shift | .branch | .sendf | .setrtr => [iA w]
  | .dbnz => [iD w]
  | _ => []

/-- The operand an instruction writes. -/
def writesOf (w : Nat) : Option Nat :=
  match formOf (iOp w) with
  | .alu | .alu1 | .imm | .shift | .lui | .sendf | .rflg | .dbnz => some (iD w)
  | _ => none

/-- Every operand an instruction names: RFLG names the one whose last word it asks about. -/
def operandsOf (w : Nat) : List Nat := readsOf w ++ (writesOf w).toList ++ (if formOf (iOp w) = .rflg then [fld 0 5 w] else [])

/-- The words a context can pop from an operand, oldest first, with the c from which each can be popped. -/
def State.popsOf (s : State) (t i o : Nat) : List Nat :=
  if isInbox o then (((s.ctx t i).inboxes.getD (o - 16) []).map InWord.ready)
  else match s.edgeFor t i o with
    | some k => (s.edgeInQ k).map EdgeWord.ready
    | none => []

/-- The earliest c at which a context's next instruction can issue, from a c on: none while it stalls (R399). -/
def State.readyAt (s : State) (t i : Nat) : Option Nat :=
  let x := s.ctx t i
  if x.run ≠ 1 then none
  else
    let w := (x.mem.getD x.pc 0).toNat
    let base := max (max s.cyc (s.tile t).next) x.wait
    let rs := readsOf w
    if illegal w || (operandsOf w).any (fun o => isEdge o && (s.edgeFor t i o).isNone) then some base
    else
      let popped := rs.filter fun o => isInbox o || isEdge o
      let need (o : Nat) : Nat := (popped.filter (· == o)).length
      let short := popped.any fun o => decide ((s.popsOf t i o).length < need o)
      let room := match writesOf w with
        | some o =>
          if isRoute o then decide ((((s.tile t).queues.getD 4 []).length) < 4)
          else if isEdge o then ((s.edgeFor t i o).map s.pushRoom).getD true else true
        | none => true
      if short || !room then none
      else some (popped.foldl (fun b o => ((s.popsOf t i o).take (need o)).foldl max b) base)

/-- The core PLL is relocking: no tile issues (R420). -/
def State.relocking (s : State) : Bool := s.obj Obj.opState == 4

/-- The context whose instruction a tile issues next, FG before BG, and the c (R399). -/
def State.issuer (s : State) (t : Nat) : Option (Nat × Nat) :=
  if s.relocking then none
  else match s.readyAt t 0, s.readyAt t 1 with
    | some c, some d => if c ≤ d then some (0, c) else some (1, d)
    | some c, none => some (0, c)
    | none, some d => some (1, d)
    | none, none => none

/-! Stops and traps (R421, R434, R444). -/

/-- A tile's context stops: the WAITC count that remains is kept. -/
def Ctx.stop (x : Ctx) (c : Nat) : Ctx := if x.run = 1 then { x with run := 3, wait := x.wait - (c + 1) } else x

/-- STOP of a context (R434). -/
def State.stopCtx (s : State) (i : Nat) : State :=
  { s with tiles := s.tiles.map fun e : Nat × Tile => (e.1, e.2.setCtx i ((e.2.ctx i).stop s.cyc)) }

/-- START of a context (R434): its STOPPED tiles run from the next c; its ports take words again. -/
def State.startCtx (s : State) (i : Nat) : State :=
  { s with
    tiles := s.tiles.map fun e : Nat × Tile =>
      (e.1, e.2.setCtx i (let x := e.2.ctx i; if x.run = 3 then { x with run := 1, wait := s.cyc + 1 + x.wait, since := s.cyc + 1 } else x))
    portBad := s.portBad.filter fun k => !s.bound k i }

/-- A selected event of a context calls for a fault drain (R444): 0 a trap, 1 a CHECK, 2 a stall. -/
def State.autoDrain (s : State) (i event : Nat) : State :=
  if s.bit (Obj.autoDrain i) event then
    let s := s.stopCtx i
    if s.drainWait.contains i then s else { s with drainWait := s.drainWait ++ [i] }
  else s

/-- A trap of a context on a tile (R421). -/
def State.trap (s : State) (t i cause imm operand pc : Nat) : State :=
  let s := s.modCtx t i fun x => { x with run := 4, wait := 0, trapCause := cause, trapImm := imm, pc := pc }
  let word := t % 16 + t / 16 * 16 + i * 256 + pc * 2 ^ 10 + cause * 2 ^ 16 + operand * 2 ^ 24 + imm * 2 ^ 32
  let s := ((s.setObj Obj.lastTrap word).setObj Obj.lastTrapTs s.ts).bump Obj.trapCount
  if cause = 0x10 then
    (((s.bump Obj.checkErrors).setBit Obj.fabFaultCause 2 true).raise 27 (sourceWord t 2)).autoDrain i 1
  else ((s.setBit Obj.fabFaultCause 0 true).raise 24 (sourceWord t 0)).autoDrain i 0

/-! Operands. -/

/-- A value read: the word, LAST and POISON. -/
structure Val where
  v : Word
  last : Bool := false
  poison : Bool := false
  deriving DecidableEq, Repr

/-- The value of an operand, taking an inbox or edge word (R401, R403). -/
def State.readOp (s : State) (t i o : Nat) : State × Val :=
  let x := s.ctx t i
  let flag (s : State) (j : Nat) (l p : Bool) : State := s.modCtx t i fun y => { y with flags := y.flags.set j (b2n l + 2 * b2n p) }
  if o = 0 then (s, ⟨0, false, false⟩)
  else if o < 16 then (s, ⟨mapGet (fun _ => 0) x.regs o, false, bitOf x.poison o⟩)
  else if isInbox o then
    match x.inboxes.getD (o - 16) [] with
    | [] => (s, ⟨0, false, false⟩)
    | w :: q =>
      let s := s.modCtx t i fun y => { y with inboxes := y.inboxes.set (o - 16) q }
      ((flag s (o - 16) w.last w.poison).headMoves t (8 + 4 * i + (o - 16)), ⟨w.data, w.last, w.poison⟩)
  else if isEdge o then
    match s.edgeFor t i o with
    | none => (s, ⟨0, false, false⟩)
    | some k =>
      match s.edgeInQ k with
      | [] => (s, ⟨0, false, false⟩)
      | w :: q =>
        let s := (s.setEdgeIn k q).fillEdge k
        let s := if 46 ≤ k ∧ w.req.isSome then { s with mbPops := s.mbPops ++ [w] } else s
        ((flag s (o - 24) w.last w.poison).headMoves t (5 + (o - 28)), ⟨w.data, w.last, w.poison⟩)
  else
    let v : Nat := match o with
      | 24 => i
      | 25 => t % 16 + t / 16 * 16
      | 26 => s.cyc - s.wheelBase
      | _ => s.ts
    (s, ⟨BitVec.ofNat 32 v, false, false⟩)

/-- The result of a write: the state, or the trap it brings. -/
inductive Wrote
  | ok (s : State)
  | trap (cause operand : Nat)

/-- A value written to an operand: a register, the mesh, or a port (R401, R404). -/
def State.writeOp (s : State) (t i o : Nat) (v : Val) : Wrote :=
  if o = 0 then .ok s
  else if o < 16 then
    .ok (s.modCtx t i fun x => { x with regs := mapSet (fun _ => 0) x.regs o v.v, poison := withBit x.poison o v.poison })
  else if isRoute o then
    let dest := (s.ctx t i).routes.getD (o - 20) 0 % 2 ^ 11
    .ok (s.modTile t fun x => { x with
      queues := x.queues.set 4 (x.queues.getD 4 [] ++ [({ data := v.v, last := v.last, poison := v.poison, dest := dest, ready := s.cyc + 1 } : Flit)]) })
  else match s.edgeFor t i o with
    | none => .trap 3 o
    | some k =>
      let x : EdgeWord := { data := v.v, last := v.last, poison := v.poison, src := (s.ctx t i).pc }
      let c := s.pushTrap k x
      if c = 0 then .ok (s.push k x) else .trap c o

/-- The instruction is done: the PC moves on, and past PC 63 without a branch traps PC_END (R421). -/
def State.pcNext (s : State) (t i : Nat) : State :=
  let pc := (s.ctx t i).pc
  if pc = 63 then s.trap t i 6 0 0 63 else s.modCtx t i fun x => { x with pc := pc + 1 }

/-- A port that discards from now on, after a break of the FE protocol (R415). -/
def State.portBreaks (s : State) (t i o : Nat) : State :=
  match s.edgeFor t i o with
  | some k =>
    let s := { s with portBad := s.portBad ++ [k] }
    if k < 16 then
      let tail := (feSplit 64 (s.feWords k)).2
      ((s.setEdgeOut k ((s.edgeOutQ k).take ((s.edgeOutQ k).length - tail.length)))).bump (Obj.feProtocolErrors k)
    else s
  | none => s

/-- A write that completes the instruction, or traps it with nothing else done: `s0` is the state before it. -/
def State.finishWrite (s0 s : State) (t i o : Nat) (v : Val) : State :=
  match s.writeOp t i o v with
  | .ok s => s.pcNext t i
  | .trap c o =>
    let s0 := if c = 4 then s0.portBreaks t i o else s0
    s0.trap t i c 0 o (s0.ctx t i).pc

/-- The tile issues its next instruction, when that is the one the command names; a parity error on what it fetches or reads traps
CHECK, and a word or operand that R400 to R402 forbid traps ILLEGAL. `act` is what a legal one does, given the state at the c
of issue, the context and the instruction word. -/
def State.issue (s : State) (t : Nat) (is : Nat → Bool) (parity : Bool) (act : State → Nat → Nat → State) : State :=
  match s.issuer t with
  | none => s
  | some (i, c) =>
    let x := s.ctx t i
    let w := (x.mem.getD x.pc 0).toNat
    if is (iOp w) then
      let s := (s.advanceCyc c).modTile t fun y => { y with next := c + 1 }
      if parity then s.trap t i 0x10 0 0 x.pc
      else if illegal w then s.trap t i 1 0 0 x.pc
      else
        match (operandsOf w).find? fun o => isEdge o && (s.edgeFor t i o).isNone with
        | some o => s.trap t i 3 0 o x.pc
        | none => act s i w
    else s

/-- An instruction of two operands: d = f a b (R402, R403). -/
def State.issueAlu (s : State) (t op : Nat) (parity : Bool) (f : Word → Word → Word) : State :=
  s.issue t (· == op) parity fun s i w =>
    let (s1, a) := s.readOp t i (iA w)
    let (s2, b) := s1.readOp t i (iB w)
    s.finishWrite s2 t i (iD w) ⟨f a.v b.v, false, a.poison || b.poison⟩

/-- An instruction of one operand and perhaps an immediate: d = f a imm16. -/
def State.issueOne (s : State) (t op : Nat) (parity : Bool) (f : Word → Nat → Word) : State :=
  s.issue t (· == op) parity fun s i w =>
    let (s1, a) := s.readOp t i (iA w)
    s.finishWrite s1 t i (iD w) ⟨f a.v (iImm w), false, a.poison⟩

/-- A value formed without an operand: LUI, RFLG. -/
def State.issueVal (s : State) (t op : Nat) (parity : Bool) (f : Ctx → Nat → Word) : State :=
  s.issue t (· == op) parity fun s i w => s.finishWrite s t i (iD w) ⟨f (s.ctx t i) w, false, false⟩

/-- A branch on a value: to its target when `take` holds; a poisoned value traps (R402, R421). -/
def State.issueBranch (s : State) (t op : Nat) (parity : Bool) (take : Word → Bool) : State :=
  s.issue t (· == op) parity fun s i w =>
    let (s1, a) := s.readOp t i (iA w)
    if a.poison then s.trap t i 5 0 (iA w) (s.ctx t i).pc
    else if take a.v then s1.modCtx t i fun x => { x with pc := fld 0 6 w }
    else s1.pcNext t i

/-- JMP. -/
def State.issueJump (s : State) (t : Nat) (parity : Bool) : State :=
  s.issue t (· == 0x32) parity fun s i w => s.modCtx t i fun x => { x with pc := fld 0 6 w }

/-- DBNZ. -/
def State.issueDbnz (s : State) (t : Nat) (parity : Bool) : State :=
  s.issue t (· == 0x33) parity fun s i w =>
    let x := s.ctx t i
    if bitOf x.poison (iD w) then s.trap t i 5 0 (iD w) x.pc
    else
      let v := mapGet (fun _ => 0) x.regs (iD w) - 1
      let s := s.modCtx t i fun y => { y with regs := mapSet (fun _ => 0) y.regs (iD w) v }
      if v ≠ 0 then s.modCtx t i fun y => { y with pc := fld 0 6 w } else s.pcNext t i

/-- WAITC: the context issues nothing for imm16 c. -/
def State.issueWaitc (s : State) (t : Nat) (parity : Bool) : State :=
  s.issue t (· == 0x34) parity fun s i w => (s.modCtx t i fun x => { x with wait := s.cyc + 1 + iImm w }).pcNext t i

/-- The WAITC count of a context runs out. -/
def State.waitcEnds (s : State) (t i : Nat) : State :=
  let x := s.ctx t i
  if x.run = 1 ∧ s.cyc < x.wait then s.advanceCyc x.wait else s

/-- NOP. -/
def State.issueNop (s : State) (t : Nat) (parity : Bool) : State := s.issue t (· == 0) parity fun s i _ => s.pcNext t i

/-- HALT: the PC stays at it. -/
def State.issueHalt (s : State) (t : Nat) (parity : Bool) : State :=
  s.issue t (· == 0x35) parity fun s i _ => s.modCtx t i fun x => { x with run := 2, wait := 0 }

/-- TRAP; a word of a reserved opcode traps ILLEGAL in its place. -/
def State.issueTrap (s : State) (t : Nat) (parity : Bool) : State :=
  s.issue t (fun op => op == 0x36 || formOf op == .reserved) parity fun s i w => s.trap t i 2 (iImm w) 0 (s.ctx t i).pc

/-- SENDF. -/
def State.issueSendf (s : State) (t : Nat) (parity : Bool) : State :=
  s.issue t (· == 0x37) parity fun s i w =>
    let (s1, a) := s.readOp t i (iA w)
    s.finishWrite s1 t i (iD w) ⟨a.v, bitOf w 0, a.poison || bitOf w 1⟩

/-- SETRT and SETRTR. -/
def State.issueSetrt (s : State) (t : Nat) (parity : Bool) : State :=
  s.issue t (· == 0x39) parity fun s i w =>
    (s.modCtx t i fun x => { x with routes := x.routes.set (iD w - 20) (iImm w) }).pcNext t i
def State.issueSetrtr (s : State) (t : Nat) (parity : Bool) : State :=
  s.issue t (· == 0x3A) parity fun s i w =>
    let (s1, a) := s.readOp t i (iA w)
    if a.poison then s.trap t i 5 0 (iA w) (s.ctx t i).pc
    else (s1.modCtx t i fun x => { x with routes := x.routes.set (iD w - 20) (a.v.toNat % 65536) }).pcNext t i

/-! The results of R402. -/

/-- The amount of a shift: the low five bits. -/
def amount (b : Word) : Nat := b.toNat % 32
def boolWord (b : Bool) : Word := if b then 1 else 0
/-- The bits of a at the ones of b, packed from bit 0 upwards. -/
def pext (a b : Word) : Word :=
  BitVec.ofNat 32 (((List.range 32).filter fun i => b.getLsbD i).zipIdx.map fun (i, j) => b2n (a.getLsbD i) * 2 ^ j).sum
/-- The low bits of a placed at the ones of b. -/
def pdep (a b : Word) : Word :=
  BitVec.ofNat 32 (((List.range 32).filter fun i => b.getLsbD i).zipIdx.map fun (i, j) => b2n (a.getLsbD j) * 2 ^ i).sum
def popc (a : Word) : Word := BitVec.ofNat 32 (popCount 32 a.toNat)
def brev (a : Word) : Word := BitVec.ofNat 32 ((List.range 32).map fun i => b2n (a.getLsbD i) * 2 ^ (31 - i)).sum
def clz (a : Word) : Word := BitVec.ofNat 32 (((List.range 32).reverse.takeWhile fun i => !a.getLsbD i).length)

/-! The mesh (R405). -/

/-- The output a flit wants at a tile: 0 N, 1 E, 2 S, 3 W, 4 delivery. -/
def wants (t dest : Nat) : Nat :=
  let x := t % 16
  let y := t / 16
  let dx := fld 0 4 dest
  let dy := fld 4 4 dest
  if x < dx then 1 else if dx < x then 3 else if y < dy then 0 else if dy < y then 2 else 4

/-- The tile beyond an output, and the input queue of it the flit enters. -/
def beyond (t out : Nat) : Nat × Nat :=
  match out with
  | 0 => (t + 16, 2)
  | 1 => (t + 1, 3)
  | 2 => (t - 16, 0)
  | _ => (t - 1, 1)

/-- The contexts under a scan, whose flits wait at their last router (R441). -/
def State.scanning (s : State) (i : Nat) : Bool :=
  let on (o : Option ScanJob) : Bool := match o with
    | none => false
    | some j => j.target == i || j.target == 3
  on s.scan || on s.drain

/-- The mesh itself is under a scan. -/
def State.meshScan (s : State) : Bool :=
  match s.scan with
  | none => false
  | some j => j.target == 2 || j.target == 3

/-- The queue ahead of a flit has room. -/
def State.aheadRoom (s : State) (t out : Nat) (f : Flit) : Bool :=
  if out = 4 then
    let i := fld 10 1 f.dest
    decide ((((s.ctx t i).inboxes.getD (fld 8 2 f.dest) []).length) < 4) && !s.scanning i
  else
    let (u, q) := beyond t out
    decide ((((s.tile u).queues.getD q []).length) < 4)

/-- The input queue that an output serves next: among those whose head wants it and can move, the first from its round-robin position of
those that can move earliest (R405). -/
def State.served (s : State) (t out : Nat) : Option (Nat × Flit) :=
  let x := s.tile t
  let order := (List.range 5).map fun j => (x.turn.getD out 0 + j) % 5
  let movable := order.filterMap fun q => match (x.queues.getD q []).head? with
    | some f => if wants t f.dest = out && s.aheadRoom t out f then some (q, f) else none
    | none => none
  let at' (f : Flit) : Nat := max (max f.ready (x.free.getD out 0)) s.cyc
  movable.foldl (fun o x => match o with | none => some x | some y => if at' x.2 < at' y.2 then some x else some y) none

/-- One router output moves one flit, or delivers it (R405, R406). -/
def State.flitHop (s : State) (t out : Nat) : State :=
  match s.served t out with
  | none => s
  | some (q, f) =>
    if !s.meshScan then
      let s := s.advanceCyc (max f.ready ((s.tile t).free.getD out 0))
      let s := s.modTile t fun x => { x with
        queues := x.queues.set q ((x.queues.getD q []).drop 1)
        turn := x.turn.set out ((q + 1) % 5)
        free := x.free.set out (s.cyc + 1) }
      let s := s.headMoves t q
      if out = 4 then
        let w : InWord := { data := f.data, last := f.last, poison := f.poison, ready := s.cyc + 1 }
        let j := fld 8 2 f.dest
        s.modCtx t (fld 10 1 f.dest) fun x => { x with inboxes := x.inboxes.set j (x.inboxes.getD j [] ++ [w]) }
      else
        let (u, r) := beyond t out
        s.modTile u fun x => { x with queues := x.queues.set r (x.queues.getD r [] ++ [{ f with ready := s.cyc + 1 }]) }
    else s

/-! The stall watchdog (R422). -/

/-- A queue that stalls: its number, the context that must drain it, and the c from which its head has not moved while that context runs. -/
structure Stall where
  key : Nat
  ctx : Nat
  from' : Nat
  deriving DecidableEq, Repr

/-- A full queue whose head, poppable from c `ready`, must be drained by a context RUNNING on the tile u. -/
def State.stallOf (s : State) (key u i ready : Nat) (full : Bool) : Option Stall :=
  let x := s.ctx u i
  if full && x.run == 1 then some { key := key, ctx := i, from' := max (mapGet (fun _ => 0) s.headMoved key) (max x.since (ready - 1)) } else none

/-- The watch of an outbound edge queue. -/
def State.stalledOut (s : State) (t e : Nat) : Option Stall :=
  match edgePort t e with
  | none => none
  | some k =>
    match s.edgeOutQ k with
    | [] => none
    | w :: _ => s.stallOf (outKey k) t (if s.bindOf k = 3 then 1 else 0) w.ready (!s.pushRoom k && s.bindOf k != 0)

/-- Whether a watched queue is full while the context that must drain it runs (R422). Code 7 is the outbound queue of either port. -/
def State.stalled (s : State) (t q : Nat) : Option Stall :=
  if q < 5 then
    match (s.tile t).queues.getD q [] with
    | [] => none
    | f :: l => s.stallOf (watchKey t q) (fld 0 8 f.dest) (fld 10 1 f.dest) f.ready (decide (3 ≤ l.length))
  else if q < 7 then
    match edgePort t (q - 5) with
    | none => none
    | some k =>
      match s.edgeInQ k with
      | [] => none
      | w :: l => s.stallOf (watchKey t q) t (if s.bindOf k = 3 then 1 else 0) w.ready (decide (edgeInRoom k ≤ l.length + 1) && s.bindOf k != 0)
  else if q = 7 then (s.stalledOut t 0).or (s.stalledOut t 1)
  else
    let i := (q - 8) / 4
    match (s.ctx t i).inboxes.getD ((q - 8) % 4) [] with
    | [] => none
    | w :: l => s.stallOf (watchKey t q) t i w.ready (decide (3 ≤ l.length))

/-- The watch of a queue runs out. -/
def State.stallWatchdog (s : State) (t q : Nat) : State :=
  match s.stalled t q with
  | none => s
  | some x =>
    if bitOf (s.causesOf 25) x.key then s
    else
      let s := s.advanceCyc (x.from' + s.obj Obj.stallLimit)
      let s := ((s.bump Obj.stalls).setObj Obj.stallAt (t % 16 + t / 16 * 16 + q * 256)).setBit Obj.fabFaultCause 1 true
      (s.beginCause 25 x.key (sourceWord t 1)).autoDrain x.ctx 2

/-- The words in a watched queue. -/
def State.queueLength (s : State) (key : Nat) : Nat :=
  let t := key % 4096 / 16
  let q := key % 16
  if 4096 ≤ key then ((edgePort (key - 4096) 1).map fun k => (s.edgeOutQ k).length).getD 0
  else if q < 5 then ((s.tile t).queues.getD q []).length
  else if q < 8 then ((edgePort t (if q = 6 then 1 else 0)).map fun k => (if q = 7 then s.edgeOutQ k else s.edgeInQ k).length).getD 0
  else ((s.ctx t ((q - 8) / 4)).inboxes.getD ((q - 8) % 4) []).length

/-- A stall ends with its queue: one that a scan, a load, an UNLOAD or a purge leaves with fewer words than four is full no more. -/
def State.endStalls (s : State) : State :=
  if s.causesOf 25 = 0 then s
  else s.each ((List.range 4352).filter fun n => bitOf (s.causesOf 25) n && decide (s.queueLength n < 4)) fun n t => t.headMoved' n

/-! FE commands presented (R412 to R414). -/

/-- Data words as bytes, and the bytes of poisoned words as a mask. -/
def wordBytes (l : List EdgeWord) : List Byte := l.flatMap fun x => leBytes 4 x.data.toNat
def poisonOf (l : List EdgeWord) : Nat := (l.zipIdx.map fun (x, i) => if x.poison then 15 * 2 ^ (4 * i) else 0).sum

/-- The data words of a masked write spread over the line's sixteen places. -/
def spreadWords (mask : Nat) : Nat → List EdgeWord → List EdgeWord
  | 0, _ => []
  | n + 1, l =>
    if fld (4 * (15 - n)) 4 mask = 0 then { data := 0 } :: spreadWords mask n l
    else (l.headD { data := 0 }) :: spreadWords mask n (l.drop 1)

/-- The request of a command. -/
def feReq (e ctx : Nat) (kind : ReqKind) (l : List EdgeWord) : Req :=
  let h := wordAt l 0
  let lines := if kind = .read ∨ kind = .write then feLines h else 1
  let mask := match kind with
    | .masked => wordAt l 3 + wordAt l 4 * 2 ^ 32
    | .write => 2 ^ (64 * lines) - 1
    | _ => 0
  { serial := 0, rq := rqFe e, kind := kind, tag := fld 16 8 h,
    addr := if kind = .fence then 0 else wordAt l 1 + wordAt l 2 % 256 * 2 ^ 32, lines := lines,
    posted := bitOf h 26, ordered := bitOf h 27, mask := mask,
    range := if kind = .lock then wordAt l 3 else 0, lease := if kind = .lock then wordAt l 4 else 0, ctx := ctx,
    status := List.replicate lines none, back := List.replicate lines [] }

/-- The lines of return buffer in use: outstanding reads, and responses on their way into the tile (R413). -/
def State.returnUse (s : State) (e : Nat) : Nat :=
  ((s.feOutstanding e).filter fun r => r.kind == .read).foldl (fun n r => n + r.lines) 0 + ceilDiv (s.edgeWaitQ e).length 16

/-- A response into the port's inbound queue (R414). -/
def State.deliverFe (s : State) (r : Req) : State :=
  let e := r.rq - 0x110
  let s := s.when (r.overall != 0) fun s => s.bump (Obj.feNonOk e)
  let word (n : Nat) (p : Bool) : EdgeWord := { data := BitVec.ofNat 32 n, poison := p }
  let head := word (r.kind.opcode * 2 ^ 28 + r.overall * 2 ^ 24 + r.tag * 2 ^ 16 + r.lineStatus) false
  let data := if r.kind = .read then
      (List.range r.lines).flatMap fun i =>
        let st := (r.status.getD i none).getD 0
        (List.range 16).map fun m => word (leNat (((r.respData.drop (64 * i + 4 * m))).take 4)) (st == stPoison)
    else []
  s.pushEdge e (head :: data)

/-- A command presented: to the arbiter, or answered DENIED by a disabled point (R413). -/
def State.feEnter (s : State) (e : Nat) (r : Req) : State :=
  let s := s.bump (Obj.feRequests e)
  if s.obj (Obj.feEnable e) = 1 then s.enter r
  else if r.posted then s.countPostedFail r.rq
  else s.deliverFe { r with status := List.replicate r.lines (some stDenied) }

/-- The command at the front of an FE port is presented, when it is of the kind asked for and the port may take it. -/
def State.fePresent (s : State) (e : Nat) (kind : ReqKind) : State :=
  let l := s.feWords e
  let head := feHead l
  let i := if s.bindOf e = 3 then 1 else 0
  if l.length < head ∨ l = [] ∨ feOp (wordAt l 0) ≠ kind.opcode ∨ (mapGet (fun _ => none) s.feOpen e).isSome then s
  else
    let r := feReq e i kind l
    if kind = .read ∧ 8 < s.returnUse e + r.lines ∧ s.obj (Obj.feEnable e) = 1 then s
    else
      let s := s.advanceCyc ((l.take head).foldl (fun c x => max c x.ready) s.cyc)
      let need := feNeed l
      let data := (l.take need).drop head
      let here := decide (need ≤ l.length) && data.all fun x => decide (x.ready ≤ s.cyc)
      if here then
        let d := if kind = .masked then spreadWords r.mask 16 data else data
        let s := s.setEdgeOut e ((s.edgeOutQ e).drop need)
        s.feEnter e { r with data := if kind.isWrite then wordBytes d else [], poison := if kind.isWrite then poisonOf d else 0 }
      else
        let n := s.serial
        let s := s.setEdgeOut e ((s.edgeOutQ e).drop head)
        let open' := s.obj (Obj.feEnable e) = 1
        let s := { s with feOpen := mapSet (fun _ => none) s.feOpen e (some (if open' then n else 0, need - head)) }
        s.feEnter e { r with openData := true }

/-- The data of the open write of an FE point is complete (R413, R152): its lines get their bytes. -/
def State.feComplete (s : State) (e : Nat) : State :=
  match mapGet (fun _ => none) s.feOpen e with
  | none => s
  | some (n, need) =>
    let l := s.edgeOutQ e
    if l.length < need then s
    else
      let s := s.advanceCyc ((l.take need).foldl (fun c x => max c x.ready) s.cyc)
      let s := (s.setEdgeOut e (l.drop need))
      let s := { s with feOpen := mapSet (fun _ => none) s.feOpen e none }
      match s.reqs.find? fun r => r.serial == n && r.rq == rqFe e with
      | none => s
      | some r =>
        let d := if r.kind = .masked then spreadWords r.mask 16 (l.take need) else l.take need
        let bytes := wordBytes d
        let p := poisonOf d
        let s := s.modReq n fun r => { r with data := bytes, poison := p }
        let s := { s with ents := s.ents.map fun x : Ent =>
          if x.req = n then { x with data := (bytes.drop (64 * x.ix)).take 64, poison := fld (64 * x.ix) 64 p } else x }
        s.completeOpen n

/-! The stream-port service (R416 to R418). -/

/-- The credit of a request handed to the fabric returns when its last word has entered the inbound queue (R416). -/
def State.creditServed (s : State) : State :=
  s.each (s.reqs.filter fun r => r.stage == .fabric && !r.credited) fun r t =>
    if (t.edgeWaitQ (16 + r.rq / 16)).any fun w => w.req == some r.serial && w.tail then t
    else (t.giveCredit r.rq).modReq r.serial fun x => { x with credited := true }

/-- The fabric's response at the front of a port: matched and sent, discarded, or a trap of the context that sent it (R417, R418). -/
def State.fabResponse (s : State) (p : Nat) : State :=
  let k := 16 + p
  let l := s.edgeOutQ k
  if l.length < 2 then s
  else
    let h := wordAt l 0 * 2 ^ 32 + wordAt l 1
    let need := respNeed l
    let rq := 16 * p + fld 56 4 h
    match s.reqs.find? fun r => r.rq == rq && r.stage == .fabric && r.tag == fld 48 8 h with
    | none =>
      if l.length < need then s
      else ((s.advanceCyc ((l.take need).foldl (fun c x => max c x.ready) s.cyc)).setEdgeOut k (l.drop need)).bump (Obj.fabRespDiscarded p)
    | some r =>
      if r.kind.opcode ≠ fld 60 4 h ∨ r.lines ≠ fld 42 2 h + 1 then
        let s := s.advanceCyc ((l.take 2).foldl (fun c x => max c x.ready) s.cyc)
        let i := if s.bindOf k = 3 then 1 else 0
        let s := { s.setEdgeOut k [] with portBad := s.portBad ++ [k] }
        s.trap (portTile k) i 4 0 28 ((l.headD { data := 0 }).src)
      else if l.length < need then s
      else
        let s := (s.advanceCyc ((l.take need).foldl (fun c x => max c x.ready) s.cyc)).setEdgeOut k (l.drop need)
        let st := (List.range r.lines).map fun i => some (fld (16 + 4 * i) 4 h)
        let words := (l.take need).drop 2
        let bytes := (List.range (words.length / 2)).flatMap fun j => leBytes 4 (wordAt words (2 * j + 1)) ++ leBytes 4 (wordAt words (2 * j))
        let back := (List.range r.lines).map fun i => (bytes.drop (64 * i)).take 64
        let done : Req := { r with status := st, back := back }
        if r.lockstep then
          if s.cyc ≤ r.depart - 4 then s.modReq r.serial fun _ => { done with stage := .lines } else s
        else s.close done

/-! Aborts of a context (R125, R123, R420). -/

/-- The requests of a context's FE points are withdrawn, and its locks orphaned with cause `why` (R123, R189). -/
def State.abortFe (s : State) (i why : Nat) : State :=
  let fes := (s.portsOf i).filter (· < 16)
  let mine (rq : Nat) : Bool := decide (0x110 ≤ rq) && fes.contains (rq - 0x110)
  let s := s.withdrawAll (fun r => mine r.rq) stAborted
  let lost := s.answers.filter fun r => mine r.rq
  let s := { s with answers := s.answers.filter fun r : Req => !mine r.rq }
  let s := s.each lost fun r t => t.bump (Obj.feNonOk (r.rq - 0x110))
  let s := s.orphanLocks (fun l => mine l.holder) why
  s.each fes fun e t => { t.setEdgeOut e [] with feOpen := mapSet (fun _ => none) t.feOpen e none }

/-- What an abort of a context does to the edge ports bound to it. -/
def State.abortPorts (s : State) (i why : Nat) : State :=
  let ports := s.portsOf i
  let s := s.abortFe i why
  let sps := (ports.filter fun k => decide (16 ≤ k) && decide (k < 32))
  let s := s.each sps fun k t =>
    let waits := (t.edgeInQ k ++ t.edgeWaitQ k).filterMap EdgeWord.req
    let rs := t.reqs.filter fun r => r.stage == .fabric && r.rq / 16 + 16 == k && waits.contains r.serial
    let t := t.each rs fun r u => (u.withdrawEdge k r.serial).withdraw r stAborted
    ((t.setEdgeIn k []).setEdgeWait k []).setEdgeOut k []
  s.each s.probeChans fun n t =>
    let b := if n = 0 then 32 else 48
    let t := if ports.contains b || ports.contains (b + 1) then t.seqAbort n else t
    let t := if [2, 3, 4, 5].any fun j => ports.contains (b + j) then
        (List.range 4).foldl (fun u j => u.setEdgeOut (b + 2 + j) []) (t.expectAbort n) else t
    t.each (sites8.filter fun j => ports.contains (capPort n j)) fun j u => u.captureAbort n j

/-- EDGE_BIND as it reads (R425). -/
def State.edgeBindBytes (s : State) : List Byte := (List.range 64).map fun k => BitVec.ofNat 8 (s.bindOf k)

/-- FE_STATE as it reads (R426). -/
def State.feStateWord (s : State) (e : Nat) : Nat := if s.portBad.contains e then 2 else s.obj (Obj.feEnable e)

end Sys2Proof.Machine
end

