-- ==== Sys2Proof/Machine/Images.lean ====
section
/-! DEFINITION. Fabric images, frames and scan: the records of R438 and R439, the checks of an image, loads, scan operations, frame moves,
swaps and the fault drain (chapter 14). -/

namespace Sys2Proof.Machine

/-! Frames as words. -/

def frameWords : Nat := 32768
def State.frameWord (s : State) (f i : Nat) : Nat := mapGet (fun _ => 0) s.frames (frameWords * f + i)

/-- A frame filled with the words given as rising pairs of a number and a word other than 0. -/
def State.setFrame (s : State) (f : Nat) (l : List (Nat × Nat)) : State :=
  let lo := s.frames.filter fun e => decide (e.1 < frameWords * f)
  let hi := s.frames.filter fun e => decide (frameWords * (f + 1) ≤ e.1)
  { s with frames := lo ++ (l.filter fun e => e.2 != 0).map (fun e => (frameWords * f + e.1, e.2)) ++ hi }

/-- The bytes of a frame (R436). -/
def State.frameBytes (s : State) (f : Nat) : List Byte := (List.range frameWords).flatMap fun i => leBytes 4 (s.frameWord f i)

/-- The CRC-32 of the data of a frame (R443). -/
def State.frameCrc (s : State) (f : Nat) : Nat := crc32 (s.frameBytes f)

/-- FRAME_CRC as it reads: computed when a frame is written, 0 for an EMPTY one (R443, R454). -/
def State.frameCrcWord (s : State) (f : Nat) : Nat := if fld 0 2 (s.obj (Obj.frameKind f)) = 0 then 0 else s.frameCrc f

def State.held (s : State) (f : Nat) : Bool := s.bit (Obj.frameKind f) 4

/-! Records (R438, R439). -/

/-- The first four words of a list of edge or inbox words, as data, padded. -/
def four (l : List Nat) : List Nat := (List.range 4).map fun i => l.getD i 0
def flag2 (last poison : Bool) : Nat := b2n last + 2 * b2n poison
def packFlags (l : List Nat) : Nat := (l.zipIdx.map fun (v, i) => v * 2 ^ (2 * i)).sum

/-- The edge queues of the ports of a tile bound to a context: EDGE0 in, EDGE0 out, EDGE1 in, EDGE1 out. -/
def State.tileEdges (s : State) (t i : Nat) : List (List EdgeWord) :=
  [0, 1].flatMap fun e => match s.edgeFor t i (28 + e) with
    | some k => [(s.edgeInQ k).take 4, (s.edgeOutQ k).take 4]
    | none => [[], []]

/-- The record of a context on a tile (R438). -/
def State.ctxRecord (s : State) (t i : Nat) : List Nat :=
  let x := s.ctx t i
  let ib := x.inboxes
  let eq := s.tileEdges t i
  let waitLeft := x.wait
  (List.range 64).map (fun j => (x.mem.getD j 0).toNat) ++
  (List.range 16).map (fun j => (mapGet (fun _ => 0) x.regs j).toNat) ++
  [x.poison % 65536 + x.pc * 2 ^ 16 + x.run * 2 ^ 22, waitLeft % 65536,
   x.routes.getD 0 0 + x.routes.getD 1 0 * 65536, x.routes.getD 2 0 + x.routes.getD 3 0 * 65536] ++
  ib.flatMap (fun q => four (q.map fun w => w.data.toNat)) ++
  [packFlags (ib.flatMap fun q => four (q.map fun w => flag2 w.last w.poison)),
   (ib.zipIdx.map fun (q, j) => q.length * 2 ^ (3 * j)).sum + packFlags x.flags * 2 ^ 12,
   x.trapCause + x.trapImm * 256,
   b2n (s.edgeFor t i 28).isSome + 2 * b2n (s.edgeFor t i 29).isSome] ++
  eq.flatMap (fun q => four (q.map fun w => w.data.toNat)) ++
  [packFlags (eq.flatMap fun q => four (q.map fun w => flag2 w.last w.poison)),
   (eq.zipIdx.map fun (q, j) => q.length * 2 ^ (3 * j)).sum]

/-- The record of a tile's router (R439). -/
def meshRecord (x : Tile) : List Nat :=
  let flit (f : Flit) : List Nat := [f.data.toNat, f.dest % 2 ^ 11 + b2n f.last * 2 ^ 11 + b2n f.poison * 2 ^ 12]
  x.queues.flatMap (fun q => (List.range 4).flatMap fun j => ((q[j]?).map flit).getD [0, 0]) ++
  [(x.queues.zipIdx.map fun (q, j) => q.length * 2 ^ (3 * j)).sum, (x.turn.zipIdx.map fun (v, j) => v * 2 ^ (3 * j)).sum]

/-- Words of consecutive records as numbered words. -/
def numbered (size : Nat) (rec : Nat → List Nat) : List (Nat × Nat) :=
  tiles256.flatMap fun t => (rec t).zipIdx.map fun (w, j) => (size * t + j, w)

/-- A context's state written into a frame; `kind` is the low bits of FRAME_KIND (R454). -/
def State.outFrame (s : State) (f : Nat) (l : List (Nat × Nat)) (kind : Nat) (image : Nat) : State :=
  (((s.setFrame f l).setObj (Obj.frameKind f) kind).setObj (Obj.frameTs f) s.ts).setObj (Obj.frameImageId f) image

def State.outCtx (s : State) (f i : Nat) : State :=
  s.outFrame f (numbered 128 fun t => s.ctxRecord t i) (1 + 4 * i) (s.obj (Obj.imageId i))
def State.outMesh (s : State) (f : Nat) : State := s.outFrame f (numbered 64 fun t => meshRecord (s.tile t)) 2 0

/-- The run state a record may restore: a frame never holds RUNNING (R441). -/
def restoredRun (v : Nat) : Nat := if v = 2 ∨ v = 3 ∨ v = 4 then v else if v = 1 then 3 else 0

/-- A context read back from the words of its record. `flip` inverts bit 10 of every route (R429). -/
def ctxOf (w : Nat → Nat) (flip : Bool) : Ctx :=
  let route (j : Nat) : Nat := let r := fld (16 * (j % 2)) 16 (w (82 + j / 2)); if flip then r ^^^ 0x400 else r
  let inbox (q : Nat) : List InWord := (List.range (min 4 (fld (3 * q) 3 (w 101)))).map fun j =>
    ({ data := BitVec.ofNat 32 (w (84 + 4 * q + j)), last := bitOf (w 100) (8 * q + 2 * j), poison := bitOf (w 100) (8 * q + 2 * j + 1) } : InWord)
  { mem := if (List.range 64).all fun j => w j % 2 ^ 32 == 0 then [] else (List.range 64).map fun j => BitVec.ofNat 32 (w j)
    regs := ((List.range 16).filterMap fun j => if j = 0 ∨ w (64 + j) % 2 ^ 32 = 0 then none else some (j, BitVec.ofNat 32 (w (64 + j))))
    poison := fld 0 16 (w 80), pc := fld 16 6 (w 80), run := restoredRun (fld 22 3 (w 80)), wait := fld 0 16 (w 81)
    routes := [route 0, route 1, route 2, route 3], inboxes := [inbox 0, inbox 1, inbox 2, inbox 3]
    flags := (List.range 6).map fun j => fld (12 + 2 * j) 2 (w 101), trapCause := fld 0 8 (w 102), trapImm := fld 8 16 (w 102) }

/-- One edge queue of a record: q = 0 EDGE0 in, 1 EDGE0 out, 2 EDGE1 in, 3 EDGE1 out. -/
def edgeOf (w : Nat → Nat) (q : Nat) : List EdgeWord :=
  (List.range (min 4 (fld (3 * q) 3 (w 121)))).map fun j =>
    ({ data := BitVec.ofNat 32 (w (104 + 4 * q + j)), last := bitOf (w 120) (2 * (4 * q + j)), poison := bitOf (w 120) (2 * (4 * q + j) + 1) } : EdgeWord)

/-- A router read back from the words of its record. -/
def routerOf (x : Tile) (w : Nat → Nat) : Tile :=
  let queue (q : Nat) : List Flit := (List.range (min 4 (fld (3 * q) 3 (w 40)))).map fun k =>
    let d := w (8 * q + 2 * k + 1)
    ({ data := BitVec.ofNat 32 (w (8 * q + 2 * k)), dest := fld 0 11 d, last := bitOf d 11, poison := bitOf d 12 } : Flit)
  { x with queues := (List.range 5).map queue, turn := (List.range 5).map fun j => fld (3 * j) 3 (w 41) % 5 }

/-! Flits and bindings of a context. -/

/-- How many flits on the mesh are for a context. -/
def State.flitsFor (s : State) (i : Nat) : Nat :=
  (s.tiles.map fun e => (e.2.queues.map fun q => (q.filter fun f => fld 10 1 f.dest == i).length).sum).sum

/-- Every flit for a context is discarded (R441); the order of the others is kept. -/
def State.purgeFlits (s : State) (i : Nat) : State :=
  let keep (q : List Flit) : List Flit := q.filter fun f => fld 10 1 f.dest != i
  { s with tiles := s.tiles.map fun e : Nat × Tile => (e.1, { e.2 with queues := e.2.queues.map keep }) }

/-- Tiles that have returned to their state at a power-on are not listed. -/
def State.tidyTiles (s : State) : State :=
  { s with tiles := s.tiles.filter fun e : Nat × Tile => e.2 != ({} : Tile) }

/-- The queues of a port are emptied. -/
def State.clearPort (s : State) (k : Nat) : State :=
  let s := ((s.setEdgeIn k []).setEdgeOut k []).setEdgeWait k []
  { s with portBad := s.portBad.filter (· != k), feOpen := mapSet (fun _ => none) s.feOpen k none }

/-- The edge words in the queues of a port. -/
def State.portWords (s : State) (k : Nat) : Nat := (s.edgeInQ k).length + (s.edgeOutQ k).length

/-- A context's ports are unbound and their queues emptied. -/
def State.unbindAll (s : State) (i : Nat) : State := s.each (s.portsOf i) fun k t => (t.clearPort k).setBind k 0

/-- A context is NOT_LOADED on every tile, and its ports unbound (R447, R446). -/
def State.clearCtx (s : State) (i : Nat) : State :=
  let s := s.unbindAll i
  ({ s with tiles := s.tiles.map fun e : Nat × Tile => (e.1, e.2.setCtx i {}) }).tidyTiles

/-- Outstanding edge work of a context (R432). -/
def State.edgeWork (s : State) (i : Nat) : Bool :=
  (s.portsOf i).any fun k =>
    if k < 16 then (s.reqs.any fun r => r.rq == rqFe k && (!r.posted || r.openData)) || (mapGet (fun _ => none) s.feOpen k).isSome
    else if k < 32 then !(s.edgeInQ k).isEmpty || !(s.edgeOutQ k).isEmpty
    else probePort k && s.pbIs (if k < 48 then 0 else 1) pbRunning

/-! IN (R441). -/

/-- The ports a context frame binds: bits of word 103 of each record. -/
def State.framePorts (s : State) (f : Nat) : List Nat :=
  tiles256.flatMap fun t => [0, 1].filterMap fun e => if bitOf (s.frameWord f (128 * t + 103)) e then edgePort t e else none

/-- A context's state and bindings replaced by those of a frame. -/
def State.inCtx (s : State) (f i : Nat) (purge : Bool) : State :=
  let flits := if purge then s.flitsFor i else 0
  let s := if purge then s.purgeFlits i else s
  let ports := s.framePorts f
  let gone := (s.portsOf i).filter fun k => !ports.contains k
  let words := (gone.map s.portWords).sum
  let s := s.addTo Obj.scanPurged (flits + words)
  let s := s.each gone fun k t => (t.clearPort k).setBind k 0
  let flip := fld 2 1 (s.obj (Obj.frameKind f)) != i
  let s := s.each tiles256 fun t u =>
    let w (j : Nat) : Nat := s.frameWord f (128 * t + j)
    let u := u.modTile t fun x => x.setCtx i (ctxOf w flip)
    u.each ([0, 1].filter fun e => bitOf (w 103) e) fun e v =>
      match edgePort t e with
      | none => v
      | some k => ((v.setBind k (1 + 2 * i)).setEdgeIn k (edgeOf w (2 * e))).setEdgeOut k (edgeOf w (2 * e + 1))
  (s.setObj (Obj.imageId i) (s.obj (Obj.frameImageId f))).tidyTiles

def State.inMesh (s : State) (f : Nat) : State :=
  (s.each tiles256 fun t u => u.modTile t fun x => routerOf x fun j => s.frameWord f (64 * t + j)).tidyTiles

/-! Scan operations (R440 to R442, R446, R447). -/

/-- The contexts, and whether the mesh, that a target names. -/
def targetCtxs (t : Nat) : List Nat := if t = 0 then [0] else if t = 1 then [1] else if t = 3 then [0, 1] else []
def targetMesh (t : Nat) : Bool := t == 2 || t == 3

/-- The c of an operation (R442). -/
def scanC (t : Nat) : Nat := if t = 3 then 2624 else if t = 2 then 576 else 1088

/-- The frame of a context or of the mesh within an operation that names frame f. -/
def frameFor (t f i : Nat) : Nat := if t = 3 then f + i else f

/-- The scan unit is busy with a scan, a drain or a frame move, or with a load. -/
def State.scanBusy (s : State) : Bool := s.scan.isSome || s.moveJob.isSome || s.imageJob.isSome || s.drain.isSome

/-- Why a SCAN_CMD is refused at once (R440): a reason of R84. -/
def State.scanRefused (s : State) (op : Nat) : Option Nat :=
  let t := s.obj Obj.scanTarget
  let fo := s.obj Obj.scanFrameOut
  let fi := s.obj Obj.scanFrameIn
  let outs := if t = 3 then [fo, fo + 1, fo + 2] else [fo]
  let ins := if t = 3 then [fi, fi + 1, fi + 2] else [fi]
  let runs := (targetCtxs t).any s.ctxRuns || (targetMesh t && (s.ctxRuns 0 || s.ctxRuns 1))
  let isIn := op != 1
  let isOut := op != 2
  let kinds := ins.zipIdx.all fun (f, j) =>
    let k := s.obj (Obj.frameKind f)
    let want := if t = 2 ∨ (t = 3 ∧ j = 2) then 2 else 1
    fld 0 2 k == want && !bitOf k 3
  let collide := (targetCtxs t).any fun i => if t = 3 then false else (s.framePorts (frameFor t fi i)).any fun k => s.bound k (1 - i)
  let cross := t == 3 && (s.framePorts fi).any fun k => (s.framePorts (fi + 1)).contains k
  if s.scanBusy then some 9
  else if t = 3 ∧ ((isOut ∧ 5 < fo) ∨ (isIn ∧ 5 < fi)) then some 6
  else if runs then some 9
  else if isOut && outs.any s.held then some 9
  else if isIn && (targetCtxs t).any s.edgeWork then some 9
  else if isIn && t < 2 && !bitOf (s.obj Obj.scanFlags) 0 && decide (0 < s.flitsFor t) then some 9
  else if op = 3 ∧ outs.any ins.contains then some 9
  else if isIn && (!kinds || collide || cross) then some 0xB
  else none

/-- A scan operation starts: the target's inbound edge queues hold (R441). -/
def State.scanStart (s : State) (op : Nat) : State :=
  let t := s.obj Obj.scanTarget
  let job : ScanJob := { op := op, target := t, out := s.obj Obj.scanFrameOut, inn := s.obj Obj.scanFrameIn, flags := s.obj Obj.scanFlags,
                         ends := s.cyc + scanC t }
  let s := { s with scan := some job, edgeHeld := (targetCtxs t).flatMap s.portsOf }
  (s.setObj Obj.scanCmd 1).bump Obj.scans

/-- The edge queues that a scan held take words again. -/
def State.releaseEdges (s : State) : State :=
  let l := s.edgeHeld
  ({ s with edgeHeld := [] }).each l fun k t => t.fillEdge k

/-- The frames that an operation writes, in the order FG, BG, mesh. -/
def ScanJob.outs (j : ScanJob) : List Nat := if j.op = 2 then [] else if j.target = 3 then [j.out, j.out + 1, j.out + 2] else [j.out]

/-- The frames of an operation are marked BAD (R446, R447). -/
def State.spoilFrames (s : State) (j : ScanJob) : State := s.each j.outs fun f t => t.setBit (Obj.frameKind f) 3 true

/-- The state `from'` of the target goes into the frames of an operation (R440, R441). -/
def State.scanOut (s from' : State) (j : ScanJob) : State :=
  if j.op = 2 then s
  else
    let s := s.each (targetCtxs j.target) fun i t =>
      t.outFrame (frameFor j.target j.out i) (numbered 128 fun u => from'.ctxRecord u i) (1 + 4 * i) (from'.obj (Obj.imageId i))
    if targetMesh j.target then s.outFrame (frameFor j.target j.out 2) (numbered 64 fun u => meshRecord (from'.tile u)) 2 0 else s

/-- A parity error on a chain or in frame memory (R447). -/
def State.scanError (s : State) (j : ScanJob) : State :=
  let s := (((s.setBit Obj.fabFaultCause 4 true).bump Obj.scanErrors).raise 26 (sourceWord 0 4)).spoilFrames j
  s.when (j.op != 1) fun s => s.each (targetCtxs j.target) fun i t => t.clearCtx i

/-- The passes end (R441, R442): the state moves, or a parity error spoils the operation. -/
def State.scanDone (s : State) (parity : Bool) : State :=
  match s.scan with
  | none => s
  | some j =>
    let s := s.advanceCyc j.ends
    let s := (s.setObj Obj.lastScanC (scanC j.target))
    let s := { s with scan := none }
    if parity then
      let s := (s.scanOut s j).scanError j
      ((s.releaseEdges.setBit Obj.scanStatus 1 true).setBit Obj.scanStatus 2 true).cmdFailed Obj.scanCmd 9
    else
      let before := s
      let s := s.when (j.op != 1) fun s =>
        let s := s.each (targetCtxs j.target) fun i t => t.inCtx (frameFor j.target j.inn i) i (bitOf j.flags 0)
        if targetMesh j.target then s.inMesh (frameFor j.target j.inn 2) else s
      let s := (s.scanOut before j).releaseEdges.setBit Obj.scanStatus 1 false
      let s := s.when (bitOf j.flags 1) fun s => s.each (targetCtxs j.target) fun i t => t.startCtx i
      s.cmdDone Obj.scanCmd

/-- A fault drain of a context ends at once when the context is aborted: its frame is BAD (R446). -/
def State.drainAborted (s : State) (i : Nat) : State :=
  match s.drain with
  | none => s
  | some j => if j.target = i then (({ s with drain := none }).releaseEdges.spoilFrames j).setBit Obj.scanStatus 1 true else s

/-- A scan of a context ends at once when the context is aborted (R446): of an IN or EXCHANGE no target context is whole. -/
def State.scanAborted (s : State) (i : Nat) : State :=
  let s := s.drainAborted i
  match s.scan with
  | none => s
  | some j =>
    if (targetCtxs j.target).contains i then
      let s := (({ s with scan := none }).releaseEdges).spoilFrames j
      let s := s.when (j.op != 1) fun s => s.each (targetCtxs j.target) fun c t => t.clearCtx c
      (s.setBit Obj.scanStatus 1 true).cmdFailed Obj.scanCmd 9
    else s

/-- FAB_ABORT of a context (R125, R420). -/
def State.abortCtx (s : State) (i why : Nat) : State := ((s.stopCtx i).scanAborted i).abortPorts i why

/-! CTX_CMD and SWAP (R434, R435). -/

/-- Why a CTX_CMD is refused. -/
def State.ctxRefused (s : State) (i v : Nat) : Option Nat :=
  if v = 1 then if s.ctxTrapped i || s.scanning i || (s.imageJob.map ImageJob.ctx) == some i then some 9 else none
  else if v = 3 then if s.ctxRuns i || s.edgeWork i then some 9 else none
  else none

def State.ctxCommand (s : State) (i v : Nat) : State :=
  let s := match v with
    | 1 => s.startCtx i
    | 2 => s.stopCtx i
    | _ => (s.purgeFlits i).clearCtx i
  s.cmdDone (Obj.ctxCmd i)

def swapRoutes (x : Ctx) : Ctx := { x with routes := x.routes.map (· ^^^ 0x400) }

/-- SWAP: foreground and background change places on every tile (R435). -/
def State.swapCtxs (s : State) : State :=
  let flip (f : Flit) : Flit := { f with dest := f.dest ^^^ 0x400 }
  let s := { s with
    tiles := tiles256.map fun t =>
      let x := s.tile t
      (t, ({ x with fg := swapRoutes x.bg, bg := swapRoutes x.fg, queues := x.queues.map fun q : List Flit => q.map flip } : Tile))
    bind := s.bind.map fun e : Nat × Nat => (e.1, if e.2 = 1 then 3 else if e.2 = 3 then 1 else e.2) }
  let a := s.obj (Obj.imageId 0)
  let s := (s.setObj (Obj.imageId 0) (s.obj (Obj.imageId 1))).setObj (Obj.imageId 1) a
  ((s.tidyTiles.advanceCyc (s.cyc + 4)).bump Obj.swaps).cmdDone Obj.swap

def State.swapRefused (s : State) : Option Nat := if s.ctxRuns 0 || s.ctxRuns 1 || s.scanBusy then some 9 else none

/-! Images (R427 to R433). -/

/-- One section of an image: tile, start PC, masks, and its words. -/
structure Section where
  tile : Nat
  count : Nat
  pc : Nat
  regMask : Nat
  routeMask : Nat
  instrs : List Nat
  regs : List Nat
  routes : List Nat
  deriving DecidableEq, Repr

/-- The words of a section that begins with these two. -/
def sectionLen (w0 w1 : Nat) : Nat := 2 + fld 8 7 w0 + popCount 16 (fld 0 16 w1) + popCount 4 (fld 16 4 w1)

/-- The sections of an image as words from word 16 on: each with the index of its first word; none when they run past the end. -/
def cutSections : Nat → Nat → List Nat → Option (List (Nat × List Nat))
  | 0, _, l => if l.isEmpty then some [] else none
  | n + 1, pos, l =>
    let k := sectionLen (l.getD 0 0) (l.getD 1 0)
    if l.length < 2 ∨ l.length < k then none
    else (cutSections n (pos + k) (l.drop k)).map fun r => (pos, l.take k) :: r

def sectionOf (l : List Nat) : Section :=
  let w0 := l.getD 0 0
  let w1 := l.getD 1 0
  let n := fld 8 7 w0
  let r := popCount 16 (fld 0 16 w1)
  { tile := fld 0 8 w0, count := n, pc := fld 16 6 w0, regMask := fld 0 16 w1, routeMask := fld 16 4 w1,
    instrs := (l.drop 2).take n, regs := (l.drop (2 + n)).take r, routes := l.drop (2 + n + r) }

/-- The tile of a section in the order of R428: word 0 holds x in [3:0] and y in [7:4], which is 16y + x. -/
def sectionBad (prev : Option Nat) (l : List Nat) : Option Nat :=
  let w0 := l.getD 0 0
  let w1 := l.getD 1 0
  let x := sectionOf l
  let order := match prev with | some p => decide (p < x.tile) | none => true
  if !order || fld 15 1 w0 != 0 || fld 22 10 w0 != 0 || x.count = 0 || decide (64 < x.count) then some 0
  else if bitOf w1 0 || fld 20 12 w1 != 0 then some 1
  else (x.routes.zipIdx.find? fun (v, _) => 65535 < v).map fun (_, j) => 2 + x.count + x.regs.length + j

/-- The first fault of the sections, as a byte offset. -/
def sectionsBad : Option Nat → List (Nat × List Nat) → Option Nat
  | _, [] => none
  | prev, (pos, l) :: r =>
    match sectionBad prev l with
    | some j => some (4 * (pos + j))
    | none => sectionsBad (some (sectionOf l).tile) r

/-- What the checks of R430 find: a result code and the byte offset of the field, or the sections. -/
inductive ImageCheck
  | bad (result offset : Nat)
  | good (sections : List Section) (id binding : Nat)

def wordsOf : Nat → List Byte → List Nat
  | 0, _ => []
  | n + 1, l => leNat (l.take 4) :: wordsOf n (l.drop 4)

/-- The checks of an image for a context, in the order of R430. -/
def State.checkImage (s : State) (i : Nat) (bytes : List Byte) (readOk : Bool) : ImageCheck :=
  let len := leNat ((bytes.drop 8).take 4)
  let body := bytes.take len
  let w := wordsOf (len / 4) body
  let binding := leNat ((bytes.drop 24).take 8)
  let count := leNat ((bytes.drop 6).take 2)
  let ports := (List.range 64).filter fun k => bitOf binding k
  if !readOk || decide (87108 < len) || decide (bytes.length < len) || decide (bytes.length < 12) then .bad 1 8
  else if len < 8 ∨ leNat (body.drop (len - 4)) ≠ crc32 (body.take (len - 4)) then .bad 2 (len - 4)
  else if w.getD 0 0 ≠ 0x4D495943 then .bad 3 0
  else if byteAt body 4 ≠ 1#8 then .bad 3 4
  else if byteAt body 5 ≠ 0#8 then .bad 3 5
  else if count = 0 ∨ 256 < count then .bad 3 6
  else if len % 4 ≠ 0 then .bad 3 8
  else match cutSections count 16 ((w.drop 16).take (w.length - 17)) with
    | none => .bad 3 8
    | some secs =>
      if ((body.drop 32).take 32).any (· != 0#8) then .bad 3 32
      else match sectionsBad none secs with
        | some off => .bad 4 off
        | none =>
          let l := secs.map fun x => sectionOf x.2
          match ports.find? fun k => !(l.any fun x => x.tile == portTile k) || s.bound k (1 - i) with
          | some k => .bad 5 (24 + k / 8)
          | none =>
            match (if s.part = .ft4016 then ports.find? probePort else none) with
            | some k => .bad 6 (24 + k / 8)
            | none => .good l (leNat ((bytes.drop 16).take 8)) binding

/-- The values chosen by a mask, in ascending order, over `n` places. -/
def placed (mask n : Nat) (vals : List Nat) : List Nat :=
  (List.range n).map fun j => if bitOf mask j then vals.getD (popCount j (mask % 2 ^ j)) 0 else 0

/-- The context record of a loaded tile (R428). -/
def loadRecord (x : Section) (ports : List Nat) (flip : Bool) : List Nat :=
  let r := placed x.routeMask 4 x.routes
  let route (j : Nat) : Nat := if flip && bitOf x.routeMask j then r.getD j 0 ^^^ 0x400 else r.getD j 0
  let eb (e : Nat) : Nat := match edgePort x.tile e with | some k => b2n (ports.contains k) | none => 0
  (List.range 64).map (fun j => x.instrs.getD j 0) ++ placed x.regMask 16 x.regs ++
  [x.pc * 2 ^ 16 + 3 * 2 ^ 22, 0, route 0 + route 1 * 65536, route 2 + route 3 * 65536] ++ List.replicate 19 0 ++ [eb 0 + 2 * eb 1]

/-- The frame of a load: records of the sections' tiles (R433). -/
def loadFrame (l : List Section) (binding : Nat) (flip : Bool) : List (Nat × Nat) :=
  let ports := (List.range 64).filter fun k => bitOf binding k
  l.flatMap fun x => (loadRecord x ports flip).zipIdx.map fun (w, j) => (128 * x.tile + j, w)

/-- A load fails (R430, R448). -/
def State.loadFails (s : State) (result offset : Nat) : State :=
  let s := ((s.setObj Obj.imageResult result).setObj Obj.imageFailOffset offset).bump Obj.imageFails
  s.when (result == 2) fun s => (s.setBit Obj.fabFaultCause 3 true).raise 27 (sourceWord 0xFF 3)

/-- A load of an image that is wholly here: its checks, then the frame and the scan of R433. True when it succeeded. -/
def State.loadImage (s : State) (i : Nat) (bytes : List Byte) (readOk : Bool) : State × Bool :=
  match s.checkImage i bytes readOk with
  | .bad r off => (s.loadFails r off, false)
  | .good l id binding =>
    let f := s.obj Obj.loadFrame
    let s := s.outFrame f (loadFrame l binding (i == 1)) (1 + 4 * i + 32) id
    let s := (s.advanceCyc (s.cyc + scanC i)).setObj Obj.lastScanC (scanC i)
    let s := (s.inCtx f i true).setObj Obj.imageResult 0
    let s := (List.range 64).foldl (fun t k => if bitOf binding k && !t.bound k i then t.setBind k (1 + 2 * i) else t) s
    ((s.bump Obj.imageLoads).bump Obj.scans, true)

/-- Why an IMAGE_CMD is refused (R432, R446). -/
def State.imageRefused (s : State) (i : Nat) : Option Nat :=
  if s.ctxRuns i || s.edgeWork i || s.scan.isSome || s.moveJob.isSome || s.drain.isSome || s.held (s.obj Obj.loadFrame) ||
      (s.obj Obj.imageSource == 2 && (s.nvs.op.bind NvsOp.entry).isSome) then some 9 else none

/-- MG asks for the next lines of an image in store, up to four (R431). -/
def State.imageRead (s : State) (j : ImageJob) : State :=
  let left := ceilDiv (j.want - j.bytes.length) 64
  let n := max 1 (min 4 left)
  let s := { s with imageJob := some { j with reading := true, addr := j.addr + 64 * n } }
  s.enter { serial := 0, rq := rqMg, kind := .read, tag := 2, addr := j.addr, lines := n,
            status := List.replicate n none, back := List.replicate n [] }

/-- IMAGE_CMD is accepted (R433): `area` holds the bytes of the image-area entry. -/
def State.imageStart (s : State) (i : Nat) (area : List Byte) : State :=
  let s := s.setObj Obj.imageCmd 1
  match s.obj Obj.imageSource with
  | 0 => { s with imageJob := some { ctx := i, bytes := s.dom Obj.imageStaging } }
  | 1 => s.imageRead { ctx := i, addr := s.obj Obj.imageAddress, want := 64 }
  | _ => { s with imageJob := some { ctx := i, bytes := area } }

/-- Lines of an image have been read. -/
def State.imageLines (s : State) (r : Req) : State :=
  match s.imageJob with
  | none => s
  | some j =>
    let bytes := j.bytes ++ r.respData
    let want := if j.bytes = [] then leNat ((bytes.drop 8).take 4) else j.want
    let bad := j.bad || r.overall != 0
    let j : ImageJob := { j with bytes := bytes, want := want, bad := bad, reading := false }
    if bad || decide (want ≤ bytes.length) || decide (87108 < want) then { s with imageJob := some j } else s.imageRead j

/-- The load completes (R433). -/
def State.imageDone (s : State) : State :=
  match s.imageJob with
  | none => s
  | some j =>
    if j.reading then s
    else
      let (t, ok) := ({ s with imageJob := none }).loadImage j.ctx j.bytes (!j.bad)
      if ok then t.cmdDone Obj.imageCmd else t.cmdFailed Obj.imageCmd 0xB

/-! Frame moves (R443). -/

/-- The bytes of the descriptor saved behind a frame. -/
def State.frameDescriptor (s : State) (f : Nat) : List Byte :=
  leBytes 4 0x4D524643 ++ leBytes 4 (withBit (s.obj (Obj.frameKind f)) 4 false) ++ leBytes 8 (s.obj (Obj.frameTs f)) ++
    leBytes 8 (s.obj (Obj.frameImageId f)) ++ leBytes 4 (s.frameCrcWord f) ++ zeros 36

/-- The bytes of line n of a saved frame. -/
def State.savedLine (s : State) (f n : Nat) : List Byte :=
  if n < 2048 then (List.range 16).flatMap fun j => leBytes 4 (s.frameWord f (16 * n + j)) else s.frameDescriptor f

/-- MG asks for the next lines of a move, up to four. -/
def State.moveNext (s : State) (j : MoveJob) : State :=
  let n := min 4 (2049 - j.line)
  let s := { s with moveJob := some { j with waiting := true, line := j.line + n } }
  let data := if j.op = 1 then (List.range n).flatMap fun k => s.savedLine j.frame (j.line + k) else []
  s.enter { serial := 0, rq := rqMg, kind := if j.op = 1 then .write else .read, tag := 3, addr := j.addr + 64 * j.line, lines := n,
            data := data, mask := if j.op = 1 then 2 ^ (64 * n) - 1 else 0,
            status := List.replicate n none, back := List.replicate n [] }

/-- Why a FRAME_MOVE is refused. -/
def State.moveRefused (s : State) (f v : Nat) : Option Nat :=
  if s.scanBusy then some 9 else if (v = 2 ∨ v = 4) ∧ s.held f then some 9 else none

/-- FRAME_MOVE is accepted: RELEASE and CLEAR act at once. -/
def State.moveStart (s : State) (f v : Nat) : State :=
  match v with
  | 3 => (s.setBit (Obj.frameKind f) 4 false).cmdDone (Obj.frameMove f)
  | 4 => ((((s.setFrame f []).setObj (Obj.frameKind f) 0).setObj (Obj.frameTs f) 0).setObj (Obj.frameImageId f) 0).cmdDone (Obj.frameMove f)
  | _ => (s.setObj (Obj.frameMove f) 1).moveNext { op := v, frame := f, addr := s.obj (Obj.frameAddress f) }

/-- Lines of a move have been answered. -/
def State.moveLines (s : State) (r : Req) : State :=
  match s.moveJob with
  | none => s
  | some j =>
    let first := j.line - r.lines
    let bad := j.bad || r.overall != 0
    let got := if j.op = 2 then wordsOf (16 * r.lines) r.respData else []
    let data := (got.zipIdx.map fun (w, k) => (16 * first + k, w)).filter fun e => decide (e.1 < frameWords) && e.2 != 0
    let tail := if j.op = 2 ∧ j.line = 2049 then r.respData.drop (64 * (2048 - first)) else j.tail
    let j : MoveJob := { j with words := j.words ++ data, bad := bad, waiting := false, tail := tail }
    if bad || decide (2049 ≤ j.line) then { s with moveJob := some j } else s.moveNext j

/-- A frame move completes (R443): a line that was not OK fails it, and a wrong tag or CRC marks a fetched frame BAD. -/
def State.moveDone (s : State) : State :=
  match s.moveJob with
  | none => s
  | some j =>
    if j.waiting then s
    else
      let s := { s with moveJob := none }
      if j.bad then s.cmdFailed (Obj.frameMove j.frame) 6
      else if j.op = 1 then s.cmdDone (Obj.frameMove j.frame)
      else
        let d := j.tail
        let s := s.setFrame j.frame j.words
        let ok := leNat (d.take 4) == 0x4D524643 && leNat ((d.drop 24).take 4) == s.frameCrc j.frame
        let kind := (byteAt d 4).toNat
        let s := s.setObj (Obj.frameKind j.frame) (withBit (kind % 64) 3 (bitOf kind 3 || !ok))
        let s := (s.setObj (Obj.frameTs j.frame) (leNat ((d.drop 8).take 8))).setObj (Obj.frameImageId j.frame) (leNat ((d.drop 16).take 8))
        s.cmdDone (Obj.frameMove j.frame)

/-! The fault drain (R444). -/

/-- The first drain that waits starts as soon as the scan unit is free: an OUT of the stopped context into DRAIN_FRAME, unless held
evidence stands there, when no scan runs. -/
def State.drainStarts (s : State) : State :=
  match s.drainWait with
  | [] => s
  | i :: l =>
    if s.scanBusy then s
    else
      let f := s.obj (Obj.drainFrame i)
      let s := { s with drainWait := l }
      if s.held f then s.bump (Obj.drainsSkipped i)
      else
        let s := s.stopCtx i
        let job : ScanJob := { op := 1, target := i, out := f, inn := 0, flags := 0, ends := s.cyc + scanC i }
        ({ s with drain := some job, edgeHeld := s.portsOf i }).bump Obj.scans

/-- The drain of a context ends: its state is in DRAIN_FRAME, which is HELD. -/
def State.faultDrain (s : State) (i : Nat) : State :=
  match s.drain with
  | none => s
  | some j =>
    if j.target = i then
      let s := { (s.advanceCyc j.ends).setObj Obj.lastScanC (scanC i) with drain := none }
      (((s.outCtx j.out i).setBit (Obj.frameKind j.out) 4 true).bump (Obj.drains i)).releaseEdges.setBit Obj.scanStatus 1 false
    else s

/-- SCAN_STATUS as it reads (R453). -/
def State.scanStatusWord (s : State) : Nat := withBit (s.obj Obj.scanStatus) 0 s.scanBusy

end Sys2Proof.Machine
end

