-- ==== Sys2Proof/Machine/Messages.lean ====
section
/-! DEFINITION. The record of a refusal (R64, R84, R85), and message channels and doorbells (chapter 15). -/

namespace Sys2Proof.Machine

/-- The path's number in LAST_REFUSAL and its owner code in SESSION_OWNER (R96, R97). -/
def pathCode : Path → Nat
  | .fabric => 0 | .coe => 1 | .pcie => 2 | .sideband => 3

/-! Refusals (R64, R84, R85). -/

/-- A refusal is counted and recorded. -/
def State.refuse (s : State) (p : Path) (ix sub reason : Nat) : State :=
  let s := (s.bump Obj.refusalCount).setBit Obj.dictStatus 0 true
  let s := s.setObj Obj.lastRefusal (ix + sub * 2 ^ 16 + reason * 2 ^ 24 + pathCode p * 2 ^ 28)
  let s := s.setObj Obj.lastRefusalTs s.ts
  if reason = 8 then (s.bump Obj.quiescentRefusals).setBit Obj.dictStatus 1 true else s

/-! Message channels. -/

def State.mc (s : State) (m : Nat) : MsgCh := mapGet (fun _ => {}) s.msgs m
def State.modMc (s : State) (m : Nat) (f : MsgCh → MsgCh) : State := { s with msgs := mapSet (fun _ => {}) s.msgs m (f (s.mc m)) }
def State.mb (s : State) (p : Nat) : MbPort := mapGet (fun _ => {}) s.mbs p
def State.setMb (s : State) (p : Nat) (x : MbPort) : State := { s with mbs := mapSet (fun _ => {}) s.mbs p x }

def mcDisabled : Nat := 0
def mcEmpty : Nat := 1
def mcFilling : Nat := 2
def mcFull : Nat := 3
def State.mcIs (s : State) (m st : Nat) : Bool := s.obj (Obj.msgState m) == st

/-- The modes of a channel (R479). -/
def State.mcWaits (s : State) (m : Nat) : Bool := s.bit (Obj.msgMode m) 0
def State.mcEmptyIrq (s : State) (m : Nat) : Bool := s.bit (Obj.msgMode m) 1
def State.mcStamped (s : State) (m : Nat) : Bool := s.bit (Obj.msgMode m) 2
def State.mcWidth (s : State) (m : Nat) : Nat := s.obj (Obj.msgWidth m)

/-! Parties (R455, R465). -/

/-- The party of a control path. -/
def partyOf (p : Path) : Nat :=
  match p with
  | .coe => 0x1000
  | .pcie => 0x2000
  | .sideband => 0x3000
  | .fabric => 0

/-- The codes MSG_RECEIVER may hold. -/
def partyOk (v : Nat) : Bool := v == 0 || v == 0x1000 || v == 0x2000 || v == 0x3000 || (decide (0x4000 ≤ v) && decide (v < 0x4008))

/-- The edge port of MBp. -/
def mbPort (p : Nat) : Nat := match p with | 0 => 46 | 1 => 47 | 2 => 62 | _ => 63
/-- The operand by which the port's tile names it. -/
def mbOperand (p : Nat) : Nat := if p % 2 = 0 then 28 else 29

def fabricParty (i p : Nat) : Nat := 0x4000 + 4 * i + p

/-- A party is down (R465). -/
def State.partyDown (s : State) (v : Nat) : Bool :=
  if v = 0x2000 then !s.pcieUp
  else if v = 0x1000 then s.obj Obj.ectAlState == 1 || (!s.ect.link0 && !s.ect.link1)
  else if 0x4000 ≤ v then
    let i := (v - 0x4000) / 4
    let k := mbPort ((v - 0x4000) % 4)
    !s.bound k i || (s.ctx (portTile k) i).run != 1
  else false

/-! Doorbells and notifications (R464, R469). -/

/-- The mark of the words of a channel's current message in an edge queue. -/
def State.msgMark (s : State) (m : Nat) : Nat := 2 ^ 64 + s.obj (Obj.msgSeq m) * 32 + m

def mbWord (op m seq : Nat) (last : Bool) : EdgeWord :=
  { data := BitVec.ofNat 32 (op * 2 ^ 28 + m * 2 ^ 16 + seq * 2 ^ 8), last := last }

/-- The words of a DELIVER: its header, then the registers. -/
def State.deliverWords (s : State) (m : Nat) : List EdgeWord :=
  let w := s.mcWidth m
  let mark (x : EdgeWord) (head tail : Bool) : EdgeWord := { x with req := some (s.msgMark m), src := b2n head, tail := tail }
  mark (mbWord 1 m (s.obj (Obj.msgSeq m)) false) true false ::
    (List.range w).map fun i => mark { data := BitVec.ofNat 32 (s.obj (Obj.msgReg m i)), last := i + 1 == w } false (i + 1 == w)

/-- The five manufacturer bytes of a channel's emergency. -/
def State.msgBytes (s : State) (m : Nat) : List Byte := leBytes 1 m ++ leBytes 1 (s.obj (Obj.msgSeq m)) ++ zeros 3

/-- The doorbell of a FULL channel, to its receiver; pending while the receiver is down. -/
def State.doorbell (s : State) (m : Nat) : State :=
  let v := s.obj (Obj.msgReceiver m)
  if s.partyDown v then s.setBit (Obj.msgFlags m) 2 true
  else
    let s := s.setBit (Obj.msgFlags m) 2 false
    if v = 0x2000 then s.msix (s.obj (Obj.msgVector m))
    else if v = 0x1000 then s.emcy 0xFF10 (s.msgBytes m)
    else if 0x4000 ≤ v then s.pushEdge (mbPort ((v - 0x4000) % 4)) (s.deliverWords m)
    else s

/-- A notification to the sender of a message: EMPTY or TIMEOUT; a sender that is down gets none. -/
def State.notify (s : State) (m : Nat) (timeout : Bool) : State :=
  let v := s.obj (Obj.msgSender m) / 65536
  if s.partyDown v then s.setBit (Obj.msgFlags m) 1 true
  else if v = 0x2000 then s.msix (s.obj (Obj.msgVector m))
  else if v = 0x1000 then s.emcy (if timeout then 0xFF12 else 0xFF11) (s.msgBytes m)
  else if 0x4000 ≤ v then s.pushEdge (mbPort ((v - 0x4000) % 4)) [mbWord (if timeout then 3 else 2) m (s.obj (Obj.msgSeq m)) true]
  else s

/-! Fills, gos and ends. -/

/-- A register write that has been accepted (R460, R461): under STAMPED the first one clears the others and takes the fill. -/
def State.msgFill (s : State) (m i party : Nat) : State :=
  if s.mcStamped m then
    let s := if s.mcIs m mcEmpty then
        ((List.range (s.mcWidth m - 1)).foldl (fun t j => if j + 1 = i then t else t.setObj (Obj.msgReg m (j + 1)) 0) s).setObj
          (Obj.msgState m) mcFilling
      else s
    s.modMc m fun x => { x with filler := party, fillAt := s.now }
  else s

/-- A go that has been accepted (R458, R459, R461). -/
def State.msgGoes (s : State) (m party : Nat) : State :=
  let s := s.dropShadows fun h => h.key == Obj.msgTimeout m
  let seq := (s.obj (Obj.msgSeq m) + 1) % 256
  let stamp := party * 65536 + seq * 256
  let s := if s.mcStamped m ∧ s.mcIs m mcEmpty then
      (List.range (s.mcWidth m - 1)).foldl (fun t j => t.setObj (Obj.msgReg m (j + 1)) 0) s else s
  let s := if s.mcStamped m then s.setObj (Obj.msgReg m 0) stamp else s
  let s := (((s.setObj (Obj.msgSeq m) seq).setObj (Obj.msgSender m) stamp).setObj (Obj.msgState m) mcFull).setObj (Obj.msgGo m) 1
  let s := s.modMc m fun _ => { filler := 0, fillAt := 0, due := s.now + s.obj (Obj.msgTimeout m) * usTicks }
  (s.bump (Obj.msgSent m)).doorbell m

/-- The message leaves FULL, or the fill ends. -/
def State.msgLeaves (s : State) (m status : Nat) : State :=
  let s := (s.setObj (Obj.msgState m) mcEmpty).setObj (Obj.msgGo m) status
  ((s.setBit (Obj.msgFlags m) 2 false).setBit (Obj.msgFlags m) 3 false).modMc m fun _ => {}

/-- The words of a message that a fabric receiver has not taken are withdrawn, or the rest of it is spoilt (R472). -/
def State.msgWithdraw (s : State) (m : Nat) : State :=
  let v := s.obj (Obj.msgReceiver m)
  if v < 0x4000 then s
  else
    let k := mbPort ((v - 0x4000) % 4)
    if s.bit (Obj.msgFlags m) 3 then
      let spoil (w : EdgeWord) : EdgeWord := if w.req = some (s.msgMark m) then { w with data := 0, poison := true, req := none } else w
      s.setEdgeWait k ((s.edgeWaitQ k).map spoil)
    else s.withdrawEdge k (s.msgMark m)

/-- The message is consumed (R462, R463). -/
def State.msgConsume (s : State) (m : Nat) : State :=
  let s := s.msgLeaves m 3
  if s.mcEmptyIrq m then s.notify m false else s

/-- MSG_TIMEOUT runs out (R467). -/
def State.msgTimeoutEnds (s : State) (m : Nat) : State :=
  if s.mcIs m mcFull ∧ ¬ s.mcWaits m then
    let s := ((s.advanceTo (s.mc m).due).msgWithdraw m).msgLeaves m 0x89
    let s := ((s.setBit (Obj.msgFlags m) 0 true).bump (Obj.msgTimeouts m)).raise 46 (sourceWord 0 0xFF)
    s.notify m true
  else s

/-- A fill ends without a go (R461). -/
def State.fillDrops (s : State) (m : Nat) : State := (s.setObj (Obj.msgState m) mcEmpty).modMc m fun _ => {}

/-- A STAMPED filler has made no write for 100 ms, or is down (R461). -/
def State.fillExpires (s : State) (m : Nat) : State :=
  if s.mcIs m mcFilling then
    let s := if s.partyDown (s.mc m).filler then s else s.advanceTo ((s.mc m).fillAt + 100 * msTicks)
    (s.fillDrops m).setBit (Obj.msgFlags m) 4 true
  else s

/-- A down receiver has come up while its message is still FULL (R465). -/
def State.doorbellDue (s : State) (m : Nat) : State :=
  if s.bit (Obj.msgFlags m) 2 && s.mcIs m mcFull && !s.partyDown (s.obj (Obj.msgReceiver m)) then s.doorbell m else s

/-- A FULL message or a fill is discarded, as MSG_ENABLE 0 does (R476). -/
def State.msgDiscard (s : State) (m : Nat) : State :=
  if s.mcIs m mcFull || s.mcIs m mcFilling then
    ((s.msgWithdraw m).msgLeaves m 0x89).bump (Obj.msgDiscarded m)
  else s

/-- MSG_ENABLE as written. -/
def State.msgEnableEffect (s : State) (m : Nat) : State :=
  if s.obj (Obj.msgEnable m) = 1 then if s.mcIs m mcDisabled then s.setObj (Obj.msgState m) mcEmpty else s
  else (s.msgDiscard m).setObj (Obj.msgState m) mcDisabled

/-! Checks (R457, R460 to R463): a reason of R84. -/

/-- A register write by a party. -/
def State.msgRegRefused (s : State) (m i party : Nat) : Option Nat :=
  if s.mcWidth m ≤ i ∨ s.mcIs m mcDisabled ∨ s.mcIs m mcFull ∨ (s.mcStamped m ∧ i = 0) ∨ (s.mcIs m mcFilling ∧ (s.mc m).filler ≠ party)
  then some 9 else none

/-- A go by a party. -/
def State.msgGoRefused (s : State) (m party : Nat) : Option Nat :=
  if s.mcIs m mcFull then some 0xA
  else if s.mcIs m mcDisabled ∨ (s.mcIs m mcFilling ∧ (s.mc m).filler ≠ party) then some 9 else none

/-- A RELEASE by a party. -/
def State.msgReleaseRefused (s : State) (m party : Nat) : Option Nat :=
  if s.mcIs m mcFull ∧ s.mcEmptyIrq m ∧ s.obj (Obj.msgReceiver m) = party then none else some 9

/-- A read by a party that includes the last register (R462). -/
def State.msgReadBy (s : State) (m party : Nat) : State :=
  if s.mcIs m mcFull ∧ ¬ s.mcEmptyIrq m ∧ s.obj (Obj.msgReceiver m) = party then s.msgConsume m else s

/-! MB ports (R468 to R472). -/

/-- The context an MB port is bound to. -/
def State.mbCtx (s : State) (p : Nat) : Nat := if s.bindOf (mbPort p) = 3 then 1 else 0

/-- A refused word of an MB port: recorded with the subindex of the register, go or release it stood for, and answered REFUSED (R85, R97,
R468). -/
def State.mbRefuse (s : State) (p m sub reason : Nat) : State :=
  ((s.refuse .fabric (0x4400 + m) sub reason).bump (Obj.msgRefused m)).pushEdge (mbPort p) [{ data := BitVec.ofNat 32 (4 * 2 ^ 28 + m * 2 ^ 16 + reason), last := true }]

/-- A break of the protocol: the sending context traps, and the fill is dropped (R470). -/
def State.mbBreak (s : State) (p : Nat) (w : EdgeWord) : State :=
  let k := mbPort p
  let s := match (s.mb p).chan with
    | some m => if s.mcIs m mcFilling then s.fillDrops m else s
    | none => s
  ((s.setMb p {}).setEdgeOut k []).trap (portTile k) (s.mbCtx p) 4 0 (mbOperand p) w.src

/-- One data word of a SEND: written to its register; the go on LAST. -/
def State.mbData (s : State) (p m : Nat) (w : EdgeWord) : State :=
  let x := s.mb p
  let base := b2n (s.mcStamped m)
  let want := s.mcWidth m - base
  let party := fabricParty (s.mbCtx p) p
  if w.last != (x.taken + 1 == want) then s.mbBreak p w
  else
    let s := (s.setObj (Obj.msgReg m (base + x.taken)) w.data.toNat).msgFill m (base + x.taken) party
    if w.last then (s.setMb p {}).msgGoes m party else s.setMb p { x with taken := x.taken + 1 }

/-- The words that stand at the head of an MB port, as far as they can be taken (R468). -/
def State.mbSend (s : State) (p : Nat) : Nat → State
  | 0 => s
  | f + 1 =>
    let k := mbPort p
    match s.edgeOutQ k with
    | [] => s
    | w :: q =>
      let t := (s.advanceCyc w.ready).setEdgeOut k q
      let x := s.mb p
      if x.drop then (if w.last then t.setMb p {} else t).mbSend p f
      else match x.chan with
        | some m =>
          let late := s.mcIs m mcFilling && (s.mc m).filler != fabricParty (s.mbCtx p) p
          if s.mcIs m mcDisabled || late then
            ((t.mbRefuse p m (x.taken + 1 + b2n (s.mcStamped m)) 9).setMb p (if w.last then {} else { drop := true })).mbSend p f
          else if s.mcIs m mcFull then s
          else (t.mbData p m w).mbSend p f
        | none =>
          let h := w.data.toNat
          let m := fld 16 5 h
          if fld 28 4 h = 2 then s
          else if fld 28 4 h ≠ 1 ∨ fld 21 7 h ≠ 0 ∨ fld 0 16 h ≠ 0 ∨ w.last then t.mbBreak p w
          else if s.mcIs m mcDisabled then ((t.mbRefuse p m (1 + b2n (s.mcStamped m)) 9).setMb p { drop := true }).mbSend p f
          else if s.mcIs m mcEmpty then
            let t := t.setMb p { chan := some m }
            let party := fabricParty (s.mbCtx p) p
            (t.msgFill m 0 party).mbSend p f
          else s

/-- A RELEASE word at an MB port (R463, R468). -/
def State.mbRelease (s : State) (p : Nat) : State :=
  let k := mbPort p
  match s.edgeOutQ k with
  | [] => s
  | w :: q =>
    let h := w.data.toNat
    if (s.mb p).chan.isSome || (s.mb p).drop || fld 28 4 h != 2 then s
    else
      let s := (s.advanceCyc w.ready).setEdgeOut k q
      let m := fld 16 5 h
      if fld 21 7 h ≠ 0 ∨ fld 0 16 h ≠ 0 ∨ ¬ w.last then s.mbBreak p w
      else match s.msgReleaseRefused m (fabricParty (s.mbCtx p) p) with
        | some r => s.mbRefuse p m 0x12 r
        | none => s.msgConsume m

/-- A word of a message has been popped by the tile: the header sets MSG_FLAGS[3], the last word is the consuming read (R471, R472). -/
def State.msgPopped (s : State) (w : EdgeWord) : State :=
  let m := fld 0 5 (w.req.getD 0)
  if w.req == some (s.msgMark m) && s.mcIs m mcFull then
    let s := if w.src = 1 then s.setBit (Obj.msgFlags m) 3 true else s
    if w.tail && !s.mcEmptyIrq m then s.msgConsume m else s
  else s

/-- The words of messages that tiles have popped. -/
def State.msgProgress (s : State) : State :=
  let l := s.mbPops
  ({ s with mbPops := [] }).each l fun w t => t.msgPopped w

/-- The fills of an aborted context are dropped (R476). -/
def State.msgAbort (s : State) (i : Nat) : State :=
  let s := s.forAll 4 fun p t => if t.bound (mbPort p) i then (t.setMb p {}).setEdgeOut (mbPort p) [] else t
  s.forAll 32 fun m t =>
    let f := (t.mc m).filler
    if t.mcIs m mcFilling && decide (0x4000 ≤ f) && (f - 0x4000) / 4 == i then t.fillDrops m else t

end Sys2Proof.Machine
end

