-- ==== Sys2Proof/Machine/Aborts.lean ====
section
/-! DEFINITION. Aborts as they run: their acceptance, what comes for a target meanwhile, and their end (R123 to R130, R158). -/

namespace Sys2Proof.Machine

/-- What an abort withdraws when it starts (R123, R125, R476). -/
def State.withdrawTarget (s : State) (t : AbortTarget) (why : Nat) : State :=
  match t with
  | .client c => s.abortClient c why
  | .port p => s.abortPort p why
  | .host q => s.abortHost q why
  | .ctx i => (s.abortCtx i why).msgAbort i

/-- What came for the target since (R124). -/
def State.withdrawLate (s : State) (t : AbortTarget) (why : Nat) : State :=
  match t with
  | .ctx i => s.abortFe i why
  | _ => s.withdrawTarget t why

/-- A write holds a write-data path by an open entry (R152). -/
def State.holdsPath (s : State) (r : Req) : Bool :=
  channels4.any fun ch => match (s.chan ch).pathHolder with
    | some n => s.ents.any fun e => e.serial == n && e.req == r.serial
    | none => false

/-- An update that spares the writes which hold a path. -/
def State.sparing (s : State) (f : State → State) : State :=
  let kept := s.reqs.filter s.holdsPath
  let t := f { s with reqs := s.reqs.filter fun r => !s.holdsPath r }
  { t with reqs := kept ++ t.reqs }

/-- A running abort withdraws what its target has: an abort that a bite started leaves the writes that hold a path of another channel to the bite of
that channel, or to its own end (R158, DESIGN CHOICE: log entry 26). -/
def State.sweep (s : State) (why : Nat) (f : State → State) : State := if why = 3 then s.sparing f else f s

/-- An abort is accepted, or joins the one that runs on its target (R123, R158): it is done on a c that the spec leaves open, within 1,500 c. `off`
disables the target at its end (R130). -/
def State.startAbort (s : State) (t : AbortTarget) (why : Nat) (off : Bool) : State :=
  if s.aborting t then { s with aborts := s.aborts.map fun a : AbortRun => if a.target = t then { a with off := a.off || off } else a }
  else
    let s := s.sweep why fun u => u.withdrawTarget t why
    ({ s with aborts := s.aborts ++ [({ target := t, why := why, ends := s.cyc + 1 + s.freeNat 0 % 1500, off := off } : AbortRun)] }).drew 1

/-- An abort command (R136 to R138): it runs until the abort is done. -/
def State.abortCommand (s : State) (t : AbortTarget) : State := (s.setObj t.cmd 1).startAbort t 1 false

/-- A client's abort is over: its command is DONE, and the client is disabled if CLIENT_ENABLE is 0; one that was enabled again holds what it held,
the rest of its credits on their way (R129, R130). -/
def State.clientAborted (s : State) (c : Nat) (off : Bool) : State :=
  let s := s.abortDoneCmd (.client c)
  if !off then s
  else if s.obj (Obj.clientEnable c) = 1 then (if s.linkActive (c / 16) then s.setOwed c (s.obj (Obj.clientCredits c) - s.credit c) else s)
  else s.noCredit c

/-- PORT_ENABLE 0 is over: the link is DOWN, and trains again if the port was enabled meanwhile (R130). -/
def State.portAborted (s : State) (p : Nat) (off : Bool) : State :=
  if !off then s
  else let s := s.disablePort p; if s.obj (Obj.portEnable p) = 1 then s.startTraining p else s

/-- An abort ends (R124, R129): ABORT_DONE of a client, or of a port's clients in sub-ID order, whose own aborts end with it. -/
def State.abortEnds (s : State) (a : AbortRun) : State :=
  let s := s.withdrawLate a.target a.why
  match a.target with
  | .client c => (s.queueDone c).clientAborted c a.off
  | .port p =>
    let mine := s.aborts.filter fun x => x.target.onPort p
    let s := s.each (clientsOf p) fun c t => t.queueDone c
    let s := ({ s with aborts := s.aborts.filter fun x => !x.target.onPort p }).each mine fun x t =>
      match x.target with | .client c => t.clientAborted c x.off | _ => t
    (s.abortDoneCmd a.target).portAborted p a.off
  | t => s.abortDoneCmd t

/-- An abort whose c has come ends, but a client's waits for its port's (R129). -/
def State.abortOver (s : State) (a : AbortRun) : Bool :=
  decide (a.ends ≤ s.cyc) && (match a.target with | .client c => !s.aborting (.port (c / 16)) | _ => true)

/-- The aborts as time passes: what came for their targets is withdrawn, and those that are done end (R123, R124). -/
def State.settleAborts (s : State) : State :=
  let past := s.aborts.filter s.abortOver
  let s := ({ s with aborts := s.aborts.filter fun a => !past.contains a }).each past fun a t => t.abortEnds a
  s.each s.aborts fun a t => t.sweep a.why fun u => u.withdrawLate a.target a.why

end Sys2Proof.Machine
end

