-- ==== Sys2Proof/Machine/Nvs.lean ====
section
/-! DEFINITION. The settings store: which objects are stored, the layout of slots, banks and user entries, store and restore, user
entries, and the choice of a slot at start-up (R518 to R542). -/

namespace Sys2Proof.Machine

/-! Stored objects (R518). -/

/-- The value that a STORE or RESTORE write must carry (R525). -/
def saveWord : Nat := 0x65766173
def loadWord : Nat := 0x64616F6C

/-- ADJ_PERM is a permutation of 0 to 16 (R257). -/
def permOk (d : List Byte) : Bool := (List.range 17).all fun i => d.contains (BitVec.ofNat 8 i)

/-- ADJ_XOR keeps the row mapping one to one (R257). -/
def adjXorOk (v : Nat) : Bool := decide (fld 24 5 v ≤ 16) && !bitOf v (fld 24 5 v)

/-- A requester code that SPLIT_REQUESTER may name (R660). -/
def splitOk (v : Nat) : Bool := decide (v < 0x104) || (decide (0x110 ≤ v) && decide (v < 0x120)) || v == 0xFFFF

/-- No reserved bit of a DM_SENSORS entry is set (R591). -/
def sensorsOk (d : List Byte) : Bool :=
  (List.range 8).all fun i =>
    let e := (d.drop (8 * i)).take 8
    (byteAt e 0).toNat < 128 && decide ((byteAt e 2).toNat < 8) && byteAt e 3 == 0#8

/-- An engine address aligned to a unit and below MAP_TOP. -/
def State.addressOk (s : State) (v unit : Nat) : Bool := v % unit == 0 && decide (v < s.obj Obj.mapTop)

/-- The ranges that the object tables leave to their texts and that no other object decides. -/
def rangeFixed (k v : Nat) (d : List Byte) : Bool :=
  let ix := k / 0x100
  let sb := k % 0x100
  if ix < 0x3000 then
    if k = Obj.dmSensors then sensorsOk d
    else if ix = 0x1010 ∨ (ix = 0x2300 ∧ 1 ≤ sb ∧ sb ≤ 4) then v == saveWord
    else if ix = 0x1011 ∨ (ix = 0x2300 ∧ 5 ≤ sb ∧ sb ≤ 8) then v == loadWord
    else if k = 0x1C3301 then decide (v ≤ 2)
    else true
  else if ix < 0x3400 then
    match ix % 0x100, sb with
    | 0x60, 0xA => permOk d
    | 0x60, 0xB => adjXorOk v
    | 0xB0, 0xA => splitOk v
    | _, _ => true
  else if (ix = 0x3803 ∨ ix = 0x3903) ∧ sb = 3 then guardRulesOk d
  else if (ix = 0x3810 ∨ ix = 0x3910) ∧ sb = 8 then d.all fun b => decide (b.toNat ≤ 63)
  else if (ix = 0x3812 ∨ ix = 0x3912) ∧ sb = 3 then v == 0 || decide (4 ≤ v)
  else if 0x3A10 ≤ ix ∧ ix < 0x3A80 ∧ sb = 1 then
    if ix % 0x40 = 0x12 then decide (15000 ≤ v) && decide (v ≤ 21000) else decide (9000 ≤ v) && decide (v ≤ 13000)
  else if 0x4400 ≤ ix ∧ ix < 0x4420 ∧ sb = 0x17 then partyOk v
  else true

/-- The object belongs to the communication group. -/
def commObj (k : Nat) : Bool := decide (k < 0x200000)

/-- The objects R518 leaves out by name. -/
def unstored : List Nat :=
  [Obj.decodeAddress, Obj.shmooOffset, Obj.pbEnable 0, Obj.pbEnable 1, Obj.imageSource, Obj.imageAddress, Obj.imageAreaEntry,
   Obj.imageStaging, Obj.loadFrame, Obj.scanTarget, Obj.scanFrameOut, Obj.scanFrameIn, Obj.scanFlags, Obj.mrSites 0, Obj.mrSites 1,
   Obj.mrAddress 0, Obj.mrAddress 1, Obj.mrData 0, Obj.mrData 1]

/-- The object lies in a span R518 leaves out: message registers, BAR0 support, checker tests, FRAME_ADDRESS. -/
def unstoredSpan (k : Nat) : Bool :=
  let ix := k / 0x100
  let sb := k % 0x100
  ix == 0x2003 || (0x4400 ≤ ix && decide (ix < 0x4500) && 1 ≤ sb && decide (sb ≤ 0x10)) ||
    (0x3000 ≤ ix && decide (ix < 0x3400) && ix % 0x100 == 0xB0) || (0x4868 ≤ ix && decide (ix < 0x4870) && sb == 6)

/-- The object is stored (R518). -/
def storedObj (k : Nat) : Bool :=
  match rowOf k with
  | none => false
  | some r => (r.acc == .rw || r.acc == .rwp) && decide (k < 0x600000) && !unstored.contains k && !unstoredSpan k

/-- The object holds bytes. -/
def Ty.wide (t : Ty) : Bool := t == .dom || t == .str

/-- The size of a numeric object's value. -/
def objSize (k : Nat) : Nat := ((rowOf k).map fun r => r.ty.size).getD 0

/-- Records by rising key. -/
def insertRecord (e : Nat × List Byte) : List (Nat × List Byte) → List (Nat × List Byte)
  | [] => [e]
  | x :: t => if e.1 < x.1 then e :: x :: t else x :: insertRecord e t

/-- The values of the stored objects of the groups asked for that differ from their defaults, with what a read returns (R519). -/
def State.snapshot (s : State) (comm app : Bool) : List (Nat × List Byte) :=
  let mine (k : Nat) : Bool := storedObj k && (if commObj k then comm else app)
  let nums := (s.dict.filter fun e => mine e.1).map fun e => (e.1, leBytes (objSize e.1) e.2)
  (s.doms.filter fun e => mine e.1).foldl (fun l e => insertRecord e l) nums

/-! Layout (R521 to R524). -/

/-- The value of a record as it stands in the body: bytes objects carry their length (R522). -/
def recordValue (e : Nat × List Byte) : List Byte :=
  if ((rowOf e.1).map fun r => r.ty.wide).getD false then leBytes 2 e.2.length ++ e.2 else e.2

/-- The records of one index and one subindex bank (R522). -/
def indexRecord (ix b : Nat) (l : List (Nat × List Byte)) : List Byte :=
  let mine := l.filter fun e => e.1 / 0x100 == ix && 1 ≤ e.1 % 0x100 && (e.1 % 0x100 - 1) / 32 == b
  let v := mine.flatMap recordValue
  let mask := (mine.map fun e => 2 ^ ((e.1 % 0x100 - 1) % 32)).sum
  if mine.isEmpty then [] else leBytes 2 ix ++ leBytes 2 (b * 2 ^ 14 + (8 + v.length)) ++ leBytes 4 mask ++ v

/-- The indices of records, each once, rising. -/
def recordIndices (l : List (Nat × List Byte)) : List Nat := (l.map fun e => e.1 / 0x100).eraseDups

/-- The body of a slot (R522). -/
def slotBody (l : List (Nat × List Byte)) : List Byte :=
  (recordIndices l).flatMap fun ix => (List.range 4).flatMap fun b => indexRecord ix b l

/-- The 64 header bytes of a slot (R521). -/
def slotHeader (number : Nat) (x : NvsSlot) : List Byte :=
  leBytes 4 0x544F4C53 ++ [1#8] ++ leBytes 1 number ++ zeros 2 ++ leBytes 4 x.seq ++ leBytes 4 x.part ++ leBytes 4 x.firmware ++
    leBytes 8 x.ts ++ leBytes 1 x.kind ++ leBytes 1 x.flags ++ leBytes 1 x.bank ++ zeros 1 ++ leBytes 4 x.bankSeq ++
    leBytes 4 (slotBody x.body).length ++ zeros 24

/-- The 16 KiB of a whole slot (R521). -/
def slotBytes (number : Nat) (x : NvsSlot) : List Byte :=
  let l := slotHeader number x ++ slotBody x.body
  let l := l ++ zeros (16380 - l.length)
  l ++ leBytes 4 (crc32 l)

/-- Pages 1 to 17 of a bank: the trained sets at their places, then the fence laid out as RETIRE_TABLE (R523). -/
def bankPages (x : NvsBank) : List Byte :=
  let sets := (List.range 16).flatMap fun i => (mapGet (fun _ => ({} : TrainedSet)) x.sets i).bytes.take 2304 ++
    zeros (2304 - (mapGet (fun _ => ({} : TrainedSet)) x.sets i).bytes.length)
  let fence := x.fence.flatMap fun p => leBytes 8 (p * 4096)
  sets ++ fence ++ zeros (32768 - fence.length)

/-- Page 0 of a bank (R523). -/
def bankHeader (bank : Nat) (x : NvsBank) : List Byte :=
  let l := leBytes 4 0x52535953 ++ [1#8] ++ leBytes 1 bank ++ zeros 2 ++ leBytes 4 x.seq ++ leBytes 8 x.ts ++
    leBytes 4 (crc32 (bankPages x)) ++ zeros 36
  l ++ leBytes 4 (crc32 l) ++ zeros 4032

/-- The 64-byte header of a user entry (R524). -/
def entryHeader (x : NvsEntry) : List Byte :=
  let l := leBytes 4 0x41455241 ++ [1#8] ++ leBytes 1 x.number ++ leBytes 2 x.pages.length ++ leBytes 4 x.content.length ++
    leBytes 4 x.seq ++ leBytes 8 x.ts ++ leBytes 4 (crc32 x.content) ++ (x.pages.flatMap (leBytes 1)) ++
    List.replicate (22 - x.pages.length) 0xFF#8 ++ zeros 10
  l ++ leBytes 4 (crc32 l)

/-- The pages an entry of a content length occupies (R524). -/
def entryPages (n : Nat) : Nat := ceilDiv (64 + n) 4096

/-! Slots and entries. -/

def State.slot (s : State) (n : Nat) : Option NvsSlot := mapGet (fun _ => none) s.nvs.slots n
def State.putSlot (s : State) (n : Nat) (x : Option NvsSlot) : State :=
  { s with nvs := { s.nvs with slots := mapSet (fun _ => none) s.nvs.slots n x } }
def State.bankOf (s : State) (b : Nat) : NvsBank := mapGet (fun _ => {}) s.nvs.banks b
def State.putBank (s : State) (b : Nat) (x : NvsBank) : State :=
  { s with nvs := { s.nvs with banks := mapSet (fun _ => {}) s.nvs.banks b x } }

/-- PART_CODE of the part (R27). -/
def partCodeOf (p : Part) : Nat := match p with | .ft4216 => 0x4216 | .ft4016 => 0x4016

/-- The slot is valid (R521). -/
def State.slotValid (s : State) (x : NvsSlot) : Bool := x.whole && x.part == partCodeOf s.part

/-- The newest valid slot: the first of the highest sequence number, in the order of R537. -/
def State.newestSlot (s : State) : Option (Nat × NvsSlot) :=
  (List.range 16).foldl (fun best n =>
    match s.slot n with
    | none => best
    | some x =>
      if s.slotValid x then
        match best with
        | none => some (n, x)
        | some (_, y) => if y.seq < x.seq then some (n, x) else best
      else best) none

/-- The slot that follows in the rotation, bad slots skipped and the slot in use never overwritten (R527). -/
def State.nextSlot (s : State) (after : Option Nat) : Option Nat :=
  let free (n : Nat) : Bool := !s.nvs.badSlots.contains (n % 16)
  match after with
  | none => firstFrom free 16 0
  | some n => (firstFrom free 15 (n + 1)).map (· % 16)

/-- The user entry of a number. -/
def State.entryOf (s : State) (n : Nat) : Option NvsEntry := s.nvs.entries.find? fun e => e.number == n && e.whole

/-- The free pages of the image area: neither an entry's nor bad (R530). -/
def State.freePages (s : State) : List Nat :=
  let used := s.nvs.entries.flatMap NvsEntry.pages ++ ((s.nvs.op.bind NvsOp.entry).map NvsEntry.pages).getD []
  ((List.range 60).map (36 + ·)).filter fun p => !used.contains p && !s.nvs.badPages.contains p

/-- Count a write of a slot (SLOT_WEAR). -/
def State.wearSlot (s : State) (n : Nat) : State :=
  let w := leNat ((s.dom Obj.slotWear).drop (4 * n) |>.take 4)
  s.patchDom Obj.slotWear (4 * n) (leBytes 4 (min 0xFFFFFFFE (w + 1)))

/-- The write count of a page. -/
def State.pageWear (s : State) (p : Nat) : Nat := leNat ((s.dom Obj.pageWear).drop (4 * p) |>.take 4)

/-- Count a write of an image-area page (PAGE_WEAR). -/
def State.wearPage (s : State) (p : Nat) : State :=
  s.patchDom Obj.pageWear (4 * p) (leBytes 4 (min 0xFFFFFFFF (s.pageWear p + 1)))

/-- A slot that failed read-back leaves the rotation for good (R534). -/
def State.spoilSlot (s : State) (n : Nat) : State :=
  let s := s.putSlot n none
  let s := { s with nvs := { s.nvs with badSlots := s.nvs.badSlots ++ [n] } }
  s.patchDom Obj.slotWear (4 * n) (List.replicate 4 0xFF#8)

/-- Pages that failed read-back are bad for good (R534). -/
def State.spoilPages (s : State) (l : List Nat) : State :=
  { s with nvs := { s.nvs with badPages := s.nvs.badPages ++ l.filter fun p => !s.nvs.badPages.contains p } }

/-- A slot or page has been written more than 1,000 times (R536). -/
def State.wornOut (s : State) : Bool :=
  ((List.range 16).any fun n =>
    let w := leNat ((s.dom Obj.slotWear).drop (4 * n) |>.take 4)
    decide (1000 < w) && w != 0xFFFFFFFF) || ((List.range 96).any fun p => decide (1000 < s.pageWear p))

/-- NVS_STATUS as a read gives it (R541): the stored bits [0] and [1], whether an operation runs, and wear. -/
def State.nvsStatusWord (s : State) : Nat :=
  withBit (withBit (s.obj Obj.nvsStatus) 2 s.nvs.op.isSome) 3 s.wornOut

/-- AREA_DIRECTORY (R541). -/
def State.areaDirectory (s : State) : List Byte :=
  (List.range 100).flatMap fun n =>
    match s.entryOf n with
    | none => zeros 16
    | some e => leBytes 4 e.content.length ++ leBytes 4 e.seq ++ leBytes 8 e.ts

/-- AREA_00 to AREA_99 (R542). -/
def State.areaContent (s : State) (n : Nat) : List Byte := ((s.entryOf n).map NvsEntry.content).getD []

/-- The newest slot shows in ACTIVE_SLOT, ACTIVE_SEQ and SYSREC_BANK (R541). -/
def State.showSlot (s : State) (n : Nat) (x : NvsSlot) : State :=
  ((s.setObj Obj.activeSlot n).setObj Obj.activeSeq x.seq).setObj Obj.sysrecBank x.bank

/-! Commands. -/

/-- VIN is absent, and the bank is degraded or holds too little for a store (R529, R617). -/
def State.noEnergy (s : State) : Bool :=
  !s.bit Obj.vinStatus 0 && (s.bit Obj.holdupStatus 2 || decide (s.obj Obj.holdupEAct < 600))

/-- A store channel trains or resumes. -/
def State.anyTraining (s : State) : Bool := channels4.any fun ch => (s.chan ch).train.isSome || (s.chan ch).resuming

/-- Why a settings-store command is refused (R529, R533). -/
def State.nvsRefused (s : State) (store : Bool) : Option Nat :=
  if s.nvs.op.isSome then some 0xA
  else if store && s.anyTraining then some 9
  else if s.noEnergy then some 9
  else none

/-- A command refused under R529 is counted, and a degraded bank recorded. -/
def State.countNvsRefusal (s : State) (store : Bool) : State :=
  if s.nvs.op.isNone && !(store && s.anyTraining) && s.noEnergy then
    (s.bump Obj.storeRefusals).when (s.bit Obj.holdupStatus 2) fun s => s.setBit Obj.nvsFaultCause 5 true
  else s

/-- The trained sets the engine holds, as a bank records them (R519, R528). -/
def State.setsNow (s : State) : SMap TrainedSet :=
  (List.range 16).foldl (fun m i =>
    let x := (s.chan (i / 4)).sets.getD (i % 4) {}
    mapSet (fun _ => ({} : TrainedSet)) m i (if x.valid && s.bit (Obj.setValid (i / 4)) (i % 4) then x else {})) []

/-- The bank that a store of new system records goes to (R528): the other one, or with none named the one not valid, or the older. -/
def State.otherBank (s : State) (named : Option Nat) : Nat :=
  match named with
  | some b => if b = 0 then 1 else 0
  | none =>
    if !(s.bankOf 0).whole then 0 else if !(s.bankOf 1).whole then 1
    else if (s.bankOf 0).seq ≤ (s.bankOf 1).seq then 0 else 1

/-- The bank a slot carries: the one named by the slot being replaced when it holds the same records, else a fresh one to be written. -/
def State.bankPlan (s : State) (old : Option NvsSlot) : Nat × Nat × Option NvsBank :=
  let named := old.bind fun x => if x.bank = 0xFF then none else some x.bank
  let same := match named with
    | none => none
    | some b =>
      let x := s.bankOf b
      if x.whole && x.sets == s.setsNow && x.fence == s.fence then some (b, x.seq) else none
  match same with
  | some (b, q) => (b, q, none)
  | none =>
    let q := max (s.bankOf 0).seq (s.bankOf 1).seq + 1
    (s.otherBank named, q, some { seq := q, ts := s.ts, sets := s.setsNow, fence := s.fence, whole := true })

/-- The command names the communication group; the application group. -/
def namesComm (i : Nat) : Bool := i == 1 || i == 2
def namesApp (i : Nat) : Bool := i == 1 || i == 3

/-- The default flags of the new slot (R525, R526): a restore marks the groups it names, a store of a group clears its mark; the groups not
named keep those of the slot being replaced; a store writes system records. -/
def newFlags (restore : Bool) (i old : Nat) : Nat :=
  let f := withBit old 0 (if namesComm i then restore else bitOf old 0)
  let f := withBit f 1 (if namesApp i then restore else bitOf old 1)
  withBit f 2 (if restore then i == 1 || i == 4 || bitOf old 2 else false)

/-- The body of the new slot (R525, R526). -/
def State.newBody (s : State) (restore : Bool) (i : Nat) (old : List (Nat × List Byte)) : List (Nat × List Byte) :=
  let kept := old.filter fun e => if commObj e.1 then !namesComm i else !namesApp i
  if restore then kept
  else
    let fresh := s.snapshot (namesComm i) (namesApp i)
    fresh.foldl (fun l e => insertRecord e l) kept

/-- A store or restore is accepted: its snapshot is taken and its writing begins (R525 to R528). -/
def State.nvsBegin (s : State) (restore : Bool) (i : Nat) : State :=
  let status := if restore then Obj.nvsLoad (i - 1) else Obj.nvsSave (i - 1)
  let best := s.newestSlot
  let old := (best.map (·.2)).getD { body := [] }
  let flags := newFlags restore i (if best.isSome then old.flags else 0)
  let plan := s.bankPlan (best.map (·.2))
  let sys := !bitOf flags 2
  let x : NvsSlot :=
    { seq := (best.map fun b => b.2.seq + 1).getD 1, part := partCodeOf s.part, firmware := (Config.firmwareVersion s.nvs.fwRunning).toNat,
      ts := s.ts, kind := if restore then 2 else 1, flags, bank := if sys then plan.1 else 0xFF, bankSeq := if sys then plan.2.1 else 0,
      body := s.newBody restore i old.body }
  let bank := if sys then plan.2.2.map fun b => (plan.1, b) else none
  let place := (s.nextSlot (best.map (·.1))).map fun n => (n, x)
  let s := match bank with
    | some (b, _) => (s.putBank b { s.bankOf b with whole := false }).each ((List.range 18).map (18 * b + ·)) fun p t => t.wearPage p
    | none => s
  ({ s with nvs := { s.nvs with op := some { status, started := s.now, bank, slot := place } } }).setObj status 1

/-! User entries (R530). -/

/-- The free pages with the lowest wear counts. -/
def State.leastWorn (s : State) (l : List Nat) (n : Nat) : List Nat :=
  (l.mergeSort fun a b => decide (s.pageWear a < s.pageWear b) || (s.pageWear a == s.pageWear b && decide (a ≤ b))).take n

/-- A content of the length can be written as a user entry (R530). -/
def State.areaFits (s : State) (len : Nat) : Bool :=
  1 ≤ len && decide (len ≤ 90048) && decide (entryPages len ≤ s.freePages.length)

/-- The next entry sequence number. -/
def State.entrySeq (s : State) : Nat := (s.nvs.entries.map NvsEntry.seq).foldl max 0 + 1

/-- The writing of user entry n begins (R530). -/
def State.areaBegin (s : State) (status n : Nat) (content : List Byte) : State :=
  let pages := s.leastWorn s.freePages (entryPages content.length)
  let e : NvsEntry := { number := n, seq := s.entrySeq, ts := s.ts, content, pages }
  let s := s.each pages fun p t => t.wearPage p
  ({ s with nvs := { s.nvs with op := some { status, started := s.now, entry := some e } } }).setObj status 1

/-- Bytes of user entry n are freed at once (R530). -/
def State.areaErase (s : State) (n : Nat) : State :=
  { s with nvs := { s.nvs with entries := s.nvs.entries.filter fun e => e.number != n } }

/-! The end of an operation. -/

/-- The store cannot complete (R534). -/
def State.nvsFails (s : State) (o : NvsOp) : State :=
  let s := { s with nvs := { s.nvs with op := none } }
  (((s.setObj o.status 0x89).bump Obj.storeFails).setBit Obj.nvsFaultCause 0 true).raise 44 (sourceWord 0 0)

/-- An operation completes: its time, and its status DONE (R528). -/
def State.nvsDone (s : State) (o : NvsOp) : State := ({ s with nvs := { s.nvs with op := none } }).setObj o.status 3

/-- The slot has been written and compares (R528). -/
def State.slotWritten (s : State) (o : NvsOp) (n : Nat) (x : NvsSlot) : State :=
  let s := (s.putSlot n (some x)).showSlot n x
  let s := s.setBit Obj.nvsStatus 1 (x.kind == 2)
  let s := { s with nvs := { s.nvs with bootOp := some ((x.body.find? fun e : Nat × List Byte => e.1 == Obj.opBoot).elim 3 fun e : Nat × List Byte => leNat e.2) } }
  ((s.nvsDone o).bump Obj.stores).setObj Obj.lastStoreUs (min 0xFFFFFFFF (ceilDiv (s.now - o.started) usTicks))

/-- The slot is written and read back, and once more in the next slot when a page fails (R528, R534). -/
def State.slotTries (s : State) (o : NvsOp) (x : NvsSlot) : List Bool → Option Nat → State
  | _, none => s.nvsFails o
  | [], some _ => s.nvsFails o
  | ok :: more, some n =>
    let s := s.wearSlot n
    if ok then s.slotWritten o n x else (s.spoilSlot n).slotTries o x more ((s.spoilSlot n).nextSlot (some n))

/-- A user entry is written and read back, and once more on other free pages when pages fail (R530, R534). -/
def State.entryTries (s : State) (o : NvsOp) (e : NvsEntry) (bad : List (List Nat)) : State :=
  let hit (l p : List Nat) : List Nat := p.filter l.contains
  let first := hit (bad.getD 0 []) e.pages
  let written (s : State) (e : NvsEntry) : State :=
    ({ s with nvs := { s.nvs with entries := (s.nvs.entries.filter fun x : NvsEntry => x.number != e.number) ++ [e] } }).nvsDone o
  if first.isEmpty then written s e
  else
    let s := s.spoilPages first
    let pages := s.leastWorn (s.freePages.filter fun p => !e.pages.contains p) (entryPages e.content.length)
    if pages.length < entryPages e.content.length then s.nvsFails o
    else
      let s := s.each pages fun p t => t.wearPage p
      let second := hit (bad.getD 1 []) pages
      if second.isEmpty then written s { e with pages } else (s.spoilPages second).nvsFails o

/-- The longest an operation takes, in µs (R532): by the pages of a user entry, or by whether a bank is written. -/
def NvsOp.mostUs (o : NvsOp) : Nat :=
  match o.entry with
  | some e => 2000 * e.pages.length + 2000
  | none => if o.bank.isSome then 50000 else 12000

/-- The running operation finishes after a time (R528, R532): whether the bank compared, whether the slot compared at its first and second
place, and the pages of a user entry that failed at its first and second try. -/
def State.nvsOperationDone (s : State) (us : Nat) (bankOk slotOk slotOk2 : Bool) (bad bad2 : List Nat) : State :=
  match s.nvs.op with
  | none => s
  | some o =>
    let s := s.advanceTo (o.started + min us o.mostUs * usTicks)
    match o.entry with
    | some e => s.entryTries o e [bad, bad2]
    | none =>
      let bankFails := o.bank.isSome && !bankOk
      if bankFails then
        let b := (o.bank.map (·.1)).getD 0
        (s.spoilPages ((bad.filter fun p => decide (p < 18)).map (18 * b + ·))).nvsFails o
      else
        let s := match o.bank with
          | some (b, x) => s.putBank b x
          | none => s
        match o.slot with
        | none => s.nvsFails o
        | some (n, x) => s.slotTries o x [slotOk, slotOk2] (some n)

/-- An operation is abandoned because the bank runs low: the previous copy stays valid and the status reads FAILED (R533, R534). -/
def State.nvsAbandon (s : State) : State :=
  match s.nvs.op with
  | none => s
  | some o => s.nvsFails o

/-- A cold reset stops an operation at once (R533): how far the write had come is a free value, and it may have spoiled the slot it was going
to or left an entry whose content CRC fails. -/
def State.nvsInterrupt (s : State) : State :=
  match s.nvs.op with
  | none => s
  | some o =>
    let how := s.freeNat 0 % 3
    let s := { (s.drew 1) with nvs := { s.nvs with op := none } }
    let s := match o.slot with
      | some (n, x) => if how = 0 then s else (s.wearSlot n).putSlot n (if how = 1 then none else some { x with whole := false })
      | none => s
    match o.entry with
    | some e => if how = 2 then { s with nvs := { s.nvs with entries := s.nvs.entries ++ [{ e with whole := false }] } } else s
    | none => s

/-! Start-up (R537 to R540). -/

/-- An interrupted store lies above the best slot (R537). -/
def State.storeLost (s : State) : Bool :=
  (List.range 16).any fun n =>
    match s.slot n with
    | some x => !x.whole && x.part == partCodeOf s.part &&
        (match s.newestSlot with | some (_, y) => decide (y.seq < x.seq) | none => true)
    | none => false

/-- A record can take effect: its object exists, its length is right, and its value lies in its range (R538). -/
def recordFits (k : Nat) (d : List Byte) : Bool :=
  match rowOf k with
  | none => false
  | some r =>
    storedObj k && (if r.ty.wide then (domDefault k).length == 0 || d.length == (domDefault k).length
      else d.length == r.ty.size && r.rng.ok (8 * r.ty.size) (leNat d) && (r.ty != .bool || decide (leNat d ≤ 1))) && rangeFixed k (leNat d) d

/-- One record of the chosen slot is applied, or skipped and counted (R538). -/
def State.applyRecord (s : State) (skip : Nat → Bool) (e : Nat × List Byte) : State :=
  if skip e.1 then s
  else if recordFits e.1 e.2 then
    if ((rowOf e.1).map fun r => r.ty.wide).getD false then s.putDom e.1 e.2 else s.setObj e.1 (leNat e.2)
  else s.bump Obj.slotSkipped

/-- Every stored object takes its factory default, but for those that are kept (R526, R537). -/
def State.defaultsWhere (s : State) (keep : Nat → Bool) : State :=
  { s with dict := s.dict.filter fun e => !storedObj e.1 || keep e.1, doms := s.doms.filter fun e => !storedObj e.1 || keep e.1 }

/-- A slot is applied: each group at defaults, or its records (R538). -/
def State.applySlot (s : State) (keep : Nat → Bool) (x : NvsSlot) : State :=
  let s := (s.defaultsWhere keep).setObj Obj.slotSkipped 0
  s.each (x.body.filter fun e => if commObj e.1 then !bitOf x.flags 0 else !bitOf x.flags 1) fun e t => t.applyRecord keep e

/-- The stored sets and the fence of the bank a slot names: whether the bank is valid, the sets and the fence (R539). -/
def State.sysRecords (s : State) (x : NvsSlot) : Bool × SMap TrainedSet × List Nat :=
  if x.bank = 0xFF ∨ bitOf x.flags 2 then (true, [], [])
  else
    let b := s.bankOf x.bank
    if b.whole && b.seq == x.bankSeq then (true, b.sets, b.fence) else (false, [], [])

/-- The stored sets go to the channels (R264, R539). -/
def State.loadSets (s : State) (m : SMap TrainedSet) : State :=
  s.each (List.range 16) fun i t =>
    t.modChan (i / 4) fun c => { c with sets := c.sets.set (i % 4) (mapGet (fun _ => ({} : TrainedSet)) m i) }

/-- An interrupted user-entry write is found and reported; its pages are free (R540, R535). -/
def State.scanArea (s : State) : State :=
  if s.nvs.entries.any fun e => !e.whole then
    let s := { s with nvs := { s.nvs with entries := s.nvs.entries.filter NvsEntry.whole } }
    (s.setBit Obj.nvsFaultCause 4 true).raise 44 (sourceWord 0 4)
  else s

/-- The firmware of the other bank runs from the next reset if its check passes there (R531). -/
def State.bootFirmware (s : State) (ok : Bool) : State :=
  match s.nvs.fwIdle with
  | some n =>
    if ok then { s with nvs := { s.nvs with fwRunning := n, fwIdle := none } } else s
  | none => s

/-- An FoE FIRMWARE package passes the vendor's check and is written to the bank that does not run, once no operation runs (R531, R533). -/
def State.placeFirmware (s : State) : State :=
  if s.nvs.op.isSome then { s with nvs := { s.nvs with fwWaiting := true } }
  else { s with nvs := { s.nvs with fwWaiting := false, fwLoads := s.nvs.fwLoads + 1, fwIdle := some (s.nvs.fwLoads + 1) } }

end Sys2Proof.Machine
end

