-- ==== Sys2Proof/Machine/Vcore.lean ====
section
/-! DEFINITION. VCORE: the values of the operating points, the setpoint with its trim and its load-line offset, and the output's path
(R601 to R604, R612, R625). Voltages are in 0.1 mV, currents in mA. -/

namespace Sys2Proof.Machine

/-- V_NOM, V_MIN and I_OP (R602). -/
def vNom (op : Nat) : Nat := match op with | 0 => 8800 | 1 => 8000 | 2 => 7200 | _ => 6500
def vMin (op : Nat) : Nat := match op with | 0 => 8450 | 1 => 7700 | 2 => 6900 | _ => 6200
def opLoad (op : Nat) : Nat := match op with | 0 => 45000 | 1 => 36000 | 2 => 24000 | _ => 15000

/-- The most a VCORE setpoint may be (R604, R612). -/
def vCap : Nat := 9500

/-- VCORE_TRIM_OPk in mV. -/
def State.vTrim (s : State) (op : Nat) : Int := toInt 16 (s.obj (Obj.vcoreTrimOp op))

/-- The VCORE target of an operating point (R603), at most 0.950 V. -/
def State.vTarget (s : State) (op : Nat) : Nat := min vCap ((vNom op : Int) + 10 * s.vTrim op).toNat

/-- A trim would make the target lower than V_MIN (R603, R248). -/
def State.trimLow (s : State) (op : Nat) : Bool := decide ((vNom op : Int) + 10 * s.vTrim op < vMin op)

/-- The acting setpoint: the target plus LL_OFFSET, within V_MIN and 0.950 V (R604). -/
def State.vActing (s : State) (op : Nat) : Nat := max (vMin op) (min vCap ((s.vTarget op : Int) + s.regs.ll).toNat)

/-- Where the output stands. -/
def State.vcoreNow (s : State) : Nat :=
  let r := s.regs
  if !r.on then 0
  else
    let m := r.rate * (s.now - r.t0) / usTicks
    if r.rate = 0 then r.target else if r.v0 ≤ r.target then min r.target (r.v0 + m) else max r.target (r.v0 - m)

/-- When the output, heading for its target, reaches a value. -/
def State.vcoreReach (s : State) (v : Nat) : Nat :=
  let r := s.regs
  if r.rate = 0 then s.now
  else if r.v0 ≤ r.target then (if v ≤ r.v0 then s.now else max s.now (r.t0 + ceilDiv ((v - r.v0) * usTicks) r.rate))
  else if r.v0 ≤ v then s.now else max s.now (r.t0 + ceilDiv ((r.v0 - v) * usTicks) r.rate)

/-- The setpoint changes: the output slews to it at a rate in mV per microsecond. -/
def State.vcoreGo (s : State) (target slew : Nat) : State :=
  { s with regs := { s.regs with v0 := s.vcoreNow, t0 := s.now, target := target, rate := slew * 10 } }

/-- The setpoint of the operating point in force acts, unless a transition holds it (R603, R621). -/
def State.applySetpoint (s : State) : State :=
  if s.regs.on && s.clk.run.isNone then s.vcoreGo (s.vActing (s.obj Obj.opCurrent)) (s.obj Obj.vcoreSlew) else s

/-- LL_OFFSET as it reads, in whole mV (R625): how the odd half reads is open. -/
def State.llOffsetWord (s : State) : Nat :=
  let n := s.regs.ll.natAbs
  let m : Int := if Config.llUp then ceilDiv n 10 else n / 10
  ofInt 16 (if s.regs.ll < 0 then -m else m)

/-- LL_OFFSET within LL_DOWN and LL_UP, V_MIN and 0.950 V (R604). -/
def State.llClamp (s : State) (want : Int) : Int :=
  let t : Int := s.vTarget (s.obj Obj.opCurrent)
  min ((vCap : Int) - t) (max ((vMin (s.obj Obj.opCurrent) : Int) - t) (max (-(10 * (s.obj Obj.llDown : Int))) (min (10 * (s.obj Obj.llUp : Int)) want)))

/-- A step of LL_OFFSET: clamped at LL_DOWN and LL_UP, at V_MIN and at 0.950 V, and pinned when it is clamped, until it leaves the bound (R249,
R604). -/
def State.llMove (s : State) (delta : Int) : State :=
  if !s.regs.on || s.clk.run.isSome then s
  else
    let op := s.obj Obj.opCurrent
    let t : Int := s.vTarget op
    let want := s.regs.ll + delta
    let low := decide (t + max (-(10 * (s.obj Obj.llDown : Int))) (min (10 * (s.obj Obj.llUp : Int)) want) < vMin op)
    let v := s.llClamp want
    let stays := s.bit Obj.vcoreStatus 2 && (s.llClamp (v + 1) == v || s.llClamp (v - 1) == v)
    let pin := decide (v ≠ want) || stays
    let low := if v = want then stays && s.bit Obj.vcoreStatus 3 else low
    let s := if pin && !s.bit Obj.vcoreStatus 2 then s.bump Obj.llPinnedCount else s
    let s := (s.setBit Obj.vcoreStatus 2 pin).setBit Obj.vcoreStatus 3 low
    ({ s with regs := { s.regs with ll := v } }).applySetpoint

/-- A step of the load-line loop (R604): the monitors have all reported margin above their upper threshold, or one below its lower. -/
def State.loadlineStep (s : State) (high low : Bool) : State :=
  let step := 100 * usTicks
  let s := s.advanceTo ((s.now / step + 1) * step)
  s.llMove (if low then 25 else if high then -25 else 0)

/-- A margin monitor's alarm (R604). -/
def State.marginAlarm (s : State) : State := s.llMove 250

/-- VCORE_STATUS as it reads (R625): in regulation and slewing come from the output, foldback from the supply. -/
def State.vcoreStatusWord (s : State) : Nat :=
  let slewing := s.regs.on && s.vcoreNow != s.regs.target
  let w := withBit (s.obj Obj.vcoreStatus) 0 (s.regs.on && !slewing && !s.regs.fold)
  withBit (withBit w 1 slewing) 4 s.regs.fold

/-- VCORE_TARGET as it reads, in mV (R625). -/
def State.vcoreTargetWord (s : State) : Nat := s.vTarget (s.obj Obj.opCurrent) / 10

/-- The phases of a mask in service. -/
def phaseCount (m : Nat) : Nat := popCount 6 m

/-- The combined rating of the VCORE phases in service (R608). -/
def State.vcoreRating (s : State) : Nat := 15000 * phaseCount (s.obj Obj.phasesInService)

end Sys2Proof.Machine
end

