-- ==== Sys2Proof/Machine/OpChange.lean ====
section
/-! DEFINITION. Operating-point changes: the checks of a request, its steps, and the forced move to OP3 (R45 to R48, R602, R610 to R613,
R621). -/

namespace Sys2Proof.Machine

/-! State other blocks ask for. -/

/-- A power-state transition is in progress or waiting, or the engine is outside RUN (R569). -/
def State.pwrBusy (s : State) : Bool := s.pwr.mode != 0 || s.pwr.entry.isSome || s.pwr.waking || s.pwr.waiting.isSome

/-- HH_STATE (R555). -/
def State.hedgehog (s : State) : Bool := s.bit Obj.fltStatus 1

/-- VIN is present (R614). -/
def State.vinOn (s : State) : Bool := s.bit Obj.vinStatus 0

/-- Some pads are latched (R580). -/
def State.padsLatched (s : State) : Bool := s.obj Obj.padStatus != 0

/-- An operating-point transition is in progress or waiting, a forced move held by an entry included (R45, R65 CLK, R621). -/
def State.opBusy (s : State) : Bool := s.clk.run.isSome || s.clk.waiting.isSome || s.clk.heldForce.isSome

/-- The channels stay in self-refresh after a transition: Hedgehog, a PARK reaction, absent VIN, a clock failure, a reset or latched pads
hold them (R19, R553, R641, R51, R634). -/
def State.channelsHeld (s : State) : Bool :=
  s.hedgehog || s.bit Obj.fltStatus 2 || !s.vinOn || s.bit Obj.live 50 || s.obj Obj.runPhase == 1 || s.padsLatched || s.rst.hold

/-! The checks of R610. -/

/-- A check of R610: OP_LAST_REFUSAL, the reason, and whether it fails for a target. -/
def State.opChecks (s : State) (op : Nat) : List (Nat × Nat × Bool) :=
  let live := s.acceptedChans.filter fun ch => !(s.chan ch).failed
  [(0x1, 0xB, decide (op < 2) && channels4.any fun ch => (s.chan ch).dimms.length == 2),
   (0x2, 0xB, live.any fun ch => !s.storedSet ch op || !s.bit (Obj.setValid ch) op),
   (0x3, 0xB, live.any fun ch => (s.freshWheel ch op (s.chan ch).shed).isNone),
   (0x4, 0xB, s.probeChans.any fun n => s.pbOn n && !rateOk (s.pbMult n) (cclkHzOf op)),
   (0x5, 9, s.obj Obj.shmooOffset != 0 || s.obj Obj.shmooActual != 0),
   (0x6, 9, s.anyTraining),
   (0x7, 9, s.pwrBusy),
   (0x8, 9, s.hedgehog),
   (0x9, 0xB, decide (s.vcoreRating < opLoad op)),
   (0xA, 9, !s.vinOn),
   (0xB, 9, s.padsLatched),
   (0xC, 9, s.probeChans.any fun n => s.pbIs n pbRunning)]

/-- The checks that refuse the write itself, whatever runs (R569, R556, R642). -/
def opWriteChecks : List Nat := [7, 8, 10]

/-- The check that a request fails first, if any: at its write while a transition runs only those that refuse the write, and a request for
the operating point in force only those (R610). -/
def State.opFirstFail (s : State) (op : Nat) (atWrite : Bool) : Option (Nat × Nat) :=
  let all := s.opChecks op
  let some' := all.filter fun x => opWriteChecks.contains x.1
  let l := if op = s.obj Obj.opCurrent ∨ (atWrite ∧ s.opBusy) then some' else some' ++ all
  (l.find? fun x => x.2.2).map fun x => (x.1, x.2.1)

/-- A failed check is recorded and counted (R610, R47). -/
def State.opRefusal (s : State) (code : Nat) : State := (s.setObj Obj.opLastRefusal code).bump Obj.clockRefusals

/-! The steps of R611. -/

def State.modOp (s : State) (f : OpRun → OpRun) : State := { s with clk := { s.clk with run := s.clk.run.map f } }

/-- The transition shows its step. -/
def State.opStep (s : State) (k : Nat) : State := (s.modOp fun r => { r with step := k }).setObj Obj.opState k

/-- Step 4 begins: the core PLL is out of lock until it has relocked, and the frame alignment is suspended (R48, R611). -/
def State.opRetune (s : State) : State :=
  let s := s.opStep 4
  let now := s.now
  ((s.modOp fun r => { r with retuneAt := now }).setBit Obj.clockStatus 0 false).setBit Obj.clockStatus 6 false

/-- No transition is running. -/
def State.opClear (s : State) : State :=
  (({ s with clk := { s.clk with run := none } }).setObj Obj.opState 0).setObj Obj.opTarget 0xFF

/-- LL_OFFSET returns to 0, and so is not clamped (R604). -/
def State.llZero (s : State) : State :=
  (({ s with regs := { s.regs with ll := 0 } }).setBit Obj.vcoreStatus 2 false).setBit Obj.vcoreStatus 3 false

/-- VCORE heads for the target of the transition. -/
def State.opSlew (s : State) (r : OpRun) : State :=
  s.llZero.vcoreGo (s.llZero.vTarget r.target) (if r.forced then 40 else s.obj Obj.vcoreSlew)

/-- Step 2: the accepted channels in service enter self-refresh (R224); step 3 or 4 follows. -/
def State.opDrain (s : State) (r : OpRun) : State :=
  let l := s.acceptedChans.filter fun ch => !(s.chan ch).parked && !(s.chan ch).failed
  let s := s.each l fun ch t => if (t.chan ch).selfRefresh then t else t.enterSelfRefresh ch
  let s := s.each l fun ch t => t.modChan ch fun c => { c with resuming := false }
  let r := { r with drained := (r.drained ++ l).eraseDups }
  let s := ({ s with clk := { s.clk with run := some r } }).setObj Obj.opTarget r.target
  if r.target < r.fromOp then (s.opSlew r).opStep 3
  else if r.target = r.fromOp && r.step != 4 then (s.opSlew r).opStep 5
  else s.opRetune

/-- The transition's end: OP_REQUEST or FORCED_MOVES, LAST_OP_US, and the setpoint with the trims written meanwhile (R611, R621). -/
def State.opEnds (s : State) (r : OpRun) : State :=
  let s := s.opClear.setObj Obj.lastOpUs (min 0xFFFFFFFF (ceilDiv (s.now - r.began) usTicks))
  let s := if r.forced then { s with regs := { s.regs with forcedEnd := some s.now } }
    else (s.bump Obj.opChanges).setObj Obj.opRequest (if s.clk.waiting.isSome then 2 else 3)
  s.applySetpoint

/-- Step 6: the wheel is placed, and the channels resume (R611, R251). -/
def State.opResume (s : State) (r : OpRun) : State :=
  let s := s.opStep 6
  let s := s.each s.acceptedChans fun ch t => (t.placeFresh ch r.target).modChan ch fun c => { c with keptOffsets := false }
  if s.channelsHeld || !r.resume then s.opEnds r
  else s.each r.drained fun ch t => t.startResume ch false

/-- Step 6 ends when every channel it brought back has resumed, trained or failed. -/
def State.opSettle (s : State) : State :=
  match s.clk.run with
  | some r => if r.step = 6 && !(r.drained.any fun ch => (s.chan ch).resuming || (s.chan ch).train.isSome) then s.opEnds r else s
  | none => s

/-- The core PLL has relocked after a retune (R48, R611): OP_CURRENT and CCLK_HZ change. -/
def State.pllRelock (s : State) (us : Nat) : State :=
  match s.clk.run with
  | some r =>
    if r.step = 4 then
      let s := (s.advanceTo (r.retuneAt + min us 10 * usTicks)).setOp r.target
      if r.fromOp < r.target || r.forced then (s.opSlew r).opStep 5 else s.opResume r
    else s
  | none => s

/-- VCORE comes within 10 mV of its target setpoint (R611); a retune upwards also waits for V_MIN of the target (R612). -/
def State.vcoreSlewDone (s : State) : State :=
  match s.clk.run with
  | some r =>
    let t := s.regs.target
    if r.step = 3 then (s.advanceTo (s.vcoreReach (max (t - 100) (min t (vMin r.target))))).opRetune
    else if r.step = 5 then (s.advanceTo (s.vcoreReach (if t < s.regs.v0 then t + 100 else t - 100))).opResume r
    else s
  | none => s

/-- A request that has passed its checks starts (R610, R611). -/
def State.opBegin (s : State) (op : Nat) : State :=
  if op = s.obj Obj.opCurrent then s.cmdDone Obj.opRequest
  else (s.setObj Obj.opRequest 1).opDrain { target := op, began := s.now, fromOp := s.obj Obj.opCurrent }

/-- OP_REQUEST has been accepted: it starts, or waits behind the transition in progress (R89). -/
def State.opRequested (s : State) (op : Nat) : State :=
  if s.clk.run.isSome then ({ s with clk := { s.clk with waiting := some op } }).setObj Obj.opRequest 2 else s.opBegin op

/-- A waiting request starts at the end of the transition ahead of it, and is checked then (R610). -/
def State.opRequestStart (s : State) : State :=
  match s.clk.waiting with
  | some op =>
    if s.clk.run.isSome then s
    else
      let s := { s with clk := { s.clk with waiting := none } }
      match s.opFirstFail op false with
      | some (code, reason) => (s.opRefusal code).cmdFailed Obj.opRequest reason
      | none => s.opBegin op
  | none => s

/-- The channels a transition put into self-refresh resume at the operating point in force (R621). -/
def State.opReturn (s : State) (r : OpRun) : State :=
  if s.channelsHeld then s else s.each r.drained fun ch t => if (t.chan ch).selfRefresh then t.startResume ch false else t

/-- VCORE stays at the voltage it has reached (R621). -/
def State.vcoreStays (s : State) : State :=
  let v := s.vcoreNow
  if s.regs.on then { s with regs := { s.regs with v0 := v, target := v, t0 := s.now, rate := 0 } } else s

/-- A retune that nothing completes any more ends in a relock at OP_CURRENT, which has not changed yet (DEDUCED, log entry 154). -/
def State.relockHere (s : State) : State :=
  if !s.bit Obj.clockStatus 0 && !s.bit Obj.clockStatus 4 then s.setOp (s.obj Obj.opCurrent) else s

/-- A requested change ends where it stands with a reason; the clock and voltage reached stay in force (R621). -/
def State.opFails (s : State) (reason : Nat) (bringBack : Bool) : State :=
  match s.clk.run with
  | some r =>
    if r.forced then s
    else
      let s := s.opClear.vcoreStays.cmdFailed Obj.opRequest reason
      if bringBack then s.relockHere.opReturn r else s
  | none => s

/-- A waiting request is discarded, FAILED (R621). -/
def State.opDropWaiting (s : State) : State :=
  if s.clk.waiting.isSome then ({ s with clk := { s.clk with waiting := none } }).cmdFailed Obj.opRequest 9 else s

/-- SHMOO_OFFSET and SHMOO_ACTUAL are zero at once, as part of a retune (R45, R51, R634). -/
def State.zeroShmoo (s : State) : State :=
  let s := ((s.setObj Obj.shmooOffset 0).setObj Obj.shmooActual 0).setBit Obj.clockStatus 5 true
  ({ s with clk := { s.clk with regrid := false } }).showUnsure

/-- A running burst ends without its records; the channel is IDLE (R613). -/
def State.quietBurst (s : State) (n : Nat) : State :=
  if s.pbIs n pbRunning then
    ((s.dropSequencer n).modPb n fun x => { x with due := [], driven := none }).setObj (Obj.pbState n) pbIdle
  else s

/-- A probe channel at the start of a forced move: curled when OP3 takes it outside its rate range (R46, R613). -/
def State.forceProbe (s : State) (n : Nat) : State :=
  if s.pbOn n && !rateOk (s.pbMult n) (cclkHzOf 3) then s.curl n 5 false else s.quietBurst n

/-- A forced move begins (R613, R621). -/
def State.forceBegin (s : State) (resume : Bool) : State :=
  let old := s.clk.run
  let s := (s.bump Obj.forcedMoves).opDropWaiting
  let s := s.opFails 9 false
  let s := s.zeroShmoo
  let s := s.each s.probeChans fun n t => t.forceProbe n
  let s := s.each s.acceptedChans fun ch t => t.abandonTraining ch false
  let op := s.obj Obj.opCurrent
  let step := if (old.map OpRun.step) == some 4 then 4 else 2
  s.opDrain { target := 3, forced := true, step, began := s.now, fromOp := op, resume, drained := (old.map OpRun.drained).getD [] }

/-- An entry is in progress before its point of no return. -/
def State.entering (s : State) : Bool := s.pwr.entry.isSome

/-- A forced move to OP3 is asked for (R608, R613, R641): it joins one in progress, changes nothing with OP3 in force, and is a wake event
for an entry in progress, after whose undo it runs (R621). -/
def State.forcedMove (s : State) (resume : Bool) : State :=
  if !s.regs.on then s
  else
    match s.clk.run with
    | some r =>
      if r.forced then s.modOp fun x => { x with resume := x.resume && resume } else s.forceBegin resume
    | none =>
      if s.obj Obj.opCurrent = 3 then ({ s with regs := { s.regs with forcedEnd := some s.now } }).relockHere
      else if s.entering then
        { s with clk := { s.clk with heldForce := some (resume && s.clk.heldForce.getD true) },
                 pwr := { s.pwr with entry := s.pwr.entry.map fun e : Entry => { e with abandon := true } } }
      else s.forceBegin resume

/-- A forced move held by an entry runs when the undo is complete (R621). -/
def State.releaseForce (s : State) : State :=
  match s.clk.heldForce with
  | some b => ({ s with clk := { s.clk with heldForce := none } }).forcedMove b
  | none => s

/-- A warm reset abandons a requested transition: a retune that has begun completes, and VCORE goes to the setpoint of OP_CURRENT (R634). -/
def State.opAbandon (s : State) : State :=
  match s.clk.run with
  | some r =>
    if r.forced then s.opDropWaiting
    else
      let s := if r.step = 4 then s.setOp r.target else s
      (s.opDropWaiting.opFails 9 false).llZero.applySetpoint
  | none => s.opDropWaiting

end Sys2Proof.Machine
end

