-- ==== Sys2Proof/Machine/Phases.lean ====
section
/-! DEFINITION. The phases of VCORE and of the DUT supplies: open phases, sense failures, foldback, and the self-tests that return phases
to service (R605 to R609, R622 to R624, R626). A supply is numbered 0 for VCORE, 1 + 2n for DUT_VDD and 2 + 2n for DUT_VDDQ of channel n;
the phases of a channel are numbered as DUT_PHASES_IN_SERVICE numbers them. -/

namespace Sys2Proof.Machine

/-- The supply exists on the part (R601). -/
def State.supplyExists (s : State) (u : Nat) : Bool := u == 0 || (s.part == .ft4216 && decide (u < 5))

/-- The probe channel of a DUT supply. -/
def chanOfSupply (u : Nat) : Nat := (u - 1) / 2
/-- The DUT supply's number k (R348): DUT_VDD 0, DUT_VDDQ 1. -/
def kOfSupply (u : Nat) : Nat := (u - 1) % 2

/-- The phases of a supply, as the bits of its PHASES_IN_SERVICE object. -/
def phasesOf (u : Nat) : List Nat := if u = 0 then [0, 1, 2, 3, 4, 5] else if kOfSupply u = 0 then [0, 1, 2, 3] else [4, 5]

def serviceObj (u : Nat) : Nat := if u = 0 then Obj.phasesInService else Obj.dutPhasesInService (chanOfSupply u)
def currentsDom (u : Nat) : Nat := if u = 0 then Obj.phaseCurrents else Obj.dutPhaseCurrents (chanOfSupply u)

/-- The supply is on. -/
def State.supplyRuns (s : State) (u : Nat) : Bool := if u = 0 then s.regs.on else s.supplyOn (chanOfSupply u)

/-- The phases of a supply that serve. -/
def State.phasesIn (s : State) (u : Nat) : List Nat := (phasesOf u).filter fun p => s.bit (serviceObj u) p

/-- Lines 36, 37 and 38 follow the phases shut off (R607). -/
def State.phaseLines (s : State) (src37 src : Nat) : State :=
  let s := s.setCause 36 0 src (s.obj Obj.phasesInService != 0x3F)
  let s := s.setCause 37 0 src37 (s.regs.senseOff != 0)
  s.setCause 38 0 src (s.probeChans.any fun n => s.obj (Obj.dutPhasesInService n) != 0x3F)

/-- A phase is shut off (R607): counted, recorded, and its lines live; a requested change whose target needs it ends (R621). -/
def State.shutPhase (s : State) (u p : Nat) (sense : Bool) : State :=
  if !s.bit (serviceObj u) p then s
  else
    let s := s.setBit (serviceObj u) p false
    if u = 0 then
      let s := (s.bump Obj.phaseFails).when sense fun s => s.bump Obj.senseFails
      let bit := b2n sense
      let s := s.setBit Obj.regFaultCause bit true
      let s := if sense then { s with regs := { s.regs with senseOff := withBit s.regs.senseOff p true } } else s
      let s := s.phaseLines (sourceWord p bit) (sourceWord p bit)
      match s.clk.run with
      | some r => if !r.forced && decide (s.vcoreRating < opLoad r.target) then s.opFails 0xB true else s
      | none => s
    else
      let n := chanOfSupply u
      let s := (s.bump (Obj.dutPhaseFails n)).when sense fun s => s.bump (Obj.dutSenseFails n)
      let s := (s.setBit (Obj.supplyFaultCause n) 13 true).bump (Obj.supplyFaults n)
      let s := if sense then { s with regs := { s.regs with dutSense := withBit s.regs.dutSense (8 * n + p) true } } else s
      s.phaseLines 0 (sourceWord (16 * n + p) 13)

/-- A phase has shown no switching or too little current for 20 µs (R605). -/
def State.phaseOpen (s : State) (u p : Nat) : State :=
  if s.supplyExists u && s.supplyRuns u && (phasesOf u).contains p then s.shutPhase u p false else s

/-- The cross-check fails: the readings' sum differs from the expected current by more than 10 % of it plus 1 A, or 0.3 A (R606). -/
def senseBad (u sum expected : Nat) : Bool :=
  decide (10 * (if u = 0 then 1000 else 300) + expected < 10 * absDiff sum expected)

/-- A phase's reading differs by more than 30 % from the mean of the other phases in service (R606). -/
def readingOff (l : List (Nat × Nat)) (x : Nat × Nat) : Bool :=
  let others := l.filter fun y => y.1 != x.1
  let sum := (others.map (·.2)).sum
  others != [] && decide (3 * sum < 10 * absDiff (x.2 * others.length) sum)

/-- The readings as the phase currents object holds them. -/
def State.showCurrents (s : State) (u : Nat) (l : List (Nat × Nat)) : State :=
  let s := s.each (phasesOf u) fun p t => t.patchDom (currentsDom u) (4 * p) (leBytes 4 ((l.find? fun x => x.1 == p).elim 0 (·.2)))
  if u = 0 then s.setObj Obj.vcoreMeasI (min 0xFFFFFFFF (l.map (·.2)).sum) else s

/-- How many cross-checks of a supply have failed in a row, up to five. -/
def State.checksOf (s : State) (u : Nat) : Nat := mapGet (fun _ => 0) s.regs.checks u
def State.setChecks (s : State) (u n : Nat) : State := { s with regs := { s.regs with checks := mapSet (fun _ => 0) s.regs.checks u n } }

/-- A cross-check of a switching supply, every 10 µs: the readings of its phases in mA and the current its input sensor expects (R606). The input
sensor of a supply stays suspect until a check of that supply passes. -/
def State.senseCheck (s : State) (u : Nat) (readings : List Nat) (expected : Nat) : State :=
  if !(s.supplyExists u && s.supplyRuns u) then s
  else
    let step := 10 * usTicks
    let s := s.advanceTo ((s.now / step + 1) * step)
    let l := ((phasesOf u).zipIdx.map fun (p, i) => (p, readings.getD i 0)).filter fun x => (s.phasesIn u).contains x.1
    let s := s.showCurrents u l
    if !senseBad u (l.map (·.2)).sum expected then
      let s := s.setChecks u 0
      s.setBit Obj.vcoreStatus 5 ((List.range 5).any fun w => s.checksOf w == 5)
    else if s.checksOf u < 4 then s.setChecks u (s.checksOf u + 1)
    else
      let off := (l.filter (readingOff l)).map (·.1)
      if !off.isEmpty then (s.setChecks u 0).each off fun p t => t.shutPhase u p true
      else if s.checksOf u = 5 then s
      else ((s.setChecks u 5).setBit Obj.vcoreStatus 5 true).setBit Obj.regFaultCause 3 true

/-! Foldback (R608, R622). -/

/-- A supply enters foldback (R608): for VCORE a forced move follows, for a DUT supply the curl of R356. -/
def State.foldbackEntry (s : State) (u : Nat) : State :=
  if !(s.supplyExists u && s.supplyRuns u) then s
  else if u = 0 then
    if s.regs.fold then s
    else
      let s := { s with regs := { s.regs with fold := true, forcedEnd := none } }
      let s := ((s.bump Obj.foldbacks).setBit Obj.regFaultCause 2 true).beginCause 39 0 (sourceWord 0xFF 2)
      s.forcedMove true
  else
    let n := chanOfSupply u
    let k := kOfSupply u
    if ((s.pb n).supply k).fold then s
    else
      let s := (s.bump Obj.foldbacks).modSupply n k fun x => { x with fold := true }
      let s := (s.setBit Obj.regFaultCause 2 true).beginCause 39 (foldCause n k) (sourceWord (16 * n + k) 12)
      (s.supplyFaultAt n 12).curl n 3 true

/-- The current has stayed below 95 % of the combined rating for 100 µs: foldback ends (R608). -/
def State.foldbackExit (s : State) (u : Nat) : State :=
  if u = 0 then if s.regs.fold then ({ s with regs := { s.regs with fold := false } }).endCause 39 0 else s
  else
    let n := chanOfSupply u
    let k := kOfSupply u
    if ((s.pb n).supply k).fold then
      let s := s.modSupply n k fun x => { x with fold := false }
      let s := s.endCause 39 (foldCause n k)
      if (List.range 2).any fun j => ((s.pb n).supply j).fold then s else s.endCause (supplyLine n) 12
    else s

/-- VCORE must be shut down: it is still in foldback 100 µs after a forced move, or no phase serves (R622). -/
def State.mustShutDown (s : State) : Bool :=
  s.regs.on && (s.obj Obj.phasesInService == 0 ||
    (s.regs.fold && (match s.regs.forcedEnd with | some _ => true | none => false)))

/-! Self-tests (R609, R624). -/

/-- Why PHASE_RESTORE is refused. -/
def State.restoreRefused (s : State) : Option Nat := if s.regs.fold || s.clk.run.isSome then some 9 else none

/-- Why DUT_PHASE_RESTORE is refused: unless the supplies are all OFF. -/
def State.dutRestoreRefused (s : State) (n : Nat) : Option Nat := if s.powerIs n psOff then none else some 9

/-- The self-tests begin: of VCORE (0) or of channel n (1 + n). -/
def State.restoreStart (s : State) (i : Nat) : State :=
  let s := { s with regs := { s.regs with restoreFrom := mapSet (fun _ => 0) s.regs.restoreFrom i (s.now + 1) } }
  s.setObj (if i = 0 then Obj.phaseRestore else Obj.dutPhaseRestore (i - 1)) 1

/-- The self-tests complete: the phases that passed return to service (R609). -/
def State.restoreDone (s : State) (i pass us : Nat) : State :=
  let from' := mapGet (fun _ => 0) s.regs.restoreFrom i
  if from' = 0 then s
  else
    let s := s.advanceTo (from' - 1 + min us 1000 * usTicks)
    let k := if i = 0 then Obj.phasesInService else Obj.dutPhasesInService (i - 1)
    let back := pass % 64
    let s := s.setObj k (s.obj k ||| back)
    let s := { s with regs := { s.regs with
      restoreFrom := mapErase s.regs.restoreFrom i,
      senseOff := if i = 0 then clearBits s.regs.senseOff back else s.regs.senseOff,
      dutSense := if i = 0 then s.regs.dutSense else clearBits s.regs.dutSense (back <<< (8 * (i - 1))) } }
    (s.phaseLines 0 0).cmdDone (if i = 0 then Obj.phaseRestore else Obj.dutPhaseRestore (i - 1))

/-- The self-test of every VCORE phase at bring-up: each that fails is shut off (R624). -/
def State.selfTest (s : State) (pass : Nat) : State :=
  s.each ((phasesOf 0).filter fun p => !bitOf pass p) fun p t => t.shutPhase 0 p false

/-- The first DUT_POWER UP after a cold start self-tests the channel's phases (R624). -/
def State.dutSelfTest (s : State) (n pass : Nat) : State :=
  if (s.pb n).tested then s
  else
    let s := s.modPb n fun x => { x with tested := true }
    let s := s.each ([0, 1, 2, 3].filter fun p => !bitOf pass p) fun p t => t.shutPhase (1 + 2 * n) p false
    s.each ([4, 5].filter fun p => !bitOf pass p) fun p t => t.shutPhase (2 + 2 * n) p false

end Sys2Proof.Machine
end

