-- ==== Sys2Proof/Machine/Holdup.lean ====
section
/-! DEFINITION. VIN and the hold-up bank: presence, charging, the two energy estimates and E_ACT, lines 40 and 41, and the bank test
(R614 to R619). Voltages are in mV, charges in µC, capacitances in µF and energies in µJ. -/

namespace Sys2Proof.Machine

/-- C_EFF (R616). -/
def State.cEff (s : State) : Nat := s.obj Obj.holdupCEff

/-- E_Q: 6 V × Q + Q² ÷ (2 × C_EFF) (R616). -/
def energyQ (c q : Nat) : Nat := 6 * q + q * q / (2 * c)

/-- E_V: ½ × C_EFF × (V² − 36 V²), 0 at or below 6 V (R616). -/
def energyV (c v : Nat) : Nat := if v ≤ 6000 then 0 else c * (v * v - 36000000) / 2000000

/-- Q is held between 0 and C_EFF × 8.5 V (R616). -/
def clampQ (c : Nat) (q : Int) : Nat := min (c * 85 / 10) q.toNat

/-- Q as a full-charge point, a wake or a cold start sets it: C_EFF × (V − 6 V) (R616, R624). -/
def chargeAt (c v : Nat) : Nat := clampQ c (((c * (v - 6000) / 1000 : Nat)) : Int)

/-- The estimates disagree (R617). -/
def disagree (q v : Nat) : Bool := decide (10000 ≤ max q v) && decide (max q v < 5 * absDiff q v)

/-- An energy as an object holds it, in 0.1 mJ. -/
def energyWord (e : Nat) : Nat := min 0xFFFF (e / 100)

/-- The engine is in RUN or DOZE and its die is fed, so that a loss of VIN is line 40's (R618). -/
def State.runsOnRail (s : State) : Bool := s.regs.on && decide (s.pwr.mode < 2)

/-- Line 40 follows its four causes; the first three are withheld after a cold start (R618). -/
def State.line40 (s : State) : State :=
  let out := !s.bit Obj.holdupStatus 7
  let s := s.setCause 40 0 (sourceWord 0 0xFF) (out && decide (s.obj Obj.holdupEAct < 10 * s.obj Obj.holdupLowMj))
  let s := s.setCause 40 1 (sourceWord 0 0xFF) (out && s.bit Obj.holdupStatus 2)
  let s := s.setCause 40 2 (sourceWord 0 5) (out && s.bit Obj.holdupStatus 6)
  s.setCause 40 3 (sourceWord 0 6) (!s.vinOn && s.runsOnRail)

/-- The estimates, agreement and E_ACT from the voltage and the charge (R616, R617). -/
def State.estimate (s : State) : State :=
  let c := s.cEff
  let q := energyQ c (s.obj Obj.holdupQ)
  let v := energyV c (s.obj Obj.holdupV)
  let d := disagree q v
  let s := s.when (d && !s.bit Obj.holdupStatus 4) fun s => s.bump Obj.holdupDisagreeCount
  let s := s.setBit Obj.holdupStatus 4 d
  let s := s.when (d && decide (v < q)) fun s => s.setBit Obj.holdupStatus 2 true
  let s := s.when (d && decide (q < v)) fun s => s.setBit Obj.holdupStatus 3 true
  let act := if s.bit Obj.holdupStatus 3 then 0 else min q v
  let s := ((s.setObj Obj.holdupEQ (energyWord q)).setObj Obj.holdupEV (energyWord v)).setObj Obj.holdupEAct (energyWord act)
  let s := s.setCause 41 0 (sourceWord 0 0xFF) d
  s.line40

/-- A charge begins (R615). -/
def State.chargeStart (s : State) : State :=
  let s := (s.setBit Obj.holdupStatus 1 true).setBit Obj.holdupStatus 0 false
  { s with regs := { s.regs with chargeFrom := some s.now } }

/-- Every 10 µs: VIN and the bank's voltage as the monitor measures them, and the charge its counter saw since the last time (R615 to R618). -/
def State.holdupEstimate (s : State) (vin v : Nat) (flow : Int) : State :=
  if 3 ≤ s.pwr.mode then s
  else
    let step := 10 * usTicks
    let s := s.advanceTo ((s.now / step + 1) * step)
    let s := ((s.setObj Obj.vinMeas (min 0xFFFF vin)).setObj Obj.holdupV (min 0xFFFF v)).setObj Obj.holdupQ
      (clampQ s.cEff ((s.obj Obj.holdupQ : Int) + flow))
    let s := s.when (s.bit Obj.holdupStatus 7 && decide (s.regs.coldAt + 2000 * msTicks ≤ s.now)) fun s => s.setBit Obj.holdupStatus 7 false
    let s := s.when (s.vinOn && s.regs.testFrom.isNone && !s.bit Obj.holdupStatus 1 && decide (v < 13800)) fun s => s.chargeStart
    let s := s.estimate
    if !s.vinOn && s.nvs.op.isSome && decide (s.obj Obj.holdupEAct ≤ 200) then s.nvsAbandon else s

/-- A bank test starts: the charger is off (R619). -/
def State.testStart (s : State) : State :=
  let s := ((s.setBit Obj.holdupStatus 1 false).setBit Obj.holdupStatus 0 false).setBit Obj.holdupStatus 5 true
  { s with regs := { s.regs with testFrom := some s.now, chargeFrom := none, firstTest := false, testDue := none } }

/-- A test of the period is due (R619). -/
def State.periodDue (s : State) : Bool := match s.regs.testDue with | some t => decide (t ≤ s.now) | none => false

/-- A full-charge point: Q is recalibrated, suspect and charge fail clear, and the first test or one that fell due runs (R615 to R619). -/
def State.fullCharge (s : State) : State :=
  if !s.vinOn || s.regs.testFrom.isSome || !s.bit Obj.holdupStatus 1 then s
  else
    let s := (s.setObj Obj.holdupQ (chargeAt s.cEff (s.obj Obj.holdupV))).bump Obj.holdupRecals
    let s := { s with regs := { s.regs with chargeFrom := none } }
    let s := ((s.setBit Obj.holdupStatus 0 true).setBit Obj.holdupStatus 1 false).setBit Obj.holdupStatus 3 false
    let s := (s.setBit Obj.holdupStatus 6 false).setBit Obj.holdupStatus 7 false
    let s := s.estimate
    if s.regs.firstTest || s.periodDue then s.testStart else s

/-- No full-charge point within 2 s of the start of a charge (R615). -/
def State.chargeFail (s : State) : State :=
  match s.regs.chargeFrom with
  | some t =>
    if s.vinOn && s.bit Obj.holdupStatus 1 then
      (((s.advanceTo (t + 2000 * msTicks)).setBit Obj.holdupStatus 6 true).setBit Obj.regFaultCause 5 true).line40
    else s
  | none => s

/-- HOLDUP_TEST is refused unless VIN is present, the bank is at a full-charge point and no test runs (R619). -/
def State.testRefused (s : State) : Option Nat :=
  if s.vinOn && s.bit Obj.holdupStatus 0 && s.regs.testFrom.isNone then none else some 9

/-- The period has run out (R619): the test starts, or waits for a full-charge point. -/
def State.periodTest (s : State) : State :=
  match s.regs.testDue with
  | some t =>
    let s := s.advanceTo t
    if s.testRefused.isNone then s.testStart else s
  | none => s

/-- The bank test ends with the fall it measured, in mV (R619). A fall that gives no capacitance of 16 bits leaves an open value. -/
def State.testDone (s : State) (fall : Nat) : State :=
  match s.regs.testFrom with
  | some t =>
    let s := s.advanceTo (t + 20 * msTicks)
    let exact := 2000000 / fall
    let ok := decide (0 < fall) && decide (exact ≤ 0xFFFF)
    let c := if ok then exact else s.freeNat 0 % 0x10000
    let s := s.drew (b2n !ok)
    let s := (s.setObj Obj.holdupCMeas c).setObj Obj.holdupCEff (min 3300 c)
    let s := s.setBit Obj.holdupStatus 5 false
    let due := if s.obj Obj.holdupTestPeriod = 0 then none else some (s.now + s.obj Obj.holdupTestPeriod * 3600000 * msTicks)
    let s := { s with regs := { s.regs with testFrom := none, testDue := due } }
    let s := if decide (2640 ≤ c) then s.setBit Obj.holdupStatus 2 false
      else (s.setBit Obj.holdupStatus 2 true).bump Obj.holdupTestFails
    let s := if s.cmdRunning Obj.holdupTest then s.cmdDone Obj.holdupTest else s
    s.chargeStart.line40
  | none => s

/-- A test cut short by a loss of VIN changes nothing (R619). -/
def State.testAbandon (s : State) : State :=
  if s.regs.testFrom.isSome then
    let s := ({ s with regs := { s.regs with testFrom := none } }).setBit Obj.holdupStatus 5 false
    if s.cmdRunning Obj.holdupTest then s.cmdFailed Obj.holdupTest 9 else s
  else s

/-- VIN is absent: the bank feeds the rail (R614, R619, R621). -/
def State.vinGone (s : State) : State :=
  let s := ((s.setBit Obj.vinStatus 0 false).setBit Obj.vinStatus 1 true).bump Obj.vinLosses
  let s := s.testAbandon
  let s := (s.setBit Obj.holdupStatus 0 false).setBit Obj.holdupStatus 1 false
  let s := { s with regs := { s.regs with chargeFrom := none } }
  s.opDropWaiting.opFails 9 false

/-- VIN is present again: the charger starts (R614, R615). -/
def State.vinBack (s : State) : State :=
  (((s.setBit Obj.vinStatus 0 true).setBit Obj.vinStatus 1 false).chargeStart).line40

/-- The monitor starts again, at a wake or a cold start (R624). -/
def State.monitorStart (s : State) : State := s.setObj Obj.holdupQ (chargeAt s.cEff (s.obj Obj.holdupV))

end Sys2Proof.Machine
end

