-- ==== Sys2Proof/Machine/Clocks.lean ====
section
/-! DEFINITION. The clocks: fine shmoo, the phase frame, clock failure and recovery, and the timestamp's alignment (R29 to R54). -/

namespace Sys2Proof.Machine

/-! Fine shmoo (R35, R37, R43 to R46). -/

/-- SHMOO_OFFSET and SHMOO_ACTUAL as signed numbers of 10 kHz. -/
def State.shmooTarget (s : State) : Int := toInt 16 (s.obj Obj.shmooOffset)
def State.shmooActual (s : State) : Int := toInt 16 (s.obj Obj.shmooActual)

/-- The largest offset of an operating point, 3 % (R35). -/
def shmooMost (op : Nat) : Int := match op with | 0 => 2700 | 1 => 2400 | 2 => 1800 | _ => 1200

/-- CCLK in Hz at an offset of the operating point in force. -/
def State.hzAt (s : State) (off : Int) : Nat := ((cclkHzOf (s.obj Obj.opCurrent) : Int) + 10000 * off).toNat

/-- Every probe channel that is neither disabled nor curled keeps its rate at an offset (R37). -/
def State.probesFit (s : State) (off : Int) : Bool := s.probeChans.all fun n => !s.pbOn n || rateOk (s.pbMult n) (s.hzAt off)

/-- The checks of a write of SHMOO_OFFSET (R35, R37, R43, R45, R279, R286): a write of any value is refused STATE in a transition or with line 50 live.
The offsets between SHMOO_ACTUAL and the target keep a rate that both ends keep. -/
def State.shmooRefused (s : State) (v : Int) : Option Nat :=
  let most := shmooMost (s.obj Obj.opCurrent)
  if s.opBusy || s.bit Obj.live 50 then some 9
  else if v < -most ∨ most < v then some 6
  else if v ≠ 0 ∧ s.anyTraining then some 9
  else if v ≠ 0 ∧ (List.range 16).any fun p => s.obj (Obj.portEnable p) == 1 then some 0xB
  else if v ≠ 0 ∧ s.acceptedChans.any fun ch => s.released ch && s.obj (Obj.trackEnable ch) == 0 then some 0xB
  else if !s.probesFit v || !s.probesFit s.shmooActual then some 0xB
  else none

/-- A probe channel's multiple is within its rate range at every CCLK that SHMOO_OFFSET reaches (R37). -/
def State.multFits (s : State) (n : Nat) : Bool :=
  let m := s.obj (Obj.pb0CkMult + n)
  rateOk m (s.hzAt 0) && rateOk m (s.hzAt s.shmooTarget) && rateOk m (s.hzAt s.shmooActual)

/-- CLOCK_STATUS and TS_STATUS follow the offset: settled, frame alignment suspended, stamps uncertain (R35, R39). -/
def State.shmooShow (s : State) : State :=
  let s := (s.setBit Obj.clockStatus 5 (s.obj Obj.shmooActual == s.obj Obj.shmooOffset)).showUnsure
  if s.obj Obj.shmooActual = 0 then s else ({ s with clk := { s.clk with regrid := false } }).setBit Obj.clockStatus 6 false

/-- SHMOO_OFFSET has been written: the slew begins on the next c (R35, R44). -/
def State.shmooWritten (s : State) : State := s.shmooShow

/-- One step of 10 kHz towards the target, 1 µs after the last (R35), but not in a holdover (R51); the calculated write DQS delays follow (R275). -/
def State.shmooStep (s : State) : State :=
  let a := s.shmooActual
  let t := s.shmooTarget
  if a = t ∨ s.bit Obj.clockStatus 4 then s
  else
    let s := s.advanceTo (max (s.clk.slewAt + usTicks) s.now)
    let s := { s with clk := { s.clk with slewAt := s.now } }
    let s := (s.setObj Obj.shmooActual (ofInt 16 (if a < t then a + 1 else a - 1))).shmooShow
    s.each s.acceptedChans fun ch u => u.calcWdqs ch

/-! The phase frame (R31, R35). -/

/-- TS_MODE begins to act: DC_ALIGNED arms the step, FREE clears the aligned flag (R40). -/
def State.tsModeActs (s : State) : State :=
  if s.obj Obj.tsMode = 1 then s
  else (({ s with clk := { s.clk with armed := false } }).setBit Obj.tsStatus 0 false).setBit Obj.tsStatus 3 false

/-- The frame alignment at a boundary with the offset at zero: at the first the c in progress is lengthened, so that it ends one nominal period after
the boundary and every later c edge lies on the frame grid; the next is the first that falls on an edge, and CLOCK_STATUS shows the alignment from it (R35). -/
def State.realign (s : State) : State :=
  if s.obj Obj.shmooActual = 0 ∧ !s.bit Obj.clockStatus 6 ∧ !s.bit Obj.clockStatus 4 then
    if s.clk.regrid then ({ s with frameBase := s.now, clk := { s.clk with regrid := false } }).setBit Obj.clockStatus 6 true
    else { s with phase := 0, clk := { s.clk with regrid := true } }
  else s

/-- A frame boundary: values waiting for it act, and frame alignment is restored once the offset is zero (R31, R35, R63). -/
def State.frameBoundary (s : State) : State :=
  let s := s.advanceTo s.nextFrame
  let mode := s.shadows.any fun h => h.key == Obj.tsMode
  let s := s.dropShadows fun h => h.bound == .frame
  (if mode then s.tsModeActs else s).realign

/-! Clock failure and recovery (R49 to R51). -/

/-- Both fabric contexts stop, their state kept. -/
def State.stopFabric (s : State) : State := (s.stopCtx 0).stopCtx 1

/-- The transition in progress is cut short: a requested change ends FAILED at the operating point before it, while the holdover keeps the frequency
reached; a forced move is left to the recovery (R51). -/
def State.opCut (s : State) : State :=
  match s.clk.run with
  | some r =>
    let s := s.opDropWaiting
    if r.forced then ({ s with clk := { s.clk with recoverAt3 := true } }).opClear
    else
      let held := s.clockOp
      let s := (s.opFails 9 false).showOp r.fromOp
      if held = r.fromOp then s else { s with clk := { s.clk with holdsOp := some held } }
  | none => s.opDropWaiting

/-- A clock failure: 0 REF_CLK lost, 1 to 3 a phase error of the core, lane or fixed PLL, 4 a relock that took longer than 10 µs (R49). Another one while line
50 is live is not counted and starts the 1 ms of R51 again (DESIGN CHOICE, log entry 152). -/
def State.clockFailure (s : State) (why : Nat) : State :=
  let relock := match s.clk.run with | some r => r.step == 4 | none => false
  if 4 < why ∨ (why = 4 ∧ !relock) then s
  else
    let s := if why = 4 then s.advanceTo (((s.clk.run.map OpRun.retuneAt).getD 0) + 10 * usTicks) else s
    let s := { s with clk := { s.clk with failedAt := s.now } }
    let s := if why = 0 then ((s.setBit Obj.clockStatus 3 false).setBit Obj.clockStatus 1 false).setBit Obj.clockStatus 2 false
      else if why = 2 ∨ why = 3 then s.setBit Obj.clockStatus (why - 1) false else s
    if s.bit Obj.live 50 then s
    else
      let s := s.bump (if why = 0 then Obj.refLossCount else Obj.unlockCount)
      let s := ((s.setBit Obj.clockStatus 0 false).setBit Obj.clockStatus 4 true).setBit Obj.clockStatus 6 false
      let s := s.stampsUnsure.opCut
      let s := s.beginCause 50 0 (sourceWord 0 0xFF)
      let s := s.each s.probeChans fun n t => t.curl n 4 false
      let s := s.parkStore
      (s.each (List.range 16) fun p t => t.linkGoesDown p 7).stopFabric

/-- The parked store channels resume, unless something else holds them (R51, R557, R643); during an operating-point transition, at its end. -/
def State.resumeParked (s : State) (keep : Bool) : State :=
  if s.hedgehog || s.bit Obj.fltStatus 2 || !s.vinOn || s.bit Obj.live 50 || s.obj Obj.runPhase == 1 || s.rst.hold then s
  else
    let l := s.acceptedChans.filter fun ch => (s.chan ch).parked
    let s := { s with rst := { s.rst with resumeOwed := s.rst.resumeOwed || !l.isEmpty } }
    if s.clk.run.any fun r => r.step != 6 then s.modOp fun r => { r with drained := (r.drained ++ l).eraseDups, resume := true }
    else
      let s := s.modOp fun r => { r with drained := (r.drained ++ l).eraseDups }
      s.each l fun ch t => t.startResume ch keep

/-- The core PLL may be retuned for an operating point: a higher CCLK waits until VCORE, on its way to the setpoint, has reached V_MIN (R612). -/
def State.raiseFirst (s : State) (op : Nat) : State :=
  if op < s.clockOp then
    let s := s.applySetpoint
    let t := s.regs.target
    s.advanceTo (s.vcoreReach (max (t - 100) (min t (vMin op))))
  else s

/-- Recovery 1 ms after the reference is within its limits again: relock in the order of R612, the line clear, channels and links back (R51). -/
def State.clockRecovery (s : State) : State :=
  if !s.bit Obj.live 50 then s
  else
    let s := s.advanceTo (s.clk.failedAt + msTicks)
    let s := (((s.setBit Obj.clockStatus 0 true).setBit Obj.clockStatus 1 true).setBit Obj.clockStatus 2 true).setBit Obj.clockStatus 3 true
    let s := s.zeroShmoo.setBit Obj.clockStatus 4 false
    let to3 := s.clk.recoverAt3
    let s := { s with clk := { s.clk with recoverAt3 := false } }
    let op := if to3 then 3 else s.obj Obj.opCurrent
    let s := (s.llZero.raiseFirst op).setOp op
    let s := s.applySetpoint
    let s := if to3 then { s with regs := { s.regs with forcedEnd := some s.now } } else s
    let s := s.endCause 50 0
    let s := if to3 then s.each s.acceptedChans fun ch t => t.placeFresh ch 3 else s
    let s := s.resumeParked (!to3)
    s.each ((List.range 16).filter fun p => s.obj (Obj.portEnable p) == 1) fun p t => t.startTraining p

/-! The timestamp unit (R38, R40). -/

/-- The system time in ns as a timestamp: × 4 ÷ 5, to nearest (R40). -/
def tsOfNs (ns : Nat) : Nat := ((8 * ns + 5) / 10) % 2 ^ 64

/-- The alignment step, at the first frame boundary with valid system time (R40). One taken in a holdover leaves the stamps uncertain until the next
step or power-on (R50; DESIGN CHOICE, log entry 153). -/
def State.tsAlignStep (s : State) (ns : Nat) : State :=
  if !s.clk.armed || s.obj Obj.tsMode != 1 then s
  else
    let s := s.advanceTo s.nextFrame
    let old := s.ts
    let new := tsOfNs ns
    let s := { s with tsOff := (new + 2 ^ 64 - (s.now / 9) % 2 ^ 64) % 2 ^ 64, clk := { s.clk with armed := false, adjustAt := s.now, unsure := s.bit Obj.clockStatus 4 } }
    let s := (s.setObj Obj.tsLastStep ((new + 2 ^ 64 - old) % 2 ^ 64)).setObj Obj.ectDcValid 1
    ((s.setBit Obj.tsStatus 0 true).setBit Obj.tsStatus 1 true).showUnsure

/-- The time a slew step may come after the one before, at TS_SLEW_LIMIT ppm (R40). -/
def State.slewDue (s : State) : Nat := s.clk.adjustAt + 9 * ceilDiv 1000000 (s.obj Obj.tsSlewLimit)

/-- The aligned timestamp omits or doubles an increment (R40); `err` is the error measured, in ns. -/
def State.tsSlewAdjust (s : State) (double : Bool) (err : Int) : State :=
  if !s.bit Obj.tsStatus 0 then s
  else
    let late := decide (s.slewDue ≤ s.now)
    let s := s.advanceTo (max s.slewDue (s.now + 9))
    let s := { s with tsOff := (if double then s.tsOff + 1 else s.tsOff + 2 ^ 64 - 1) % 2 ^ 64, clk := { s.clk with adjustAt := s.now } }
    (s.setObj Obj.tsDcError (ofInt 32 err)).setBit Obj.tsStatus 3 (!late)

/-- Alignment is lost: the error exceeds the window, or the system time is invalid (R40). -/
def State.tsUnlock (s : State) (invalid : Bool) (err : Int) : State :=
  let s := if invalid then s.setObj Obj.ectDcValid 0 else s
  if s.bit Obj.tsStatus 0 && (invalid || decide (s.obj Obj.tsUnlockWindow < err.natAbs)) then
    (((s.setObj Obj.tsDcError (ofInt 32 err)).setBit Obj.tsStatus 0 false).setBit Obj.tsStatus 3 false).bump Obj.tsUnlockCount
  else s

/-- TS_MODE DC_ALIGNED is written: the step is armed, again when the mode is already in force (R40). -/
def State.tsModeWritten (s : State) : State :=
  if s.obj Obj.tsMode = 1 then { s with clk := { s.clk with armed := true } } else s

end Sys2Proof.Machine
end

