-- ==== Sys2Proof/Machine/Session.lean ====
section
/-! DEFINITION. The blocks of the dictionary and when they are quiescent (R65, R66), and the
configuration session (R68 to R72). -/

namespace Sys2Proof.Machine

/-! Blocks (R55, R65, R66). -/

/-- The code of the block an object belongs to. -/
def blockOf (k : Nat) : Nat :=
  let ix := k / 0x100
  if ix < 0x2000 then 9
  else if ix < 0x2010 then 20
  else if ix < 0x2100 then (if k = Obj.pb0CkMult then 4 else if k = Obj.pb0CkMult + 1 then 5 else 14)
  else if ix < 0x2180 then 15
  else if ix < 0x2200 then 13
  else if ix < 0x2300 then 12
  else if ix < 0x2400 then 10
  else if ix < 0x2500 then 16
  else if ix < 0x2600 then 17
  else if ix < 0x3000 then 8
  else if ix < 0x3400 then (ix - 0x3000) / 0x100
  else if ix < 0x3800 then 18
  else if ix < 0x3A00 then 4 + (ix - 0x3800) / 0x100
  else if ix < 0x4000 then 13
  else if ix < 0x4100 then 7
  else if ix < 0x4200 then 8
  else if ix < 0x4400 then 7
  else if ix < 0x4800 then 11
  else if ix < 0x5000 then (if 0x4820 ≤ ix ∧ ix < 0x4830 ∧ k % 0x100 = 1 then 7 else 6)
  else 19

/-- The engine is in RUN with no transition in progress or waiting. -/
def State.pwrQuiet (s : State) : Bool := !s.pwrBusy

/-- The instance of SPG that an object belongs to is disabled: a client, a port, or for the objects of all ports every port. -/
def State.spgQuiet (s : State) (ix : Nat) : Bool :=
  if ix < 0x4100 then !s.clientServed (ix - 0x4000)
  else if 0x4210 ≤ ix ∧ ix < 0x4220 then s.obj (Obj.portEnable (ix - 0x4210)) == 0
  else if 0x4820 ≤ ix ∧ ix < 0x4830 then s.obj (Obj.portEnable (ix - 0x4820)) == 0
  else (List.range 16).all fun p => s.obj (Obj.portEnable p) == 0

/-- The block of an object is quiescent, in the object's instance (R65). -/
def State.quiescent (s : State) (k : Nat) : Bool :=
  let ix := k / 0x100
  match blockOf k with
  | 4 => !s.pbOn 0
  | 5 => !s.pbOn 1
  | 6 => if 0x4880 ≤ ix ∧ ix < 0x4890 then s.obj (Obj.feEnable (ix - 0x4880)) == 0 else !s.ctxRuns 0 && !s.ctxRuns 1
  | 7 => s.spgQuiet ix
  | 8 => if 0x4100 ≤ ix then s.obj (Obj.hqEnable (ix - 0x4100)) == 0 else !s.bit Obj.pcieLink 9 || s.bit Obj.pcieLink 10
  | 9 => s.obj Obj.ectAlState == 1 || s.obj Obj.ectAlState == 2
  | 10 => s.nvs.op.isNone
  | 11 => s.obj (Obj.msgEnable (ix - 0x4400)) == 0
  | 13 =>
    if 0x3A00 ≤ ix ∧ 0x10 ≤ ix % 0x40 then !s.supplyIsOn ((ix - 0x3A00) / 0x40) (ix % 0x40 - 0x10)
    else if 0x3A00 ≤ ix then s.suppliesOff ((ix - 0x3A00) / 0x40)
    else 0x2190 ≤ ix && decide (ix < 0x2192) && s.suppliesOff (ix - 0x2190)
  | 14 => s.clk.run.isNone
  | 15 => s.pwrQuiet
  | 17 => !s.pwr.owlArmed
  | 18 => s.obj Obj.channelsReady == 0
  | 12 => false
  | 16 => false
  | 19 => false
  | 20 => false
  | ch => !s.released ch && (s.chan ch).train.isNone && s.obj (Obj.fillState ch) != 1

/-- PENDING_BLOCKS (R62, R97). -/
def State.pendingBlocks (s : State) : Nat :=
  (List.range 21).foldl (fun w b => withBit w b (s.shadows.any fun h => blockOf h.key == b)) 0

/-- The shadows of a block that has become quiescent act (R62). -/
def State.quietShadows (s : State) : State := s.actShadows (fun h => s.quiescent h.key) s.nextWrap

/-! The session (R68 to R72). -/

/-- Units of `now` in a lease of 500 ms. -/
def leaseTicks : Nat := 500 * msTicks

/-- The session is freed; an open batch is discarded (R72). -/
def State.freeSession (s : State) : State := { s with session := {} }

/-- The owning path drops (R71). -/
def State.dropSession (s : State) (p : Path) : State :=
  if p ≠ .fabric ∧ s.session.owner = pathCode p then s.freeSession.bump Obj.sessionDrops else s

/-- The lease starts again (R70). -/
def State.renewLease (s : State) : State := { s with session := { s.session with due := s.now + leaseTicks } }

/-- The path holds the session. -/
def State.owns (s : State) (p : Path) : Bool := p != .fabric && s.session.owner == pathCode p

/-- The lease runs out (R70). -/
def State.leaseExpires (s : State) : State :=
  if s.session.owner = 0 then s
  else ((s.advanceTo s.session.due).freeSession).bump Obj.sessionExpiries

/-- CLAIM, RENEW and RELEASE: why one is refused (R68). -/
def State.sessionRefused (s : State) (p : Path) (v : Nat) : Option Nat :=
  if v = 1 then (if s.session.owner = 0 ∨ s.owns p then none else some 7)
  else if s.owns p then none else some 7

/-- An accepted SESSION_CMD (R68, R70). -/
def State.sessionCommand (s : State) (p : Path) (v : Nat) : State :=
  let s := s.cmdDone Obj.sessionCmd
  if v = 3 then s.freeSession
  else
    let s := if s.session.owner = 0 then ({ s with session := { owner := pathCode p } }).bump Obj.sessionGrants else s
    s.renewLease

end Sys2Proof.Machine
end

