-- ==== Sys2Proof/Machine/Checks.lean ====
section
/-! DEFINITION. The cross-object rules: which relations between objects every accepted configuration keeps, and with what reason a write
that would break one is refused (R18, R64, R538, R655, R669, R697). -/

namespace Sys2Proof.Machine

/-- Q is not greater than W for every requester (R162). -/
def State.quotasOk (s : State) : Bool := requesters.all fun rq => decide (s.obj (rqKey rq 0x11) ≤ s.obj (rqKey rq 0x12))

/-- WQ_LOW < WQ_HIGH, REF_MULT_MIN ≤ REF_MULT_MAX, NR_K_FLOOR ≤ NR_K_MAX on a channel (R228, R256, R257). -/
def State.chanPairsOk (s : State) (ch : Nat) : Bool :=
  decide (s.obj (Obj.wqLow ch) < s.obj (Obj.wqHigh ch)) && decide (s.obj (Obj.refMultMin ch) ≤ s.obj (Obj.refMultMax ch)) &&
    decide (s.obj (Obj.nrKFloor ch) ≤ s.obj (Obj.nrKMax ch))

/-- The mapped objects of a PDO: index, subindex and length of each entry that counts (R497). -/
def State.pdoEntries (s : State) (m : Nat) : List (Nat × Nat) :=
  (List.range (min 32 (s.obj (Obj.txpdoMap m 0)))).map fun i =>
    let e := s.obj (Obj.txpdoMap m (i + 1))
    (e / 0x100, e % 0x100)

/-- An object can be mapped with a length in bits (R497). -/
def State.mappable (s : State) (k bits : Nat) : Bool :=
  match rowOf k with
  | none => false
  | some r => decide (0x200000 ≤ k) && decide (k < 0x600000) && !r.ty.wide && r.acc != .cmd && r.acc != .wo && bits == 8 * r.ty.size &&
      !(s.part == .ft4016 && ((0x380000 ≤ k && decide (k < 0x3A8000))))

/-- The PDOs assigned to SM3. -/
def State.assigned (s : State) : List Nat :=
  (List.range (min 4 (s.obj (Obj.txpdoAssign 0)))).filterMap fun i =>
    let v := s.obj (Obj.txpdoAssign (i + 1))
    if 0x1A00 ≤ v ∧ v < 0x1A04 then some (v - 0x1A00) else none

/-- The bytes of the assigned PDOs. -/
def State.pdoLength (s : State) : Nat := (s.assigned.map fun m => ((s.pdoEntries m).map fun e => e.2 / 8).sum).sum

/-- The mapping rule: at most 32 entries each and 256 bytes together (R497). -/
def State.pdoOk (s : State) : Bool :=
  ((List.range 4).all fun m => decide (s.obj (Obj.txpdoMap m 0) ≤ 32) && (s.pdoEntries m).all fun e => s.mappable e.1 e.2) &&
    decide (s.pdoLength ≤ 256)

/-- Every enabled message channel names a receiver (R479). -/
def State.receiversOk (s : State) : Bool := (List.range 32).all fun m => s.obj (Obj.msgEnable m) == 0 || s.obj (Obj.msgReceiver m) != 0

/-- The probe channels' offsets, windows and broadcast fit (R370, R379, R382). -/
def State.probePairsOk (s : State) : Bool := s.probeChans.all fun n => s.offsetsFit false n && s.windowFits n && s.broadcastOk n

/-- The trims keep every target at or above V_MIN (R603). -/
def State.trimsOk (s : State) : Bool := (List.range 4).all fun op => !s.trimLow op

/-- The populations that the system records of a bank show: the DIMMs of each channel as a valid set's population code gives them (R273,
R697). -/
def recordedDimms (b : NvsBank) (ch : Nat) : List Dimm :=
  match (List.range 4).find? fun op => (mapGet (fun _ => ({} : TrainedSet)) b.sets (4 * ch + op)).valid with
  | none => []
  | some op =>
    let code := leNat (((mapGet (fun _ => ({} : TrainedSet)) b.sets (4 * ch + op)).bytes.drop 7).take 1)
    let d : Dimm := { ranks := if bitOf code 1 then 2 else 1, density := if fld 2 2 code = 0 then 16 else if fld 2 2 code = 1 then 24 else 32 }
    if bitOf code 0 then [d, d] else [d]

/-- HIGH_LOAD and the lockstep reservations of a slot fit the wheel, with the refresh positions of the recorded population (R697). -/
def State.slotFits (s : State) (b : Option NvsBank) : Bool :=
  channels4.all fun ch =>
    let l := match b with
      | some b => recordedDimms b ch
      | none => []
    if l.isEmpty then ((s.replace [] (List.replicate 1024 ownFree)).elim false fun w => s.loadFits w)
    else ((s.modChan ch fun c => { c with dimms := l }).freshWheel ch (s.obj Obj.opCurrent) []).isSome

/-- Every cross-object rule that the stored configuration alone can break (R538). -/
def State.pairsOk (s : State) : Bool :=
  s.quotasOk && channels4.all s.chanPairsOk && !s.regionsOverlap && s.pdoOk && s.receiversOk && s.probePairsOk && s.trimsOk

/-! The checks of a write: `t` is the configuration that results. -/



/-- The arbitration objects that the fit of R155 and R216 depends on, refresh sizing included. -/
def wheelKey (k : Nat) : Bool :=
  let sb := k % 0x100
  match rqOfKey k with
  | some rq => sb == 0x10 || sb == 0x11 || sb == 0x12 || sb == 0x18 || (decide (rq < 0x100) && sb == 1) ||
      (decide (0x100 ≤ rq) && decide (rq < 0x104) && sb == 2) || (decide (0x110 ≤ rq) && sb == 1)
  | none => channels4.any fun ch => k == Obj.refMode ch || k == Obj.refMultMin ch || k == Obj.nrMode ch || k == Obj.nrDistance ch || k == Obj.nrKMax ch || k == Obj.nrSpare ch

/-- A key of the refresh sizing of a channel. -/
def sizingKey (k : Nat) : Option Nat := if wheelKey k && (rqOfKey k).isNone then some ((k / 0x100 - 0x3000) / 0x100) else none

/-- The wheels fit with a write applied: against the placement in force, or afresh where the refresh sizing changes (R216, R697). -/
def State.fitsAfter (t : State) (k : Nat) : Bool :=
  match sizingKey k with
  | some ch => !(t.chan ch).accepted || (t.freshWheel ch (t.obj Obj.opCurrent) (t.chan ch).shed).isSome
  | none =>
    match rqOfKey k with
    | some rq => if rq < 0x100 ∧ (k % 0x100 = 0x10 ∨ k % 0x100 = 0x18 ∨ k % 0x100 = 1) then (t.unshed rq).wheelsFit else t.wheelsFit
    | none => t.wheelsFit

/-- A key of the lockstep regions. -/
def regionKey (k : Nat) : Bool := (List.range 16).any fun r => k == Obj.regionBase r || k == Obj.regionSize r

/-- A key of the edge offsets of a probe channel (R369, R370). -/
def offsetKey (n k : Nat) : Bool := k / 0x100 == 0x3810 + n * 0x100

/-- A key that the rule of EXPECT_BROADCAST rests on (R382). -/
def broadcastKey (n k : Nat) : Bool :=
  k == Obj.expectBroadcast n || (List.range 8).any fun i => k == Obj.compareMode n i || k == Obj.siteConfig n i

/-- A key that the compare window rests on (R379). -/
def windowKey (n k : Nat) : Bool := offsetKey n k || k == Obj.windowWidth n

/-- The two rules of a pair that a write of one of them breaks: reason RANGE for Q and W, INCOMPATIBLE for the others. -/
def State.pairRefused (t : State) (k : Nat) : Option Nat :=
  let ix := k / 0x100
  match rqOfKey k with
  | some rq =>
    if (k % 0x100 = 0x11 ∨ k % 0x100 = 0x12) ∧ t.obj (rqKey rq 0x12) < t.obj (rqKey rq 0x11) then some 6
    else if wheelKey k && !t.fitsAfter k then some 0xB else none
  | none =>
    if 0x3000 ≤ ix ∧ ix < 0x3400 then
      let ch := (ix - 0x3000) / 0x100
      if !t.chanPairsOk ch then some 0xB else if wheelKey k && !t.fitsAfter k then some 0xB else none
    else if regionKey k && t.regionsOverlap then some 0xB
    else if (0x1A00 ≤ ix ∧ ix < 0x1A04 ∨ ix = 0x1C13) ∧ !t.pdoOk then some 0xB
    else none

/-- The interleave mask names three accepted channels (R197). -/
def State.maskRefused (t : State) (v : Nat) : Bool :=
  (t.acceptedChans.filter fun ch => bitOf v ch).length == 3

end Sys2Proof.Machine
end

