-- ==== Sys2Proof/Machine/Links.lean ====
section
/-! DEFINITION. The PCI Express function and the EtherCAT slave controller as links: resets, link up and down, configuration space, MSI-X masks,
AL states, E-Bus links and the process-data watchdog (R480, R490 to R495, R509 to R513). -/

namespace Sys2Proof.Machine

/-! PCI Express. -/

def State.modPcie (s : State) (f : Pcie → Pcie) : State := { s with pcie := f s.pcie }

/-- A reset of the function (R492): queues aborted, completions, waiting reads and commands discarded, configuration space at its defaults. -/
def State.functionReset (s : State) : State :=
  let s := s.each [0, 1, 2, 3] fun q t => (t.abortHost q 1).forgetHost q
  let s := { s with sent := s.sent.filter fun e => match e with | .completion .. | .bar0Data _ => false | _ => true, port := { s.port with reads := [] } }
  s.modPcie fun x => { perst := x.perst, crsUntil := x.crsUntil }

/-- Function Level Reset 0, hot reset 1, DL_Down 2, PCIE_PERST_N asserted 3 (R71, R492). -/
def State.pcieReset (s : State) (why : Nat) : State :=
  let up := s.bit Obj.pcieLink 9
  let s := (if why = 0 then s.bump Obj.pcieFlrs else if why = 2 && up then s.bump Obj.pcieLinkDowns else s).dropSession .pcie
  let s := if why = 3 then s.modPcie fun x => { x with perst := true } else s
  let s := if why = 0 then s else s.setObj Obj.pcieLink 0
  s.functionReset

/-- PCIE_PERST_N is deasserted: the link trains, and the window of configuration retries of 1 s starts (R513, R632). -/
def State.perstReleased (s : State) : State :=
  if s.pcie.perst then s.modPcie fun x => { x with perst := false, crsUntil := s.now + 1000 * msTicks } else s

/-- The widths the link trains at (R480). -/
def linkWidths : List Nat := [1, 2, 4, 8]

/-- What configuration space identifies the function by: vendor, device, revision, class code and the device serial number (R480). -/
def State.configIdentity (s : State) : List Byte :=
  leBytes 2 0x1E9D ++ leBytes 2 (partCodeOf s.part) ++ leBytes 1 Config.dieRevision.toNat ++ leBytes 3 0x118000 ++ leBytes 8 Config.uniqueId.toNat

/-- Pending messages that are not masked are sent (R490). -/
def State.flushMsix (s : State) : State :=
  if s.pcieUp then
    let l := (List.range 64).filter fun v => bitOf s.pcie.msixPba v && s.msixOpen v
    s.each l fun v t => (t.modPcie fun x => { x with msixPba := withBit x.msixPba v false }).msix v
  else s

/-- The link has trained: at the highest common speed not above PCIE_MAX_SPEED (R63, R480, R515). -/
def State.pcieLinkUp (s : State) (speed width : Nat) : State :=
  if s.pcie.perst || !s.bit Obj.clockStatus 2 then s
  else
    let s := s.dropShadows fun h => h.bound == .linkRetrain && blockOf h.key == 8
    (s.setObj Obj.pcieLink (max 1 (min speed (s.obj Obj.pcieMaxSpeed)) + width % 32 * 16 + 512)).flushMsix

/-- PCIE_RETRAIN: the link trains again; completions are sent after it (R63, R509, R515). -/
def State.pcieRetrains (s : State) (speed : Nat) : State :=
  let s := s.cmdDone Obj.pcieRetrain
  if s.bit Obj.pcieLink 9 then
    (s.pcieLinkUp speed (fld 4 5 (s.obj Obj.pcieLink))).bump Obj.pcieRetrains
  else s

/-- A configuration request that reads the identity and sets the D state, Bus Master Enable, the MSI-X enable and function mask bits and the AER severity register
(R465, R490, R491, R513): answered with retry status during BOOT, within the first second. -/
def State.configRequest (s : State) (d3 bme msixEnable msixMask : Bool) (severity : Nat) : State :=
  if !s.bit Obj.pcieLink 9 then s
  else if s.obj Obj.runPhase = 1 ∧ s.now < s.pcie.crsUntil then { s with answer := { path := .pcie, reason := 0xFF } }
  else
    let s := s.modPcie fun x => { x with dState := if d3 then 3 else 0, bme := bme, msixEnable := msixEnable, msixFnMask := msixMask, severity := severity }
    ({ s with answer := { path := .pcie, data := s.configIdentity } }).flushMsix

/-- The host masks or unmasks a vector (R490). -/
def State.maskVector (s : State) (v : Nat) (masked : Bool) : State :=
  (s.modPcie fun x => { x with msixMask := withBit x.msixMask v masked }).flushMsix

/-! EtherCAT. -/

def State.modEct (s : State) (f : Ect → Ect) : State := { s with ect := f s.ect }

/-- ECT_PORTS (R517). -/
def Ect.ports (e : Ect) : Nat := b2n e.link0 + 2 * b2n e.link1 + 4 * b2n (!e.link0) + 8 * b2n (!e.link1)

/-- An E-Bus port gains or loses its link (R71, R493). -/
def State.ebusLink (s : State) (port : Nat) (up : Bool) : State :=
  let s := s.modEct fun e => if port = 0 then { e with link0 := up } else { e with link1 := up }
  let s := s.setObj Obj.ectPorts s.ect.ports
  if !s.ect.link0 && !s.ect.link1 then s.dropSession .coe else s

/-- The AL state stands at INIT: a transfer is abandoned, and the system time counts as invalid (R500, R509). -/
def State.alOff (s : State) : State :=
  let s := (s.setObj Obj.ectAlState 1).modEct fun e => { e with transfer := none }
  if s.obj Obj.ectDcValid = 1 then s.tsUnlock true 0 else s

/-- The AL state becomes INIT, and the session of CoE drops (R71). -/
def State.alInit (s : State) : State := (s.dropSession .coe).alOff

/-- The transitions of the AL states that IEC 61158 type 12 allows. -/
def alAllowed (old new : Nat) : Bool :=
  new == 1 || (old == 1 && (new == 2 || new == 3)) || (old == 2 && (new == 2 || new == 4)) ||
    (old == 4 && (new == 2 || new == 4 || new == 8)) || (old == 8 && (new == 2 || new == 4 || new == 8)) || (old == 3 && new == 3)

/-- A mailbox sync manager's length is in range. -/
def mailboxLen (n : Nat) : Bool := decide (128 ≤ n) && decide (n ≤ 512)

/-- The AL status code of a refused change (R495), 0 when it is made. -/
def State.alRefusal (s : State) (new : Nat) : Nat :=
  let old := s.obj Obj.ectAlState
  let m := s.ect.set
  if !alAllowed old new then 0x11
  else if old = 1 ∧ new = 2 then
    if !mailboxLen m.sm0Len || !mailboxLen m.sm1Len || (decide (m.sm0Start < m.sm1Start + m.sm1Len) && decide (m.sm1Start < m.sm0Start + m.sm0Len))
    then 0x16 else 0
  else if old = 2 ∧ new = 4 then
    if !s.pdoOk || s.pdoLength != m.sm3Len then 0x1E
    else if s.obj (Obj.sm3Parameters 1) = 2 && (!m.sync0 || decide (m.sync0Ns < 31250)) then 0x30 else 0
  else if old = 1 ∧ new = 3 then (if s.session.owner = 0 ∨ s.session.owner = 1 then 0 else 0x13)
  else 0

/-- The process-data watchdog starts again (R510). -/
def State.pdRestart (s : State) : State :=
  s.modEct fun e => { e with pdDue := s.now + e.set.pdWatchdogUs * usTicks }

/-- A requested AL state is entered or refused (R495). -/
def State.alChange (s : State) (new : Nat) : State :=
  let code := s.alRefusal new
  if code ≠ 0 then (s.setObj Obj.ectAlStatusCode code).modEct fun e => { e with errInd := true }
  else
    let s := (s.setObj Obj.ectAlStatusCode 0).modEct fun e => { e with errInd := false }
    if new = 1 then s.alInit else ((s.setObj Obj.ectAlState new).pdRestart).sendEmcy

/-- A request of the master with what it has set (R495, R513): acted on when RUN_PHASE leaves BOOT. -/
def State.alRequest (s : State) (new : Nat) (m : MasterSet) : State :=
  let s := s.modEct fun e => { e with set := m }
  if s.obj Obj.runPhase = 1 then s.modEct fun e => { e with heldRequest := some new } else s.alChange new

/-- The request held over BOOT is acted on. -/
def State.alHeld (s : State) : State :=
  match s.ect.heldRequest with
  | some v => (s.modEct fun e => { e with heldRequest := none }).alChange v
  | none => s

/-- No frame takes the SM3 buffer in time (R510). -/
def State.pdExpires (s : State) : State :=
  let a := s.obj Obj.ectAlState
  if s.ect.set.pdWatchdogUs = 0 ∨ (a ≠ 4 ∧ a ≠ 8) then s
  else
    let s := (s.advanceTo s.ect.pdDue).pdRestart
    let s := (s.bump Obj.ectWatchdogBites).raise 48 (sourceWord 0 0xFF)
    if a = 8 then ((s.setObj Obj.ectAlState 4).setObj Obj.ectAlStatusCode 0x1B).modEct fun e => { e with errInd := true } else s

/-- A mailbox request of another protocol: the mailbox error "unsupported protocol" (R493, R494). -/
def State.mailboxError (s : State) : State :=
  let a := s.obj Obj.ectAlState
  if a = 1 then s else { s with answer := { path := .coe, reason := 0, data := leBytes 2 1 ++ leBytes 2 2 } }

/-- What A4 of an entry does to the links (R577, R579): the function reset, its link down, AL state INIT, no forwarding; the session is freed by the entry,
which is no drop (R71). -/
def State.linksOff (s : State) : State :=
  ((s.setObj Obj.pcieLink 0).functionReset.alOff).modEct fun e => { e with forwards := false }

/-- E-Bus forwarding starts with the fixed PLL; the PCIe link trains from Detect by itself (R583, R632). -/
def State.linksOn (s : State) : State := s.modEct fun e => { e with forwards := true }

end Sys2Proof.Machine
end

