-- ==== Sys2Proof/Machine/Start.lean ====
section
/-! DEFINITION. Start-up: the reset of the die, the steps of a start from VCORE to the end of BOOT, the settings slot and the system records, the
population, and the training of step 6 (R52, R94, R270, R449, R537 to R540, R585, R624, R632, R633, R636, R637, R646, R649, R697). -/

namespace Sys2Proof.Machine

def State.modRst (s : State) (f : Rst → Rst) : State := { s with rst := f s.rst }
def State.modPwr (s : State) (f : Pwr → Pwr) : State := { s with pwr := f s.pwr }

/-! What a reset of the die keeps (R646, R652). -/

def accOf (k : Nat) : Option Acc := (rowOf k).map Row.acc

/-- The objects of the always-on domain: the records of 0x2130, the pad latch, and what the hold-up monitor measures. -/
def alwaysOnObj (k : Nat) : Bool :=
  (k / 0x100 == 0x2130 && (accOf k == some .ro || accOf k == some .ctr)) || k == Obj.padStatus || k == Obj.vinStatus ||
    k == Obj.vinMeas || k == Obj.holdupV

/-- What a wake from WATCH keeps beside them: the wake record's objects and the phases shut off (R585, R607). -/
def watchObj (k : Nat) : Bool :=
  k == Obj.wakeCause || k == Obj.wakeTs || k == Obj.lastSleepUs || k == Obj.phasesInService || k == Obj.dutPhasesInService 0 ||
    k == Obj.dutPhasesInService 1

/-- The wear counts belong to the flash. -/
def flashDom (k : Nat) : Bool := k == Obj.slotWear || k == Obj.pageWear

/-- A channel over a reset of the die: its DIMMs, what they hold, and whether they are in self-refresh; after a wake from WATCH it is no park that keeps
them there (R28, R585). -/
def Chan.overReset (c : Chan) (watch : Bool) : Chan :=
  { dimms := c.dimms, filled := c.filled, selfRefresh := c.selfRefresh, parked := c.selfRefresh && !watch }

/-- All die logic and retention memory are reset, VCORE is off; after a cold start the timestamp starts again at 0 (R639, R646). -/
def State.dieReset (s : State) (watch : Bool) : State :=
  { State.reset with
    pending := s.pending, part := s.part, now := s.now, cyc := s.cyc,
    tsOff := if watch then s.tsOff else 2 ^ 64 - (s.now / 9) % 2 ^ 64
    dict := s.dict.filter fun e => alwaysOnObj e.1 || (watch && watchObj e.1)
    doms := s.doms.filter fun e => flashDom e.1
    drawn := s.drawn, sent := s.sent, serial := s.serial
    pcie := { perst := s.pcie.perst, crsUntil := s.pcie.crsUntil }
    ect := { link0 := s.ect.link0, link1 := s.ect.link1, forwards := false }
    chans := channels4.foldl (fun m ch => mapSet (fun _ => ({} : Chan)) m ch ((s.chan ch).overReset watch)) []
    dram := s.dram, lost := s.lost, phase := s.phase, wheelBase := s.cyc, frameBase := s.frameBase
    nvs := { s.nvs with op := none, fwWaiting := false }
    regs := { on := false, coldAt := s.now, senseOff := if watch then s.regs.senseOff else 0, dutSense := if watch then s.regs.dutSense else 0 }
    rst := { s.rst with hold := false, vinParked := false, step6 := false, resumeOwed := false }
    pwr := { mode := if watch then 4 else 0, waking := watch, waiting := if watch then s.pwr.waiting else none, slept := s.pwr.slept,
             owlArmed := watch && s.pwr.owlArmed, owlAt := if watch then s.pwr.owlAt else none, wakeLow := s.pwr.wakeLow,
             hotHold := s.pwr.hotHold, record := if watch then s.pwr.record else {} } }

/-! Steps 2 to 4 of R632. -/

/-- The start goes on as soon as VIN is present, no thermal hold stands, and the DUT supplies of a cold reset are down (R568, R632, R639, R693). START_MS of a cold reset counts from its detection,
that of another start from here (R653). -/
def State.startVin (s : State) : State :=
  if s.rst.wait = 2 ∧ s.vinOn ∧ !s.pwr.hotHold ∧ !s.rst.coldLow then ((s.advanceTo s.rst.rampsUntil).modRst fun r => { r with wait := 3, began := if r.start = 2 ∨ r.start = 3 then r.began else s.now }).chargeStart else s

/-- A start waits at step 2 and goes on from there. -/
def State.startWaits (s : State) (follow code : Nat) : State :=
  (s.modRst fun r => { r with wait := 2, follow := follow, start := code, began := s.now, counting := true }).startVin

/-- Some channel held two DIMMs when it was last seen (R633). -/
def State.twoDimms (s : State) : Bool := channels4.any fun ch => (s.chan ch).dimms.length == 2

/-- The boot operating point (R633), and whether the phases forbid the stored one (R624). -/
def State.bootPoint (s : State) : Nat × Bool :=
  let v := s.nvs.bootOp.getD 3
  if v < 2 ∧ s.twoDimms then (3, false)
  else if s.vcoreRating < opLoad v then (3, true) else (v, false)

/-- The self-test of every VCORE phase leaves those that passed in service (R607, R624). -/
def State.testPhases (s : State) (pass : Nat) : State :=
  let n := 6 - phaseCount (pass % 64)
  let s := (s.setObj Obj.phasesInService (pass % 64)).addTo Obj.phaseFails n
  if n = 0 then s else s.setBit Obj.regFaultCause 0 true

/-- VCORE stands at the operating point's target. -/
def State.vcoreOn (s : State) (op : Nat) : State :=
  let v := s.llZero.vTarget op
  { s.llZero with regs := { s.llZero.regs with on := true, v0 := v, t0 := s.now, target := v, rate := 0 } }

/-- The lowest VCORE phase shut off. -/
def State.firstShut (s : State) : Nat := ((List.range 6).find? fun p => !s.bit Obj.phasesInService p).getD 0

/-- The PLLs lock, the management core starts: BOOT (R52, R94, R531, R632). The lines of phases shut off are raised now (R548, R564). -/
def State.lockAndBoot (s : State) (newFw : Bool) : State :=
  let b := s.bootPoint
  let s := (s.vcoreOn b.1).setOp b.1
  let s := (s.setBit Obj.vcoreStatus 6 b.2).bootFirmware newFw
  let s := s.linksOn.monitorStart
  let src := sourceWord s.firstShut 0
  let s := s.phaseLines src src
  ((s.modRst fun r => { r with wait := 0 }).setObj Obj.runPhase 1).freeSession

/-- No phase or no firmware bank passes: VCORE is off, and the test is tried again after 1 s (R649); a wake from WATCH stays in WATCH (R650). -/
def State.startFails (s : State) (noPhase : Bool) : State :=
  let s := { s with regs := { s.regs with on := false } }
  if s.rst.follow = 2 ∧ noPhase then (s.modRst fun r => { r with wait := 0 }).modPwr fun p => { p with waking := false }
  else s.modRst fun r => { r with wait := 5 }

/-- REF_CLK has been valid for 1 ms: step 3 with the result of the self-test, where one is due, and step 4. The start waits where VCORE or the
firmware fails (R632, R649). -/
def State.refClkValid (s : State) (pass : Nat) (newFw running : Bool) : State :=
  let w := s.rst.wait
  if w ≠ 3 ∧ w ≠ 4 then s
  else
    let s := if w = 3 ∧ (s.rst.follow = 0 ∨ s.rst.shutdown) then s.testPhases pass else s
    if s.obj Obj.phasesInService = 0 then s.startFails true
    else if !running && !(newFw && s.nvs.fwIdle.isSome) then s.startFails false
    else s.lockAndBoot newFw

/-- The self-test is tried again, 1 s after the last one (R649). -/
def State.selfTestAgain (s : State) (pass : Nat) (running : Bool) : State :=
  if s.rst.wait ≠ 5 then s
  else
    let s := (s.advanceTo (s.now + 1000 * msTicks)).testPhases pass
    if s.obj Obj.phasesInService = 0 || !running then s else s.modRst fun r => { r with wait := 4 }

/-! BOOT (R94, R537 to R540, R636). -/

/-- The objects that an application of the slot leaves alone after a warm reset: OP_BOOT, and the setpoints of supplies held (R363, R636). -/
def State.bootKeeps (s : State) (k : Nat) : Bool :=
  s.rst.follow == 1 && (k == Obj.opBoot || s.probeChans.any fun n => s.supplyOn n && (List.range 3).any fun i => k == Obj.setpoint n i)

/-- Factory defaults are applied: CFG_DEFAULTED and line 45 (R537, R538). -/
def State.factoryDefaults (s : State) (cause : Option Nat) : State :=
  let s := (s.defaultsWhere s.bootKeeps).setBit Obj.nvsStatus 0 true
  let s := match cause with
    | some c => s.setBit Obj.nvsFaultCause c true
    | none => s
  s.raise 45 (sourceWord 0 (cause.getD 0xFF))

/-- The bank that a slot names, when it is valid. -/
def State.bankNamed (s : State) (x : NvsSlot) : Option NvsBank :=
  if x.bank = 0xFF then none
  else if (s.bankOf x.bank).whole ∧ (s.bankOf x.bank).seq = x.bankSeq then some (s.bankOf x.bank) else none

/-- The slot is chosen, applied and checked, or rejected whole (R537, R538): the slot whose system records count, if any. -/
def State.chooseSlot (s : State) : State × Option NvsSlot :=
  let s := if s.storeLost then (s.setBit Obj.nvsFaultCause 1 true).raise 44 (sourceWord 0 1) else s
  let s := (s.setBit Obj.nvsStatus 0 false).setBit Obj.nvsStatus 1 false
  match s.newestSlot with
  | none => (s.factoryDefaults none, none)
  | some (n, x) =>
    let s := s.showSlot n x
    let t := s.applySlot s.bootKeeps x
    if t.pairsOk && t.slotFits (s.bankNamed x) then (t, some x) else (s.factoryDefaults (some 3), none)

/-- The system records of the slot (R320, R539): after a warm reset retention memory holds them. -/
def State.systemRecords (s : State) (x : Option NvsSlot) : State :=
  if s.rst.follow = 1 then s
  else
    match x with
    | none => (s.loadSets []).setFence []
    | some x =>
      let (ok, sets, fence) := s.sysRecords x
      let s := if ok then s else (s.setBit Obj.nvsFaultCause 2 true).raise 44 (sourceWord 0 2)
      (s.loadSets sets).setFence fence

/-- What applied values set in motion: every bucket at its ceiling (R161), the always-on copy of COLD_ERASE, the timestamp mode and the message channels (R40, R458, R640). -/
def State.appliedEffects (s : State) : State :=
  let s := s.modRst fun r => { r with coldErase := s.obj Obj.coldErase == 1 }
  let s := ({ s with buckets := [] } : State).tsModeActs.tsModeWritten
  let s := if s.clk.run.isNone then s.applySetpoint else s
  s.forAll 32 fun m t => t.msgEnableEffect m

/-! Step 6: populations and training (R14, R15, R165, R171, R196, R214, R227, R264, R270). -/

/-- The operating points trained at start-up, the one the engine will run at last (R15, R270). -/
def State.trainOps (s : State) (ch : Nat) : List Nat :=
  let two := s.twoDimms
  let ok (op : Nat) : Bool := !(two && decide (op < 2))
  let fin := if ok (s.obj Obj.opCurrent) then s.obj Obj.opCurrent else 3
  ((List.range 4).filter fun op => s.bit (Obj.trainOpMask ch) op && ok op && op != fin) ++ [fin]

/-- A DIMM passes the checks of R14, and of R214 up to the highest operating point configured. -/
def dimmPasses (d : Dimm) (top : Nat) : Bool :=
  d.kind == .rdimm && !d.stacked && d.width == 8 && (d.ranks == 1 || d.ranks == 2) &&
    (d.density == 16 || d.density == 24 || d.density == 32) &&
    (List.range 4).all fun op => decide (op < top) || d.spd.all fun m => spdFits m op (decide (16 < d.density))

/-- A population passes the checks of R14, R165 and R214, up to the highest operating point configured. -/
def popOk (l : List Dimm) (top : Nat) : Bool :=
  (l.length == 1 || l.length == 2) && l.all (fun d => dimmPasses d top) &&
    (match l with
     | [a, b] => a.ranks == b.ranks && a.density == b.density
     | _ => true)

/-- The SPD of a channel's DIMMs is read: other DIMMs than before hold contents the spec leaves open. -/
def State.readSpd (s : State) (ch : Nat) (l : List Dimm) : State :=
  let s := if (s.chan ch).dimms = l then s else s.loseDram ch
  s.modChan ch fun c => if c.dimms = l then c else { c with dimms := l, selfRefresh := false, parked := false }

/-- Populations are checked and the map computed; a refused channel is failed (R14, R171, R196, R649). -/
def State.populate (s : State) (pop : List (List Dimm)) : State :=
  let s := s.each channels4 fun ch t => t.readSpd ch (pop.getD ch [])
  let s := s.each channels4 fun ch t =>
    let ok := popOk (t.chan ch).dimms ((t.trainOps ch).foldl min 3)
    let bad := !(t.chan ch).dimms.isEmpty && !ok
    let t := t.modChan ch fun c => { c with accepted := ok, failed := bad }
    t.when bad fun t => t.setObj (Obj.trainState ch) 4
  let s := s.computeMap
  s.each s.acceptedChans fun ch t =>
    let t := t.placeFresh ch (t.obj Obj.opCurrent)
    t.setObj (Obj.setValid ch) ((List.range 4).foldl (fun w op => withBit w op (t.storedSet ch op)) 0)

/-- Step 6 (R270, R632): every accepted channel waits for its training, and its pads leave the latch. -/
def State.stepSix (s : State) : State :=
  let s := s.modRst fun r => { r with step6 := false }
  let s := s.each s.acceptedChans fun ch t =>
    let ops := t.trainOps ch
    (((t.planTraining ch ops (!t.storedSet ch (ops.headD 3)) false).modChan ch fun c => { c with parked := false }).setBit Obj.padStatus ch false)
  s.nextTrainOp

/-- Step 6 when nothing holds the store (R632, R641). -/
def State.trySix (s : State) : State :=
  if !s.rst.step6 || s.hedgehog || s.bit Obj.fltStatus 2 || !s.vinOn || s.bit Obj.live 50 || s.obj Obj.runPhase == 1 then s else s.stepSix

/-! The end of BOOT. -/

/-- The image-area entries that BOOT_IMAGE names are loaded, FG first (R449). -/
def State.bootImages (s : State) : State :=
  s.each [0, 1] fun i t =>
    let v := t.obj (Obj.bootImage i)
    if v = 0xFF || t.held (t.obj Obj.loadFrame) then t else (t.loadImage i (t.areaContent v) (t.entryOf v).isSome).1

/-- Every live line is raised again (R562). -/
def State.raiseLive (s : State) : State :=
  s.each ((List.range 52).filter fun n => s.bit Obj.live n) fun n t => t.raise n (t.obj (Obj.lastSource n))

/-- Parked channels return under RESUME_MODE: at once, or at PAD_RELEASE (R637, R643). -/
def State.returnChannels (s : State) (keep : Bool) : State :=
  let s := s.modRst fun r => { r with resumeOwed := true }
  if s.obj Obj.resumeMode = 1 then s.modRst fun r => { r with hold := true } else s.resumeParked keep

/-- Owl is disarmed, and SCL released if it holds it (R587, R588). -/
def State.owlOff (s : State) : State := s.modPwr fun p => { p with owlArmed := false, owlAt := none }

/-- A wake is complete: WAKES, LAST_SLEEP_US, RUN with RUN_PHASE RESUMING, the session free, Owl disarmed (R582, R583, R587). -/
def State.wakeEnds (s : State) : State :=
  let s := (s.bump Obj.wakes).setObj Obj.lastSleepUs (min 0xFFFFFFFF ((s.now - s.pwr.slept) / usTicks))
  let s := (s.modPwr fun p => { p with mode := 0, waking := false, sampling := false }).owlOff.freeSession
  s.modRst fun r => { r with resumeOwed := true }

/-- After a wake from WATCH: the channels recorded DONE keep that, and the pads stay latched until PAD_RELEASE (R585, R586). -/
def State.watchStarts (s : State) : State :=
  let rec' := s.pwr.record
  let s := s.each (if rec'.keep then rec'.filled else []) fun ch t => (t.setObj (Obj.fillState ch) 2).modChan ch fun c => { c with keptOffsets := false }
  s.stampsUnsure.wakeEnds

/-- The management core finishes BOOT, with the populations it found (R94, R513, R632, R636). A settings-store operation that a warm reset lets
complete keeps BOOT waiting (R533). -/
def State.bootCompletes (s : State) (pop : List (List Dimm)) : State :=
  if s.obj Obj.runPhase ≠ 1 || s.rst.wait != 0 || !s.regs.on || s.rst.coldLow || s.rst.warmLow || s.nvs.op.isSome then s
  else
    let follow := s.rst.follow
    let (s, x) := s.chooseSlot
    let s := (s.systemRecords x).appliedEffects.scanArea
    let s := s.each channels4 fun ch t => t.modChan ch fun c => { c with shed := [] }
    let s := if follow = 1 then s.computeMap.each s.acceptedChans fun ch t => t.placeFresh ch (t.obj Obj.opCurrent) else s.populate pop
    let s := s.each s.acceptedChans fun ch t => t.careStarts ch (follow != 1)
    let s := ((s.setObj Obj.lastStart s.rst.start).setObj Obj.lastStartTs s.ts).setObj Obj.runPhase 4
    let s := s.freeSession.bootImages
    let s := s.each s.probeChans fun n t => if t.powerIs n psHeld then t.setObj (Obj.powerState n) psGood else t
    let s := s.each ((List.range 16).filter fun p => s.obj (Obj.portEnable p) == 1 && !s.bit Obj.live 50) fun p t => t.startTraining p
    let s := if follow = 1 then s.raiseLive else s
    let s := if follow = 0 then (s.modRst fun r => { r with step6 := true }).trySix
      else if follow = 2 then s.watchStarts
      else if s.vinOn then s.returnChannels true
      else s
    (s.alHeld).modRst fun r => { r with shutdown := false }

end Sys2Proof.Machine
end

