-- ==== Sys2Proof/Machine/Power.lean ====
section
/-! DEFINITION. The power states: the participants of the entry handshake, requests, DOZE, the abort points and the undo, wakes, Owl, the pads and the
DORMOUSE sampler (R568 to R597, R664). -/

namespace Sys2Proof.Machine

/-! Whether a clock runs, and whether the dictionary is reachable. -/

/-- VCORE is on, no start waits, and the engine is in RUN or DOZE. -/
def State.awake (s : State) : Bool := s.regs.on && s.rst.wait == 0 && decide (s.pwr.mode < 2)

/-- The clocks that DOZE gates run (R571). -/
def State.clocked (s : State) : Bool := s.awake && s.pwr.mode == 0

/-- The last abort point of an entry in progress has reached k. -/
def State.entryPast (s : State) (k : Nat) : Bool :=
  match s.pwr.entry with
  | some e => (match e.point with | some p => decide (k ≤ p) | none => false)
  | none => false

/-- The dictionary is reachable: until A4 of an entry, and while a sample runs (R577, R589). -/
def State.reachable (s : State) : Bool := (s.awake && !s.entryPast 4) || (s.pwr.mode == 2 && s.pwr.sampling)

/-- The ingress of every requester is closed (R577): MG and FS issue nothing further. -/
def State.ingressClosed (s : State) : Bool := s.entryPast 1

/-! Participants (R573, R576, R664). Number 14 is the power controller itself. -/

def State.participants (s : State) : List Nat :=
  (List.range 15).filter fun p => s.part == .ft4216 || (p != 4 && p != 5)

def partNo (p : Nat) : Nat := if p = 14 then 0xFE else p

/-- A read completion or a command-page command is unanswered. -/
def State.hostBusy (s : State) : Bool :=
  (List.range 4).any fun q => let h := s.hq q
    !h.reads.isEmpty || h.pending.isSome || h.items.any fun i => match i with | .write .. => false | _ => true

/-- An enabled client of class LOCKSTEP on an enabled port. -/
def State.lockstepLive (s : State) : Bool :=
  (List.range 256).any fun c => s.obj (Obj.clientEnable c) == 1 && s.obj (Obj.portEnable (c / 16)) == 1 && s.obj (Obj.arbClass c) == 0

/-- The conditions of a participant (R576): the code, the reply to a handshake (1 REFUSE, 2 DELAY, 0 none), whether it refuses DOZE, and whether
it holds. -/
def State.partConds (s : State) (p : Nat) : List (Nat × Nat × Bool × Bool) :=
  if p < 4 then
    let c := s.chan p
    let live := c.accepted && !c.failed
    [(0x10, 2, true, live && (c.train.isSome || c.resuming || s.obj (Obj.savePending p) == 1)),
     (0x11, 2, true, live && s.obj (Obj.fillState p) == 1)]
  else if p < 6 then
    [(0x20, 1, true, s.pbOn (p - 4)), (0x21, 1, false, !s.powerIs (p - 4) psOff)]
  else match p with
  | 6 => [(0x30, 1, true, s.ctxRuns 0 || s.ctxRuns 1), (0x31, 2, true, s.scanBusy), (0x32, 2, true, s.edgeWork 0 || s.edgeWork 1)]
  | 7 => [(0x40, 1, false, (List.range 16).any fun q => s.obj (Obj.portEnable q) == 1), (0x41, 0, true, s.lockstepLive)]
  | 8 => [(0x50, 2, false, s.bit Obj.pcieLink 9 && s.pcie.dState == 0), (0x51, 2, false, s.hostBusy)]
  | 9 => let a := s.obj Obj.ectAlState
         [(0x60, 1, false, a == 4 || a == 8 || a == 3), (0x61, 2, false, s.ect.transfer.isSome)]
  | 10 => [(0x70, 2, true, s.nvs.op.isSome)]
  | 11 => [(0x80, 2, false, (List.range 32).any fun m => s.obj (Obj.msgEnable m) == 1 && (s.mcIs m mcFull || s.mcIs m mcFilling))]
  | 12 => [(0x90, 1, true, s.hedgehog), (0x91, 1, true, s.bit Obj.fltStatus 2), (0x92, 2, true, !s.deferred.isEmpty)]
  | 13 => [(0xA0, 1, true, s.obj Obj.shmooActual != 0), (0xA1, 1, false, !s.vinOn)]
  | _ => [(0xF0, 1, false, decide (s.now < s.pwr.holdoff))]

/-- A participant's reply to ASK: 0 ACCEPT, 1 REFUSE with the lowest refusing code, 2 DELAY with the lowest delaying one (R664). -/
def State.askReply (s : State) (p : Nat) : Nat × Nat :=
  let l := (s.partConds p).filter fun x => x.2.2.2
  match l.find? fun x => x.2.1 == 1 with
  | some x => (1, x.1)
  | none => match l.find? fun x => x.2.1 == 2 with
    | some x => (2, x.1)
    | none => (0, 0)

/-- The code with which a participant refuses DOZE, if it does (R571, R576). -/
def State.dozeRefusal (s : State) (p : Nat) : Option Nat := ((s.partConds p).find? fun x => x.2.2.1 && x.2.2.2).map fun x => x.1

/-- The reply that counts for a participant that does not answer (R595). -/
def State.silentReply (s : State) (p : Nat) : Nat × Nat :=
  let l := s.partConds p
  match l.find? fun x => x.2.1 == 2 with
  | some x => (2, x.1)
  | none => (1, (l.headD (0, 1, false, false)).1)

/-! Accounting (R592). -/

/-- A participant's last refusal or delay. -/
def State.partLast (s : State) (p code : Nat) : State :=
  if p < 14 then (s.setObj (Obj.partLastReason p) code).setObj (Obj.partLastTs p) s.ts else s

/-- A refusal by a participant. -/
def State.partRefuses (s : State) (p code : Nat) : State :=
  let s := if p < 14 then (s.bump (Obj.partRefusals p)).partLast p code else s
  ((s.bump Obj.entryRefusals).setObj Obj.lastRefuser (partNo p)).setObj Obj.lastRefuserReason code

/-- A delay ends: PART_DELAY_MAX. -/
def State.delayEnds (s : State) (x : Nat × Nat × Nat) : State :=
  if x.1 < 14 then s.track (Obj.partDelayMax x.1) ((s.now - x.2.2) / usTicks) else s

/-- A request for DOZE fails at every participant whose condition holds: the write is refused (R571). -/
def State.dozeRefusers (s : State) : List (Nat × Nat) := s.participants.filterMap fun p => (s.dozeRefusal p).map fun c => (p, c)

def State.dozeCounted (s : State) : State := s.each s.dozeRefusers fun x t => t.partRefuses x.1 x.2

/-! Wake events (R572, R578, R582, R586). -/

/-- WAKE_CAUSE and WAKE_TS. -/
def State.wakeNoted (s : State) (cause detail : Nat) : State :=
  (s.setObj Obj.wakeCause (cause + detail % 256 * 256)).setObj Obj.wakeTs s.ts

/-- The timestamp after RETAIN or WATCH carries an error within 100 ppm of the time spent and 32 µs, never behind the value saved (R586). -/
def State.sleepError (s : State) : State :=
  let spent := (s.now - s.pwr.slept) / 9
  let most := ((s.now - s.pwr.slept) / 10000 + 32 * usTicks) / 9
  let least := min most spent
  let off := s.freeNat 0 % (most + least + 1)
  let s := ({ s with tsOff := (s.tsOff + off + 2 ^ 64 - least) % 2 ^ 64 }).drew 1
  let s := s.when (s.bit Obj.tsStatus 0) fun t => t.bump Obj.tsUnlockCount
  ((s.setBit Obj.tsStatus 0 false).setBit Obj.tsStatus 3 false).stampsUnsure

/-- A wake event, with its cause and detail; none is an event that WAKE_CAUSE has no code for (R621). A wake from WATCH is a
start-up, with the LAST_START code of the sleep (R585, R644, R650). -/
def State.wakeEvent (s : State) (cause : Option (Nat × Nat)) : State :=
  let note (t : State) : State := match cause with | some x => t.wakeNoted x.1 x.2 | none => t
  match s.pwr.entry with
  | some e =>
    if e.point = some 5 then
      let late := match e.late with | some x => some x | none => cause
      s.modPwr fun p => { p with entry := some { e with late := late } }
    else if e.abandon then s
    else (note s).modPwr fun p => { p with entry := some { e with abandon := true } }
  | none =>
    if s.pwr.waking then s
    else match s.pwr.mode with
    | 1 => (note s).modPwr fun p => { p with waking := true }
    | 2 => (note s).modPwr fun p => { p with waking := true }
    | 3 => (note s.sleepError).modPwr fun p => { p with waking := true }
    | 4 => let code := if s.rst.shutdown then 9 else if s.rst.vinParked then 7 else 6
           ((note s.sleepError).dieReset true).startWaits 2 code
    | _ => s

/-! DOZE (R571, R572). -/

/-- DOZE is entered. -/
def State.dozeEnters (s : State) : State :=
  let s := (s.modPwr fun p => { p with mode := 1 }).bump Obj.dozeEntries
  let s := s.cmdDone Obj.pwrRequest
  if s.pwr.wakeLow then s.wakeEvent (some (1, 0)) else s

/-- Every rank of a running channel leaves power-down: its first command waits for rule 24 (R211, R571). -/
def State.powerDownExit (s : State) : State :=
  s.each (channels4.filter s.chanRuns) fun ch t => t.modChan ch fun c =>
    let pdx := (rankNos c.dimms).map fun rk : Nat => (⟨.pdx, rk, 0, 0, 0, false, false, s.cyc, false⟩ : DramCmd)
    { c with subA := { c.subA with hist := pdx ++ c.subA.hist }, subB := { c.subB with hist := pdx ++ c.subB.hist } }

/-- A wake from DOZE is complete. -/
def State.dozeWakes (s : State) : State :=
  if s.pwr.mode = 1 ∧ s.pwr.waking then ((s.modPwr fun p => { p with mode := 0, waking := false }).bump Obj.wakes).powerDownExit else s

/-- An accepted write in DOZE wakes the engine, and then acts (R572, R594). -/
def State.writeWakes (s : State) : State :=
  if s.pwr.mode = 1 then (s.wakeEvent (some (5, 1))).dozeWakes else s

/-- A request that arrives at an ingress in DOZE wakes the engine (R572). -/
def State.requestWakes (s : State) : State := if s.pwr.mode = 1 then s.wakeEvent (some (5, 0)) else s

/-! The end of an entry (R575, R578, R579, R596). -/

/-- The entry ends without reaching its state: FAILED, unless a later request has taken the status (R60, R570). -/
def State.entryGone (s : State) : State :=
  let l := match s.pwr.entry with | some e => e.delaying | none => []
  let s := (s.each l fun x t => t.delayEnds x).modPwr fun p => { p with entry := none }
  let s := if s.pwr.waiting.isNone then s.cmdFailed Obj.pwrRequest 9 else s
  s.releaseForce

/-- An abandoned entry is counted, and a storm raises line 51 and starts the holdoff (R596). -/
def State.stormCheck (s : State) : State :=
  let window := s.obj Obj.stormWindow * msTicks
  let l := (s.pwr.storms.filter fun t => decide (s.now ≤ t + window)) ++ [s.now]
  if l.length < s.obj Obj.stormCount then s.modPwr fun p => { p with storms := l }
  else
    let hold := s.now + s.obj Obj.stormHoldoff * msTicks
    ((s.modPwr fun p => { p with storms := [], holdoff := hold }).bump Obj.stormRaises).raise 51 (sourceWord 0 0xFF)

/-- Nothing keeps the store channels parked. -/
def State.storeFree (s : State) : Bool := !s.hedgehog && !s.bit Obj.fltStatus 2 && s.vinOn && !s.bit Obj.live 50 && s.obj Obj.runPhase != 1

/-- The accepted channels that a bring-up concerns. -/
def State.bringable (s : State) : List Nat := s.acceptedChans.filter fun ch => !(s.chan ch).failed && (s.chan ch).train.isNone

/-- The steps that were passed are undone, the last first (R578, R579). -/
def State.undo (s : State) (e : Entry) : State :=
  let past (k : Nat) : Bool := match e.point with | some p => decide (k ≤ p) | none => false
  let s := if past 4 then
      let keep := if s.storeFree then 0 else s.obj Obj.padStatus % 16
      ((s.setObj Obj.padStatus keep).owlOff).linksOn
    else s
  if past 3 then
    if s.storeFree then (s.modRst fun r => { r with resumeOwed := true }).each s.bringable fun ch t => t.startResume ch true else s
  else if past 2 then
    s.each (s.bringable.filter fun ch => bitOf e.ready ch && !(s.chan ch).parked) fun ch t => t.setBit Obj.channelsReady ch true
  else s

/-- The entry is abandoned at an abort point (R578). -/
def State.abandonAt (s : State) (e : Entry) (k : Nat) : State := (((s.bump (Obj.abortedA k)).undo e).stormCheck).entryGone

/-! The handshake (R574, R575, R595). -/

/-- Every ACCEPT has been received: A0 (R574, R577). -/
def State.handshakeDone (s : State) : State :=
  match s.pwr.entry with
  | some e =>
    if e.point.isNone && e.asked.isEmpty && e.delaying.isEmpty then
      (s.modPwr fun p => { p with entry := some { e with point := some 0 }, lastPoint := 0 }).freeSession
    else s
  | none => s

/-- An entry starts: every participant is asked (R574); with WAKE_N low it is abandoned at A0 (R582). -/
def State.entryStarts (s : State) (target : Nat) : State :=
  let e : Entry := { target := target, began := s.now, asked := s.participants, askedAt := s.now, ready := s.obj Obj.channelsReady }
  let s := s.modPwr fun p => { p with entry := some e, lastPoint := 7 }
  let s := s.setObj Obj.pwrRequest 1
  if s.pwr.wakeLow then s.wakeEvent (some (1, 0)) else s

/-- The replies of participants that arrive on one c (R575, R664): ACCEPT, DELAY counted once for each entry, or REFUSE. -/
def State.replies (s : State) (e : Entry) (l : List (Nat × Nat × Nat)) : State :=
  let ps := l.map fun x => x.1
  let left := e.delaying.filter fun d => !ps.contains d.1
  let gone := e.delaying.filter fun d => ps.contains d.1 && !l.any fun x => x.1 == d.1 && x.2.1 == 2
  let s := s.each gone fun x t => t.delayEnds x
  let late := l.filter fun x => x.2.1 == 2
  let s := s.each late fun x t =>
    (if e.delaying.any fun d => d.1 == x.1 then t else if x.1 < 14 then t.bump (Obj.partDelays x.1) else t).partLast x.1 x.2.2
  let now := s.now
  let still := late.map fun x => (x.1, x.2.2, match e.delaying.find? fun d => d.1 == x.1 with | some d => d.2.2 | none => now)
  let s := s.modPwr fun p => { p with entry := some { e with asked := e.asked.filter fun q => !ps.contains q, delaying := left ++ still } }
  let refs := l.filter fun x => x.2.1 == 1
  if refs.isEmpty then s.handshakeDone
  else (s.each refs fun x t => t.partRefuses x.1 x.2.2).entryGone

/-- HANDSHAKE_REPLY: the participants among `ps` that were asked reply. -/
def State.handshakeReply (s : State) (ps : List Nat) : State :=
  match s.pwr.entry with
  | some e =>
    if e.point.isSome then s
    else s.replies e ((e.asked.filter fun p => ps.contains p).map fun p => (p, s.askReply p))
  | none => s

/-- REASK_TIMER: 10 µs after the last ASK the delaying participants are asked again. -/
def State.reask (s : State) : State :=
  match s.pwr.entry with
  | some e =>
    if e.point.isSome || e.delaying.isEmpty then s
    else
      let s := s.advanceTo (e.askedAt + 10 * usTicks)
      let now := s.now
      s.modPwr fun p => { p with entry := some { e with asked := (e.asked ++ e.delaying.map fun d => d.1).eraseDups, askedAt := now } }
  | none => s

/-- ASK_TIMEOUT: a participant has not replied within 2 µs (R595). -/
def State.askTimeout (s : State) (q : Nat) : State :=
  match s.pwr.entry with
  | some e =>
    if e.point.isSome || !e.asked.contains q then s
    else (s.advanceTo (e.askedAt + 2 * usTicks)).replies e [(q, s.silentReply q)]
  | none => s

/-- ENTRY_DELAY_EXPIRY (R575): the first participant still delaying refuses. -/
def State.delayExpires (s : State) : State :=
  match s.pwr.entry with
  | some e =>
    match (e.delaying.mergeSort fun a b => decide (a.1 ≤ b.1)) with
    | x :: _ =>
      if e.point.isSome then s
      else (((s.advanceTo (e.began + s.obj Obj.entryDelayMax * usTicks)).bump Obj.delayExpiries).partRefuses x.1 x.2.1).entryGone
    | [] => s
  | none => s

/-! Abort points (R577, R580, R585). -/

/-- A1: every range lock is released ORPHANED. -/
def State.stepA1 (s : State) : State := s.orphanLocks (fun _ => true) 6

/-- A2: CHANNELS_READY is clear, waiting shadows act, pending neighbour-refresh events are dropped (R90). -/
def State.stepA2 (s : State) : State :=
  let s := s.setObj Obj.channelsReady 0
  let mode := s.shadows.any fun h => h.key == Obj.tsMode
  let s := s.dropShadows fun h => h.bound != .reset && h.bound != .linkRetrain
  let s := if mode then s.tsModeActs else s
  s.each s.acceptedChans fun ch t => t.dropEvents ch

/-- A3: self-refresh on every accepted channel. -/
def State.stepA3 (s : State) : State :=
  s.each (s.acceptedChans.filter fun ch => !(s.chan ch).failed && !(s.chan ch).selfRefresh) fun ch t => t.enterSelfRefresh ch

/-- The balls that the pad latch takes. -/
def State.latchMask (s : State) : Nat :=
  (channels4.foldl (fun w ch => withBit w ch (!(s.chan ch).dimms.isEmpty)) 0) + (if s.part = .ft4216 then 0x30 else 0) + 0x40

/-- A4: pads latched, links down, Owl armed. Without WATCH_KEEP_DRAM the DIMMs are reset. -/
def State.stepA4 (s : State) (target : Nat) : State :=
  let keep := s.obj Obj.watchKeepDram == 1
  let s := s.setObj Obj.padStatus (s.obj Obj.padStatus ||| s.latchMask)
  let s := if target = 4 ∧ !keep then
      s.each (channels4.filter fun ch => !(s.chan ch).dimms.isEmpty) fun ch t =>
        (t.loseDram ch).modChan ch fun c => { c with selfRefresh := false }
    else s
  let s := s.linksOff
  let arm := decide (3 ≤ target) && s.obj Obj.owlEnable == 1
  let addr := s.obj Obj.sbAddress
  s.modPwr fun p => { p with owlArmed := arm, record := { p.record with valid := false, keep := keep, owl := arm, address := addr } }

/-- A5: for WATCH the wake record is written. -/
def State.stepA5 (s : State) (target : Nat) : State :=
  if target = 4 then
    let l := channels4.filter fun ch => s.obj (Obj.fillState ch) == 2
    s.modPwr fun p => { p with record := { p.record with valid := true, filled := l } }
  else s

/-- VCORE is off. -/
def State.vcoreOff (s : State) : State := { s with regs := { s.regs with on := false, v0 := 0, target := 0, t0 := s.now, rate := 0 } }

/-- The point of no return (R570, R577, R589). -/
def State.noReturn (s : State) (e : Entry) : State :=
  let op := s.obj Obj.opCurrent
  let s := (s.vcoreOff.bump Obj.entries)
  let s := if s.pwr.waiting.isNone then s.cmdDone Obj.pwrRequest else s
  let s := if e.target = 4 then s.dropShadows fun _ => true else s
  let first := s.now + s.obj Obj.dmPeriod * msTicks
  let now := s.now
  let s := s.modPwr fun p => { p with mode := e.target, entry := none, slept := now, sleptOp := op, sampleAt := first, sampling := false }
  match e.late with
  | some x => s.wakeEvent (some x)
  | none =>
    if s.pwr.waiting.isSome then s.wakeEvent (some (4, 0))
    else if s.pwr.wakeLow then s.wakeEvent (some (1, 0)) else s

/-- ABORT_POINT_REACHED: the next abort point, with what is complete there; an abandoned entry ends there (R577, R578). A2 is reached when every
queue is empty. -/
def State.abortPoint (s : State) : State :=
  match s.pwr.entry with
  | some e =>
    match e.point with
    | none => s
    | some k =>
      if k = 5 then s.noReturn e
      else if k = 1 ∧ !s.ents.isEmpty then s
      else
        let s := match k with
          | 0 => s.stepA1
          | 1 => s.stepA2
          | 2 => s.stepA3
          | 3 => s.stepA4 e.target
          | _ => s.stepA5 e.target
        let e' : Entry := { e with point := some (k + 1) }
        let s := s.modPwr fun p => { p with entry := some e', lastPoint := k + 1 }
        if e.abandon then s.abandonAt e' (k + 1) else s
  | none => s

/-- STEP_OVERRUN: the step in progress passes its bound (R595). -/
def State.stepOverrun (s : State) : State :=
  match s.pwr.entry with
  | some e =>
    match e.point with
    | none => s
    | some k => (s.bump Obj.stepOverruns).abandonAt e (min 5 (k + 1))
  | none => s

/-- STORM_HOLDOFF_END (R596). -/
def State.stormEnds (s : State) : State :=
  if s.pwr.holdoff = 0 then s else (s.advanceTo s.pwr.holdoff).modPwr fun p => { p with holdoff := 0 }

/-! Requests (R569, R570). -/

/-- Why a PWR_REQUEST is refused: DOZE with a condition that fails when the request reaches the write port, but for a request in DOZE itself
(R569, R571). -/
def State.pwrRefused (s : State) (v : Nat) : Option Nat :=
  if v = 1 ∧ s.pwr.mode ≠ 1 ∧ !s.dozeRefusers.isEmpty then some 9 else none

/-- An accepted PWR_REQUEST: it waits; a reversal abandons the entry in progress, and one past A5 is a wake after it (R570, R578). -/
def State.pwrRequested (s : State) (v : Nat) : State :=
  if s.pwr.mode = v ∧ !s.pwr.waking ∧ s.pwr.entry.isNone ∧ s.pwr.waiting.isNone then s.cmdDone Obj.pwrRequest
  else
    let s := if s.pwr.entry.isSome ∧ v < 2 then (if s.entryPast 5 then s else s.bump Obj.reversals).wakeEvent (some (4, 0)) else s
    let s := if s.pwr.waiting.isSome then s.bump Obj.replacedRequests else s
    (s.modPwr fun p => { p with waiting := some v }).setObj Obj.pwrRequest 2

/-- A waiting request starts: from RUN when no transition runs; between samples, in RETAIN and in WATCH it wakes the engine (R569, R570). -/
def State.startWaiting (s : State) (v : Nat) : State :=
  if s.pwr.mode = 0 then
    if s.clk.run.isSome || !s.awake then s
    else
      let s := s.modPwr fun p => { p with waiting := none }
      if v = 0 then s.cmdDone Obj.pwrRequest
      else if v = 1 then
        if s.dozeRefusers.isEmpty then s.dozeEnters else s.dozeCounted.cmdFailed Obj.pwrRequest 9
      else s.entryStarts v
  else s.wakeEvent (some (4, 0))

/-- What the power controller does by itself: an event during the handshake abandons at A0, and a waiting request starts (R570, R594). -/
def State.powerSettle (s : State) : State :=
  let s := match s.pwr.entry with
    | some e => if e.abandon && e.point.isNone then s.abandonAt e 0 else s
    | none => s
  match s.pwr.waiting with
  | some v => if s.pwr.entry.isNone && !s.pwr.waking then s.startWaiting v else s
  | none => s

/-! WAKE_N, Owl and the end of a wake (R582, R583, R587, R588). -/

/-- The level of WAKE_N. -/
def State.wakePin (s : State) (low : Bool) : State :=
  let s := s.modPwr fun p => { p with wakeLow := low }
  if low then s.wakeEvent (some (1, 0)) else s

/-- An address byte on the sideband bus: Owl acknowledges SB_ADDRESS and holds SCL. -/
def State.owlMatch (s : State) (address rw : Nat) : State :=
  if s.pwr.owlArmed && decide (3 ≤ s.pwr.mode) && s.pwr.owlAt.isNone && address == s.pwr.record.address then
    (s.modPwr fun p => { p with owlAt := some s.now }).wakeEvent (some (2, rw))
  else s

/-- SCL is released 30 ms after the match (R588). -/
def State.owlRelease (s : State) : State :=
  match s.pwr.owlAt with
  | some t => (s.advanceTo (t + 30 * msTicks)).modPwr fun p => { p with owlAt := none }
  | none => s

/-- WAKE_COMPLETE: a wake from DORMOUSE or RETAIN ends; it waits for VIN and for a phase in service (R568, R583, R624). -/
def State.wakeCompletes (s : State) : State :=
  if !s.pwr.waking || (s.pwr.mode != 2 && s.pwr.mode != 3) then s
  else if s.pwr.mode == 2 && s.pwr.sampling then (s.setOp s.pwr.sleptOp).linksOn.wakeEnds
  else if !s.vinOn then s
  else if s.obj Obj.phasesInService = 0 then s.modPwr fun p => { p with waking := false }
  else
    let retain := s.pwr.mode == 3
    let s := (s.vcoreOn s.pwr.sleptOp).setOp s.pwr.sleptOp
    let s := if retain then s.monitorStart else s
    s.linksOn.wakeEnds

/-! PAD_RELEASE (R581, R584, R585, R637). -/

/-- Why PAD_RELEASE is refused: during a sample, and on the bank (R594, R642). -/
def State.padRefused (s : State) : Option Nat := if s.pwr.mode == 2 || !s.vinOn then some 9 else none

/-- The bring-up of the accepted channels. -/
def State.bringUp (s : State) : State :=
  let s := s.modRst fun r => { r with resumeOwed := true }
  let l := s.bringable.filter fun ch => (s.chan ch).selfRefresh
  if s.pwr.record.valid then
    let s := s.modPwr fun p => { p with record := { p.record with valid := false } }
    if s.pwr.record.keep then s.each l fun ch t => t.startResume ch false
    else s.modRst fun r => { r with step6 := true }
  else s.each l fun ch t => t.startResume ch true

/-- PAD_RELEASE: the latch opens, but for channels that something else keeps parked. -/
def State.padReleases (s : State) : State :=
  let s := s.cmdDone Obj.padRelease
  if s.obj Obj.padStatus = 0 then s
  else
    let s := s.modRst fun r => { r with hold := false }
    if s.storeFree then (s.setObj Obj.padStatus 0).bringUp else s.setObj Obj.padStatus (s.obj Obj.padStatus % 16)

/-! The DORMOUSE sampler (R589 to R591). -/

/-- A sample starts, DM_PERIOD after the one before: VCORE rises to the entry operating point (step 1 of R589). -/
def State.sampleStarts (s : State) : State :=
  let s := (s.advanceTo s.pwr.sampleAt).vcoreOn s.pwr.sleptOp
  let next := s.now + s.obj Obj.dmPeriod * msTicks
  s.modPwr fun p => { p with sampling := true, sampleAt := next }

/-- A violation ends the sample and wakes the engine. -/
def State.violation (s : State) (item v : Nat) (above nack : Bool) : State :=
  let s := s.bump Obj.dmSamples
  let s := s.setObj Obj.dmViolation (item + b2n above * 256 + b2n nack * 512 + v % 65536 * 65536 + s.obj Obj.dmSamples % 2 ^ 32 * 2 ^ 32)
  let s := if nack then s.bump Obj.dmNacks else s
  s.wakeEvent (some (3, item))

/-- A value as DM_LAST holds it. -/
def State.dmNote (s : State) (off v : Nat) : State := s.patchDom Obj.dmLast off (leBytes 2 (v % 65536))

/-- A sensor's bytes as its 16-bit raw value (R591). -/
def sensorRaw (e : List Byte) (b0 b1 : Nat) : Nat :=
  let f := (byteAt e 2).toNat
  if bitOf f 0 then (if bitOf f 1 then b0 % 256 + b1 % 256 * 256 else b1 % 256 + b0 % 256 * 256)
  else if bitOf f 2 then ofInt 16 (toInt 8 (b0 % 256)) else b0 % 256

/-- The items of a sample in the order they are read: the item, its DM_LAST offset, its raw value unless it NACKs, and its value and bounds. -/
def State.dmItems (s : State) (temp : Int) (vin vhold : Nat) (sensors : List (Option (Nat × Nat))) :
    List (Nat × Nat × Option Nat × Int × Int × Int) :=
  let u (k : Nat) : Int := s.obj k
  let fixed := [(0, 0, some (ofInt 16 temp), temp, toInt 16 (s.obj Obj.dmTempLo), toInt 16 (s.obj Obj.dmTempHi)),
    (1, 2, some vin, (vin : Int), u Obj.dmVinLo, u Obj.dmVinHi), (2, 4, some vhold, (vhold : Int), u Obj.dmVholdLo, u Obj.dmVholdHi)]
  let d := s.dom Obj.dmSensors
  let board := (List.range 8).map fun k =>
    let e := (d.drop (8 * k)).take 8
    let sg (v : Nat) : Int := if bitOf (byteAt e 2).toNat 2 then toInt 16 v else v
    let raw := (sensors.getD k none).map fun b => sensorRaw e b.1 b.2
    (0x10 + k, 6 + 2 * k, raw, sg (raw.getD 0), sg (leNat ((e.drop 4).take 2)), sg (leNat ((e.drop 6).take 2)))
  (fixed ++ board).filter fun x => s.bit Obj.dmEnableMask (if x.1 < 3 then x.1 else x.1 - 8)

/-- The items are read and compared in turn; the first violation ends the sample, and with none VCORE goes off (step 5 of R589). -/
def State.dmRead (s : State) : List (Nat × Nat × Option Nat × Int × Int × Int) → State
  | [] => ((s.bump Obj.dmSamples).vcoreOff).modPwr fun p => { p with sampling := false }
  | (item, off, raw, v, lo, hi) :: l =>
    match raw with
    | none => s.violation item 0 false true
    | some r =>
      let s := s.dmNote off r
      if v < lo ∨ hi < v then s.violation item r (decide (hi < v)) false else s.dmRead l

/-- DM_SAMPLE: the timer starts a sample; when one runs, its measurements come in after `us` microseconds, and the engine sleeps again or wakes. A
sample that fell due meanwhile starts on completion (R589). -/
def State.dmSample (s : State) (temp : Int) (vin vhold : Nat) (sensors : List (Option (Nat × Nat))) (us : Nat) : State :=
  if s.pwr.mode ≠ 2 ∨ s.pwr.waking then s
  else if !s.pwr.sampling then s.sampleStarts
  else
    let n := popCount 8 (s.obj Obj.dmEnableMask / 256)
    let s := s.advanceTo (s.now + min us (321 + 125 * n) * usTicks)
    let s := s.dmRead (s.dmItems temp (min 0xFFFF vin) (min 0xFFFF vhold) sensors)
    if !s.pwr.sampling && decide (s.pwr.sampleAt < s.now) then (s.bump Obj.dmOverruns).sampleStarts else s

/-- PWR_STATUS (R598). -/
def State.pwrStatusWord (s : State) : Nat :=
  let p := s.pwr
  let trans := if p.waking then 3 else match p.entry with | some e => if e.abandon then 2 else 1 | none => 0
  let target := match p.entry with | some e => e.target | none => 0
  p.mode % 16 + trans * 16 + target * 256 + p.lastPoint * 4096 + b2n p.waiting.isSome * 32768

end Sys2Proof.Machine
end

