-- ==== Sys2Proof/Machine/Faults.lean ====
section
/-! DEFINITION. The fault collector: reactions, Hedgehog, the return from it, clearing, the thermal lines and the management core's watchdog (R546,
R547, R550 to R560, R667, R668), and what every command ends with: reactions to the lines raised, answers to their requesters, and what falls due at
once. -/

namespace Sys2Proof.Machine

/-! Reactions (R553, R667). -/

/-- The probe channels in scope of a curl (R553). -/
def State.curlScope (s : State) (r : Raise) : List Nat :=
  let i := r.source % 256
  if 16 ≤ r.line ∧ r.line < 24 then [(r.line - 16) / 4]
  else if (r.line = 38 ∨ r.line = 39) ∧ i ≠ 0xFF then [i / 16]
  else s.probeChans

/-- ABORT: every enabled port, the host queues and both contexts. -/
def State.reactAbort (s : State) : State :=
  let s := s.each ((List.range 16).filter fun p => s.obj (Obj.portEnable p) == 1) fun p t => t.startAbort (.port p) 1 false
  let s := s.each [0, 1, 2, 3] fun q t => t.startAbort (.host q) 1 false
  s.each [0, 1] fun i t => t.startAbort (.ctx i) 1 false

/-- PARK: every store channel parks; in force until FLT_RESUME (R557). -/
def State.reactPark (s : State) : State := if s.bit Obj.fltStatus 2 then s else (s.setBit Obj.fltStatus 2 true).parkStore

/-- The curls of a reaction that are taken at once in DOZE also (R668). -/
def State.reactCurl (s : State) (r : Raise) (eff : Nat) : State :=
  let hot := bitOf eff 6 && !s.hedgehog
  let deep := bitOf eff 3 || hot
  if hot then s.each s.probeChans fun n t => t.curl n 8 true
  else if bitOf eff 2 || deep then s.each (s.curlScope r) fun n t => t.curl n 8 deep
  else s

/-- Hedgehog is entered (R555): every action of bits 1 to 5. -/
def State.enterHedgehog (s : State) (cause : Nat) : State :=
  if s.hedgehog then s
  else
    let s := (((s.setBit Obj.fltStatus 1 true).setObj Obj.hhCause cause).bump Obj.hhEntries).setObj Obj.hhLastTs s.ts
    let s := s.each s.probeChans fun n t => t.curl n 8 true
    (s.reactAbort.reactPark).forcedMove true

/-- The actions that wait for the clocks DOZE gates. -/
def State.reactRest (s : State) (n : Nat) : State :=
  let eff := s.effReaction n
  let s := if bitOf eff 0 then s.stopFabric else s
  let s := if bitOf eff 1 then s.reactAbort else s
  let s := if bitOf eff 4 then s.reactPark else s
  let s := if bitOf eff 5 then s.forcedMove true else s
  if bitOf eff 6 then s.enterHedgehog n else s

/-- The reaction to one raise: what it does to the power state, and its actions (R553, R572, R578, R582, R668). -/
def State.reactTo (s : State) (r : Raise) : State :=
  let eff := s.effReaction r.line
  let acts := decide (eff % 128 ≠ 0)
  let s := if acts then s.bump Obj.reactionsApplied else s
  let doze := s.pwr.mode == 1
  let s := if doze then s.wakeEvent (some (5, 2))
    else if acts && (s.pwr.entry.isSome || s.pwr.sampling) then s.wakeEvent (some (6, r.line))
    else s
  let s := s.reactCurl r eff
  if doze then (if fld 0 2 eff != 0 || fld 4 3 eff != 0 then { s with deferred := s.deferred ++ [r.line] } else s)
  else s.reactRest r.line

/-- The reactions of the lines raised, and those that waited for the end of a wake from DOZE. -/
def State.react (s : State) : Nat → State
  | 0 => s
  | n + 1 =>
    let late := if s.pwr.mode = 1 then [] else s.deferred
    if s.raised.isEmpty && late.isEmpty then s
    else
      let l := s.raised
      let s := { s with raised := [], deferred := if s.pwr.mode = 1 then s.deferred else [] }
      (((s.each late fun k t => t.reactRest k).each l fun r t => t.reactTo r)).react n

/-! HH_REQUEST and FLT_RESUME (R555, R557). -/

/-- HH_REQUEST. -/
def State.hhRequested (s : State) : State := (s.enterHedgehog 0xFE).cmdDone Obj.hhRequest

/-- FLT_RESUME is refused while a live line would park or enter Hedgehog. -/
def State.resumeRefused (s : State) : Option Nat :=
  if (List.range 52).any fun n => s.bit Obj.live n && (bitOf (s.effReaction n) 4 || bitOf (s.effReaction n) 6) then some 9 else none

/-- FLT_RESUME: Hedgehog and PARK end, and the parked channels resume, after an operating-point transition in progress. -/
def State.fltResumed (s : State) : State :=
  let s := s.cmdDone Obj.fltResume
  if !s.hedgehog && !s.bit Obj.fltStatus 2 then s
  else
    ((s.setBit Obj.fltStatus 1 false).setBit Obj.fltStatus 2 false).resumeParked true

/-! Clearing (R552, R559, R560). -/

/-- The episode closes: the record is copied to PREV_EPISODE. -/
def State.closeEpisode (s : State) : State :=
  let s := s.setObj Obj.epState 0
  let s := s.each [Obj.epState, Obj.epNumber, Obj.epFirstLine, Obj.epFirstTs, Obj.epFirstSource, Obj.epFirstReaction, Obj.epLines, Obj.epMerged,
    Obj.epLastTs] fun k t => t.setObj (k + 0x100) (t.obj k)
  (s.setObj (Obj.epClosedTs + 0x100) s.ts).emcy 0 (zeros 5)

/-- A write to FTW names a reserved bit. -/
def ftwRefused (v : Nat) : Option Nat := if fld 52 11 v != 0 then some 6 else none

/-- FTW_CLEAR: bits written 1 clear unless their line is live; CLEAR_HELD counts the write that leaves one. -/
def State.ftwCleared (s : State) (v : Nat) : State :=
  let old := s.obj Obj.ftw
  let want := (List.range 64).filter fun n => bitOf v n && bitOf old n
  let held := want.filter fun n => decide (n < 52) && s.bit Obj.live n
  let s := s.setObj Obj.ftw (clearBits old ((want.filter fun n => !held.contains n).foldl (fun w n => withBit w n true) 0))
  let s := if held.isEmpty then s else s.bump Obj.clearHeld
  if old ≠ 0 ∧ s.obj Obj.ftw = 0 then s.closeEpisode else s

/-! Thermal lines (R546). -/

/-- The die sensor's sample, in 0.1 °C. -/
def State.dieSample (s : State) (t : Int) : State :=
  let step := 10 * usTicks
  let s := s.advanceTo ((s.now / step + 1) * step)
  let s := s.setObj Obj.dieTemp (ofInt 16 t)
  let s := if toInt 16 (s.obj Obj.maxDieTemp) < t then s.setObj Obj.maxDieTemp (ofInt 16 t) else s
  let holds (line bit : Nat) (thr : Int) : Bool := decide (thr ≤ t) || (bitOf (s.causesOf line) bit && decide (thr - 50 < t))
  let s := s.setCause 42 0 (sourceWord 0xFF 0xFF) (holds 42 0 (10 * s.obj Obj.thermWarn))
  s.setCause 43 0 (sourceWord 0 0xFF) (holds 43 0 1100)

/-! The management core (R91, R547). -/

/-- The core misses its watchdog, and restarts. -/
def State.mgBites (s : State) : State := s.beginCause 49 0 (sourceWord 0 0xFF)

/-- The core has restarted: emergencies that waited are sent. -/
def State.mgRestarts (s : State) : State := if s.mgUp then s else (s.endCause 49 0).sendEmcy

/-! What every command ends with. -/

/-- An answered request goes to its requester: a stream port, a host queue, an FE port, the management core, or patrol scrub. -/
def State.deliverOne (s : State) (r : Req) : State :=
  if r.rq < 0x100 then s.deliverStream r
  else if r.rq < 0x104 then s.deliverHost r
  else if r.rq < 0x120 then s.deliverFe r
  else if r.rq = 0x120 then (match r.tag with | 1 => s.peekDone r | 2 => s.imageLines r | 3 => s.moveLines r | _ => s)
  else s

/-- The requests answered by the command are delivered. -/
def State.deliver (s : State) : Nat → State
  | 0 => s
  | n + 1 =>
    if s.answers.isEmpty then s
    else (({ s with answers := [] }).each s.answers fun r t => t.deliverOne r).deliver n

/-- A return of the channels is over (R28): nothing is latched, and no accepted channel is on its way. -/
def State.resumeSettle (s : State) : State :=
  if s.rst.resumeOwed && fld 0 4 (s.obj Obj.padStatus) == 0 && !s.rst.step6 &&
      !s.acceptedChans.any (fun ch => !(s.chan ch).failed && ((s.chan ch).selfRefresh || (s.chan ch).resuming || (s.chan ch).train.isSome))
  then s.modRst fun r => { r with resumeOwed := false }
  else s

/-- START_MS (R653): a start is over when every accepted channel is released or failed. -/
def State.startSettle (s : State) : State :=
  if s.rst.counting && s.obj Obj.runPhase != 1 && s.rst.wait == 0 && !s.rst.step6 &&
      s.acceptedChans.all (fun ch => (s.chan ch).failed || s.released ch)
  then (s.modRst fun r => { r with counting := false }).setObj Obj.startMs (min 0xFFFFFFFF ((s.now - s.rst.began) / msTicks))
  else s

/-- What falls due at once. -/
def State.settle (s : State) : State :=
  let s := s.each s.probeChans fun n t => (t.rampStage n).dropProbePorts n
  let s := s.settleAborts.slotArrivals
  let s := (((s.creditServed.creditSlotted).freePaths).msgProgress).opSettle.endStalls.drainStarts
  let s := (s.forAll 16 fun p t => t.pumpControl p).each channels4 fun ch t => (((t.countIdle ch).noteFs ch).drainAgain ch).trainSaves ch
  let s := if s.nvs.fwWaiting && s.nvs.op.isNone then s.placeFirmware else s
  ((s.trySix.powerSettle).resumeSettle).startSettle.quietShadows

/-- Reactions, deliveries, and what they set off in turn. What is left after the rounds given waits for the end of the next command. -/
def State.settleAll (s : State) : Nat → State
  | 0 => s
  | n + 1 =>
    let s := ((s.react 8).deliver 8).settle
    if s.raised.isEmpty && s.answers.isEmpty then s else s.settleAll n

/-- The end of every command. -/
def State.finish (s : State) : State := s.settleAll 8

end Sys2Proof.Machine
end

