-- ==== Sys2Proof/Machine/Reset.lean ====
section
/-! DEFINITION. Resets, the loss and return of VIN, the sleep on the bank, shutdowns, and the loss of VAUX (R363, R622, R628 to R651, R692, R693). -/

namespace Sys2Proof.Machine

/-! The sleep of R644, R645 and R650. -/

/-- A4 and A5 of an entry to WATCH with no handshake, and VCORE off. -/
def State.sleepWatch (s : State) : State :=
  let op := s.obj Obj.opCurrent
  let s := (((s.stepA4 4).stepA5 4).freeSession).vcoreOff
  let s := s.discardShadows fun _ => true
  let now := s.now
  let s := s.modPwr fun p => { p with mode := 4, entry := none, waiting := none, waking := false, sampling := false, lastPoint := 5, slept := now,
                                      sleptOp := op }
  let s := { s with deferred := [], raised := [], answers := [] }
  if s.pwr.wakeLow then s.wakeEvent (some (1, 0)) else s

/-- The bank is too low to go on (R644, R645). -/
def State.vinSleepDue (s : State) : Bool :=
  let e := s.obj Obj.holdupEAct
  (decide (e ≤ 10 * s.obj Obj.vinSleepMj) && s.nvs.op.isNone) || decide (e ≤ 200) || (s.bit Obj.holdupStatus 2 && s.nvs.op.isNone)

/-- VIN_SLEEP (R644): a settings-store operation still running at 20 mJ is abandoned. -/
def State.vinSleeps (s : State) : State :=
  if s.rst.vinParked && s.awake && s.vinSleepDue then (s.nvsAbandon.bump Obj.vinSleeps).sleepWatch else s

/-- A shutdown: the store parks, the probes are curled with discharge, and the engine sleeps (R622, R650). -/
def State.shutDown (s : State) : State :=
  let s := s.modRst fun r => { r with shutdown := true, vinParked := false }
  if s.awake then
    let s := s.each s.probeChans fun n t => t.curl n 8 true
    s.parkStore.sleepWatch
  else if s.pwr.mode = 2 ∨ s.pwr.mode = 3 then s.sleepWatch
  else s

/-- FOLDBACK_SHUTDOWN (R622): at once with no phase in service, else 100 µs after the forced move. -/
def State.foldbackShutdown (s : State) : State :=
  if s.awake && s.mustShutDown then
    let at' := if s.obj Obj.phasesInService = 0 then s.now else s.regs.forcedEnd.getD s.now + 100 * usTicks
    ((s.advanceTo at').setBit Obj.regFaultCause 4 true).shutDown
  else s

/-- THERMAL_SHUTDOWN (R693): a wake is held until the sensor reads below 100 °C. -/
def State.thermalShutdown (s : State) : State :=
  if s.pwr.mode = 5 then s else (s.modPwr fun p => { p with hotHold := true }).shutDown

/-- THERMAL_WAKE_RELEASE. -/
def State.thermalRelease (s : State) : State := (s.modPwr fun p => { p with hotHold := false }).startVin

/-! VIN (R641 to R645). -/

/-- The loss of VIN in RUN: curl, park, fabric stopped, forced move to OP3. -/
def State.vinLostRunning (s : State) : State :=
  let s := ((s.vinGone.setBit Obj.regFaultCause 6 true).line40).modRst fun r => { r with vinParked := true }
  let s := s.each s.probeChans fun n t => t.curl n 7 true
  let s := ((s.parkStore.bump Obj.vinParks).stopFabric).forcedMove false
  s.vinSleeps

/-- VIN_LOSS: in DOZE the engine wakes first, in a sample the sample ends; between samples it goes straight to sleep; in RETAIN and WATCH, and
before VCORE is up, nothing happens but that VIN is absent. -/
def State.vinLoss (s : State) : State :=
  if !s.vinOn || s.pwr.mode == 5 then s
  else
    let absent (t : State) : State := (t.setBit Obj.vinStatus 0 false).setBit Obj.vinStatus 1 true
    if s.rst.wait != 0 then
      let s := absent s
      if s.rst.wait = 3 ∨ s.rst.wait = 4 then s.modRst fun r => { r with wait := 2 } else s
    else match s.pwr.mode with
    | 0 => s.vinLostRunning
    | 1 => (s.wakeEvent (some (5, 2))).dozeWakes.vinLostRunning
    | 2 =>
      if s.pwr.sampling then (s.linksOn.wakeEnds).vinLostRunning
      else
        let s := ((s.vinGone.bump Obj.vinSleeps).modRst fun r => { r with vinParked := true })
        s.sleepWatch
    | _ => absent s

/-- The parked engine goes on: LAST_START and its time, and RESUME_MODE (R637, R643). -/
def State.vinResumes (s : State) : State :=
  let s := s.modRst fun r => { r with vinParked := false }
  if s.obj Obj.runPhase = 1 then s
  else ((s.setObj Obj.lastStart 8).setObj Obj.lastStartTs s.ts).returnChannels true

/-- VIN_RETURN: a start or a wake that waits goes on, a parked engine resumes, and the sleep of R644 ends. -/
def State.vinReturn (s : State) : State :=
  if s.vinOn || s.pwr.mode == 5 then s
  else if s.rst.wait != 0 then
    ((s.setBit Obj.vinStatus 0 true).setBit Obj.vinStatus 1 false).startVin
  else if s.pwr.mode = 4 then
    let s := (s.setBit Obj.vinStatus 0 true).setBit Obj.vinStatus 1 false
    if s.rst.vinParked then s.wakeEvent (some (0, 0)) else s
  else
    let s := s.vinBack
    if s.rst.vinParked then s.vinResumes else s

/-! Warm reset (R634 to R638). -/

/-- What follows a reset's park: reads, lockstep tables and links are gone, with no response (R631, R634). -/
def State.linksReset (s : State) : State :=
  let s := s.orphanLocks (fun _ => true) 5
  let s := s.forAll 16 fun p t => ((if t.linkActive p then t.linkGoesDown p 1 else t.setObj (Obj.linkState p) 0).endCause 28 p).modSp p fun _ => {}
  let s := s.each [0, 1, 2, 3] fun q t => t.abortHost q 5
  let s := { s with reqs := [], ents := [], answers := [], aborts := [], buckets := [] }
  s.each channels4 fun ch t => (t.modChan ch fun c => { c with pathHolder := none }).setObj (Obj.holder ch) 0xFFFF

/-- What a warm reset does to the fabric: both contexts stop, a scan or a load ends, the edge queues are emptied (R446, R634). -/
def State.fabricReset (s : State) : State :=
  let s := ((s.stopFabric).scanAborted 0).scanAborted 1
  let s := match s.moveJob with
    | some j => if j.op = 2 then s.setBit (Obj.frameKind j.frame) 3 true else s
    | none => s
  { s with edgeIn := [], edgeOut := [], edgeWait := [], portBad := [], feOpen := [], edgeHeld := [], headMoved := [], scan := none,
           imageJob := none, moveJob := none, drainWait := [], drain := none }

/-- A fill that was running starts again from line 0, and a training is begun anew (R308, R638). -/
def State.fillsReset (s : State) : State :=
  s.each channels4 fun ch t =>
    if t.obj (Obj.fillState ch) = 1 then
      ((t.setObj (Obj.fillState ch) 0).setObj (Obj.fillPosition ch) 0).modChan ch fun c => { c with fillNext := 0 }
    else t

/-- Supplies that are on are held (R363). -/
def State.holdSupplies (s : State) : State :=
  s.each s.probeChans fun n t => if t.powerIs n psGood || t.powerIs n psUp then t.setObj (Obj.powerState n) psHeld else t

/-- The dictionary's own part: shadows bound to the reset act, the others are discarded; batches and staging are gone, and the session is free (R93). -/
def State.dictReset (s : State) : State :=
  let s := (s.dropShadows fun h => h.bound == .reset).discardShadows fun _ => true
  ({ s with port := {}, staging := [] }).freeSession

/-- A warm reset steps an offset that is not zero to zero, with a retune of the core PLL; in a holdover the recovery relocks it (R634). -/
def State.stepShmoo (s : State) : State :=
  if s.obj Obj.shmooActual = 0 ∨ s.bit Obj.clockStatus 4 then s.zeroShmoo else s.zeroShmoo.setOp (s.obj Obj.opCurrent)

/-- The actions of a warm reset from its detection, in RUN. -/
def State.warmActs (s : State) (code : Nat) : State :=
  let again := s.rst.follow
  let booting := s.obj Obj.runPhase == 1 && again != 1
  let s := s.modPwr fun p => { p with mode := 0, entry := none, waking := false, waiting := none, sampling := false }
  let s := { s with deferred := [], clk := { s.clk with heldForce := none } }
  let s := (s.each s.probeChans fun n t => t.curl n 6 false).holdSupplies
  let s := (s.fabricReset.parkStore).linksReset
  let s := ((s.alOff.dictReset).forAll 32 fun m t => t.msgDiscard m)
  let s := { s with msgs := [], mbs := [] }
  let s := (s.stepShmoo.opAbandon).fillsReset
  let s := ((s.setObj Obj.channelsReady 0).bump Obj.warmResets).setObj Obj.runPhase 1
  let now := s.now
  s.modRst fun r => { r with start := code, began := now, counting := true, follow := if booting then again else 1, hold := false, resumeOwed := false }

/-- The pin's level and the reset it causes: a wake from WATCH, VCORE and retention first in DORMOUSE and RETAIN, and nothing before the management
core runs (R629, R648). -/
def State.warmDetected (s : State) (code : Nat) : State :=
  if s.rst.coldLow || s.rst.warmLow || s.pwr.mode == 5 then s
  else
    let s := s.modRst fun r => { r with warmLow := true }
    if s.rst.wait != 0 then s
    else match s.pwr.mode with
    | 4 => (s.sleepError.dieReset true).startWaits 2 code
    | 0 => s.warmActs code
    | 1 => s.warmActs code
    | _ =>
      if s.obj Obj.phasesInService = 0 || !s.vinOn then s
      else
        let s := if s.pwr.mode = 3 then (if s.pwr.waking then s else s.sleepError).monitorStart else s
        (((s.vcoreOn s.pwr.sleptOp).setOp s.pwr.sleptOp).linksOn.owlOff).warmActs code

/-- The objects of the checker test modes, which return to their defaults on every reset (R325, R327). -/
def testObject (k : Nat) : Bool := 0x3000 ≤ k / 0x100 && decide (k / 0x100 < 0x3400) && k / 0x100 % 0x100 == 0xB0

/-- The objects of the blocks whose state a warm reset does not keep: the stream links and the message channels (R478, R646). -/
def lostOverWarm (k : Nat) : Bool :=
  (0x4210 ≤ k / 0x100 && decide (k / 0x100 < 0x4220)) || (0x4400 ≤ k / 0x100 && decide (k / 0x100 < 0x4420))

/-- An object keeps its value over a warm reset (R636): counters, records and read-only objects, but for those of the blocks that lose their state, and
what the application of the slot leaves alone. Status bits cleared by writing 1 stay like the counters of their block (DEDUCED, log entry 166). -/
def State.warmKeeps (s : State) (k : Nat) : Bool :=
  s.bootKeeps k || !(lostOverWarm k || testObject k || accOf k == some .rw || accOf k == some .rwp || accOf k == some .cmd || accOf k == some .wo)

/-- WARM_N rises, or the low level of RESET_CMD ends: the management core restarts (R531, R636). -/
def State.warmReleased (s : State) (newFw : Bool) : State :=
  if !s.rst.warmLow then s
  else
    let s := s.modRst fun r => { r with warmLow := false }
    if s.rst.follow != 1 || s.obj Obj.runPhase != 1 then s
    else
      let s := { s with dict := s.dict.filter fun e => s.warmKeeps e.1, doms := s.doms.filter fun e => s.warmKeeps e.1 }
      (s.endCause 49 0).bootFirmware newFw

/-! Cold reset (R639, R640). -/

/-- The store over a cold reset: a park, or with COLD_ERASE the DIMMs' reset. -/
def State.coldStore (s : State) : State :=
  if s.rst.coldErase then
    s.each channels4 fun ch t => (t.loseDram ch).modChan ch fun c => { c with selfRefresh := false }
  else if s.awake then
    let s := s.each (channels4.filter fun ch => s.obj (Obj.savePending ch) == 1) fun ch t => t.spoilRows ch
    s.parkStore
  else s

/-- How long the supplies of a probe channel ramp down in a cold reset: DUT_VDD and DUT_VDDQ to 0.1 V at 1 V/ms, then DUT_VPP (R347, R639). -/
def State.coldRamp (s : State) (n : Nat) : Nat :=
  let t (k : Nat) : Nat := ((((s.pb n).supply k).at s.now) - 1000) * usTicks / 10
  if s.supplyOn n then max (t 0) (t 1) + t 2 else 0

/-- The die is reset, and the kind of start to come is noted; the DUT supplies that were on ramp down before the start (R639). -/
def State.coldActs (s : State) (code : Nat) : State :=
  let ramp := (s.probeChans.map s.coldRamp).foldl max 0
  let s := ((s.coldStore.nvsInterrupt).dieReset false).bump Obj.coldResets
  let now := s.now
  let s := s.modRst fun r => { r with rampsUntil := max r.rampsUntil (now + ramp) }
  s.modRst fun r => { r with wait := 2, follow := 0, start := code, began := now, counting := true, vinParked := false, shutdown := false }

/-- COLD_RESET and RESET_CMD COLD. -/
def State.coldDetected (s : State) (code : Nat) : State :=
  if s.rst.coldLow || s.pwr.mode == 5 then s
  else
    let s := s.coldActs code
    s.modRst fun r => { r with coldLow := true }

/-- RESET_N rises: the power-on sequence runs from step 3, once VIN is present. -/
def State.coldReleased (s : State) : State :=
  if s.rst.coldLow then (s.modRst fun r => { r with coldLow := false }).startVin else s

/-- The channels that are not in self-refresh. -/
def State.openChans (s : State) : List Nat := channels4.filter fun ch => !(s.chan ch).dimms.isEmpty && !(s.chan ch).selfRefresh

/-- RAIL_COLLAPSE (R651), or a fixed rail out of tolerance (R670): VCORE is off at once, and a cold reset begins when VIN is present. DIMMs that
were not in self-refresh lose what they hold. -/
def State.railCollapse (s : State) : State :=
  if !s.regs.on then s
  else
    let s := s.each s.openChans fun ch t => t.loseDram ch
    let s := s.setObj Obj.padStatus (s.obj Obj.padStatus ||| s.latchMask)
    let s := s.modRst fun r => { r with coldErase := false }
    (s.coldActs 7).startVin

/-! VAUX (R632, R692). -/

/-- VAUX_LOSS: the engine is OFF, and nothing is kept. -/
def State.vauxLoss (s : State) : State :=
  if s.pwr.mode = 5 then s
  else
    let s := s.nvsInterrupt
    let s := s.each channels4 fun ch t => (t.loseDram ch).modChan ch fun c => { c with selfRefresh := false }
    let s := { s.vcoreOff with raised := [], answers := [] }
    s.modPwr fun _ => { mode := 5, wakeLow := s.pwr.wakeLow }

/-- POWER_ON: VAUX is applied from OFF, with VIN present or not, and the power-on sequence runs. -/
def State.powerOn (s : State) (vin : Bool) : State :=
  if s.pwr.mode ≠ 5 then s
  else
    let t : State := { State.reset with
      pending := s.pending, part := s.part, drawn := s.drawn, serial := s.serial, lost := s.lost
      doms := s.doms.filter fun e => flashDom e.1
      pcie := { perst := s.pcie.perst }
      ect := { link0 := s.ect.link0, link1 := s.ect.link1, forwards := false }
      nvs := { s.nvs with op := none, fwWaiting := false }
      regs := { on := false }
      pwr := { wakeLow := s.pwr.wakeLow }
      rst := { coldLow := s.rst.coldLow, warmLow := s.rst.warmLow } }
    let t := t.each channels4 fun ch u => u.modChan ch fun c => { c with dimms := (s.chan ch).dimms }
    let t := (t.setBit Obj.vinStatus 0 vin).setBit Obj.vinStatus 1 (!vin)
    t.startWaits 0 1

end Sys2Proof.Machine
end

