-- ==== Sys2Proof/Machine/View.lean ====
section
/-! DEFINITION. The objects as a read gives them: those that show the state of a block are computed, every other holds its last accepted
value (R58, R62, and the object tables of the chapters). -/

namespace Sys2Proof.Machine

/-! Engine status. -/

/-- Some accepted channel that has not failed. -/
def State.anyChan (s : State) (p : Chan → Bool) : Bool := s.acceptedChans.any fun ch => !(s.chan ch).failed && p (s.chan ch)

/-- A populated channel that has not failed is not released while nothing brings it back: from A2 of an entry on (R577). -/
def State.unreadyChan (s : State) : Bool := s.acceptedChans.any fun ch => !(s.chan ch).failed && !s.bit Obj.channelsReady ch

/-- RUN_PHASE: PARKED while WARM_N is low, LOW_POWER in a sample of DORMOUSE, else the first of its conditions that holds (R28, R589, R635). The model's
choices (DESIGN CHOICE, log entry 104): channels that RESUME_MODE HOLD keeps for PAD_RELEASE read RESUMING, as R637 has it against the order of R28; a channel
withdrawn for an entry and not yet back reads PARKED, for which R28 has no value of its own. -/
def State.runPhaseWord (s : State) : Nat :=
  if s.rst.warmLow then 5
  else if s.obj Obj.runPhase = 1 then 1
  else if s.rst.hold && s.vinOn && !s.bit Obj.live 50 && !s.hedgehog && !s.bit Obj.fltStatus 2 then 6
  else if s.anyChan (fun c => c.parked) then 5
  else if s.pwr.mode = 2 then 7
  else if s.rst.resumeOwed || s.anyChan (fun c => c.resuming) || (s.padsLatched && s.anyChan fun c => c.selfRefresh) then 6
  else if s.pwr.mode = 1 then 7
  else if channels4.any (fun ch => (s.chan ch).train.isSome) || s.rst.step6 then 2
  else if channels4.any (fun ch => s.obj (Obj.fillState ch) == 1) then 3
  else if s.unreadyChan then 5
  else if channels4.any (fun ch => !(s.chan ch).dimms.isEmpty && ((s.chan ch).failed || !(s.chan ch).accepted)) then 8
  else 4

/-- FEATURES (R27). -/
def State.featuresWord (s : State) : Nat := if s.part = .ft4216 then 0xF else 0

/-- DICT_STATUS (R97). -/
def State.dictStatusWord (s : State) : Nat :=
  withBit (withBit (s.obj Obj.dictStatus) 2 (!s.port.held.isEmpty)) 3 s.session.batch.isSome

/-- SESSION_REMAINING, in ms (R96): a part of a millisecond is not counted (DESIGN CHOICE, log entry 172). -/
def State.sessionLeft (s : State) : Nat := if s.session.owner = 0 then 0 else (s.session.due - s.now) / msTicks

/-- FLT_STATUS (R564): the episode, Hedgehog and a PARK reaction, and whether a reaction waits. -/
def State.fltStatusWord (s : State) : Nat :=
  withBit (withBit (s.obj Obj.fltStatus) 0 (s.obj Obj.epState == 1)) 3 (!s.deferred.isEmpty)

/-- FTW_TRANSIENT: FTW and not LIVE. -/
def State.ftwTransientWord (s : State) : Nat := clearBits (s.obj Obj.ftw % 2 ^ 52) (s.obj Obj.live)

/-! The beacon pins (R507). -/

/-- BCN[3:0]: the first condition that holds. -/
def State.bcnCode (s : State) : Nat :=
  let p := s.runPhaseWord
  if s.rst.wait = 3 ∨ s.rst.wait = 4 then 1
  else if s.regs.on && !s.vinOn then 2
  else if s.bit Obj.live 50 then 3
  else if s.bit Obj.live 49 then 4
  else if s.pwr.mode = 4 then 5
  else if s.pwr.mode = 3 then 6
  else if p = 1 ∨ p = 2 then 7
  else if p = 3 then 8
  else if p = 6 then 9
  else if p = 8 then 10
  else if p = 4 then 11
  else if p = 7 then 12
  else if p = 5 then 13
  else 14

/-- BCN[7:0] in STATUS mode. -/
def State.bcnStatus (s : State) : Nat :=
  if s.pwr.mode = 3 ∨ s.pwr.mode = 4 then s.bcnCode
  else s.bcnCode + 16 * b2n (s.obj Obj.ftw != 0) + 32 * b2n (s.probeChans.any fun n => s.pbIs n pbCurled) +
    64 * b2n (s.bit Obj.bcnNow 6) + 128 * b2n (s.session.owner != 0)

/-- BCN[7:0]. -/
def State.bcnWord (s : State) : Nat :=
  if s.obj Obj.bcnMode = 1 && s.mgUp && s.pwr.mode < 3 then s.obj Obj.bcnUser else s.bcnStatus

/-! The store. -/

/-- LS_POSITIONS: the lockstep positions of each subchannel. -/
def State.lsPositionsWord (s : State) (ch : Nat) : Nat :=
  let n (sub : Nat) : Nat := ((List.range 1024).filter fun p => p % 2 == sub && decide ((s.wheelOf ch).getD p ownFree < 0x100)).length
  n 0 + n 1 * 65536

/-- WHEEL_MAP: a 16-bit entry for each position. -/
def State.wheelBytes (s : State) (ch : Nat) : List Byte := (s.wheelOf ch).flatMap fun o => leBytes 2 o

/-- The density class of a channel for the timing rules. -/
def State.bigDies (s : State) (ch : Nat) : Bool := decide (16 < ((s.chan ch).dimms.headD {}).density)

/-- The computed objects of a store channel, by index within its span and subindex. -/
def State.storeView (s : State) (ch ix sb k : Nat) : Nat :=
  let op := s.obj Obj.opCurrent
  match ix, sb with
  | 0x10, 9 => s.queueLevels ch
  | 0x10, 0xA => withBit (s.obj k) 3 (s.ents.any fun e => e.ch == ch && e.stage == .slotted && decide (e.granted ≤ s.cyc))
  | 0x30, 1 => s.wheelPos
  | 0x30, 3 => lsLead op
  | 0x30, 4 => lsFixed op
  | 0x30, 5 => s.lsPositionsWord ch
  | 0x40, 4 => 1024 - reservedOf (s.wheelOf ch)
  | 0x40, 5 => s.highLoad
  | 0x50, 5 => s.refP ch op
  | 0x50, 6 => s.refD ch
  | 0x60, 8 => s.nrM ch
  | 0xA0, 7 => withBit (s.obj k) 0 (s.obj (Obj.scrubEnable ch) == 1 && s.released ch && s.chanRuns ch && s.pwr.mode == 0)
  | 0x70, 4 => s.trainStepNow ch
  | 0x90, 4 => withBit (s.obj k) 2 (s.act (Obj.trackEnable ch) == 1)
  | 0x60, 0xC => withBit (withBit (s.obj k) 2 ((s.chan ch).actsHeld 0 || (s.chan ch).actsHeld 1)) 3 (s.chan ch).raaOn
  | _, _ =>
    if ix = 0x20 ∧ 1 ≤ sb ∧ sb ≤ 0x19 then ruleCount sb op (s.bigDies ch)
    else if ix = 0x20 ∧ 0x1A ≤ sb ∧ sb ≤ 0x1D then ruleHot (sb - 0x19) op
    else if ix = 0x20 ∧ sb = 0x1E then readData op
    else if ix = 0x20 ∧ sb = 0x1F then writeData op
    else s.obj k

/-! Requesters. -/

/-- ARB_STATUS (R162). -/
def State.arbStatusWord (s : State) (rq : Nat) : Nat :=
  let holds (ch : Nat) : Bool := match (s.chan ch).pathHolder with
    | some n => s.ents.any fun e => e.serial == n && e.rq == rq
    | none => false
  b2n (channels4.any fun ch => s.quotaMasked ch rq) + 2 * b2n (s.reqs.any fun r => r.rq == rq && r.stage == .regulator) +
    4 * b2n (holds 0) + 8 * b2n (holds 1) + 16 * b2n (holds 2) + 32 * b2n (holds 3)

/-- The arbitration views of a requester. -/
def State.rqView (s : State) (rq sb k : Nat) : Nat :=
  if sb = 0x16 then ofInt 32 (s.bucketLevel rq) else if sb = 0x1F then s.arbStatusWord rq else s.obj k

/-- The computed objects at 0x4000 to 0x4FFF. -/
def State.clientView (s : State) (ix sb k : Nat) : Nat :=
  if ix < 0x4100 then
    let c := ix - 0x4000
    if sb = 2 then (if s.clientAborting c then 2 else s.obj (Obj.clientEnable c)) else if sb = 6 then min 0xFF (s.outstanding c).length else s.rqView c sb k
  else if ix < 0x4104 then
    let q := ix - 0x4100
    if sb = 8 then (s.reqs.filter fun r => r.rq == rqHost q && r.kind.isRead).length else s.rqView (0x100 + q) sb k
  else if 0x4400 ≤ ix ∧ ix < 0x4420 ∧ 1 ≤ sb ∧ sb ≤ 0x10 ∧ s.mcWidth (ix - 0x4400) < sb then 0
  else if ix = 0x4800 ∧ sb = 3 then s.fabStateWord
  else if 0x4810 ≤ ix ∧ ix < 0x4812 ∧ 2 ≤ sb ∧ sb ≤ 6 then
    if sb = 6 then s.tilesLoaded (ix - 0x4810) else s.tilesIn (ix - 0x4810) ([1, 3, 2, 4].getD (sb - 2) 0)
  else if ix = 0x4860 ∧ sb = 6 then s.scanStatusWord
  else if 0x4868 ≤ ix ∧ ix < 0x4870 ∧ sb = 4 then s.frameCrcWord (ix - 0x4868)
  else if 0x4880 ≤ ix ∧ ix < 0x4890 then
    let e := ix - 0x4880
    if sb = 2 then s.feStateWord e else if sb = 3 then (s.feOutstanding e).length else s.rqView (rqFe e) sb k
  else s.obj k

/-- The bytes of a name. -/
def asciiBytes (t : String) : List Byte := t.toList.map fun c => BitVec.ofNat 8 c.toNat

/-- A DOMAIN or VISIBLE_STRING as a read gives it. -/
def State.viewBytes (s : State) (k : Nat) : List Byte :=
  let ix := k / 0x100
  let sb := k % 0x100
  if k = Obj.deviceName then asciiBytes (if s.part = .ft4216 then "FT-4216" else "FT-4016")
  else if k = Obj.hardwareVersion then Config.hardwareVersion
  else if k = Obj.softwareVersion then Config.softwareVersion s.nvs.fwRunning
  else if k = Obj.areaDirectory then s.areaDirectory
  else if ix = 0x2301 then s.areaContent (sb - 1)
  else if 0x3000 ≤ ix ∧ ix < 0x3400 ∧ ix % 0x100 = 0x30 then s.wheelBytes ((ix - 0x3000) / 0x100)
  else if 0x3000 ≤ ix ∧ ix < 0x3400 ∧ ix % 0x100 = 0x80 then
    let x := s.setOf ((ix - 0x3000) / 0x100) (sb - 1)
    if x.valid && s.bit (Obj.setValid ((ix - 0x3000) / 0x100)) (sb - 1) then x.bytes else zeros 2304
  else if k = Obj.retireTable then s.retireTable
  else if k = Obj.edgeBind then s.edgeBindBytes
  else if 0x4868 ≤ ix ∧ ix < 0x4870 ∧ sb = 5 then s.frameBytes (ix - 0x4868)
  else s.dom k

/-- An object holds bytes and not a number. -/
def Row.bytes (r : Row) : Bool := r.ty == .dom || r.ty == .str

/-- DOMAIN_LENGTH (R77, R98): the current length of the selected object in bytes. -/
def State.domainLengthWord (s : State) : Nat :=
  let t := s.obj Obj.domainSelect
  let k := t % 65536 * 0x100 + t / 65536
  match rowOf k with
  | some r => if r.bytes then (s.viewBytes k).length else r.ty.size
  | none => 0

/-- The computed objects at 0x1000 to 0x2FFF. -/
def State.engineView (s : State) (k : Nat) : Nat :=
  let fw := (Config.firmwareVersion s.nvs.fwRunning).toNat
  match k with
  | 0x100100 => s.errorRegister
  | 0x101001 | 0x101002 | 0x101003 | 0x101004 | 0x101101 | 0x101102 | 0x101103 | 0x101104 => 1
  | 0x101802 | 0x200001 => partCodeOf s.part
  | 0x101803 => Config.dieRevision.toNat * 65536 + fw / 65536
  | 0x101804 => Config.uniqueId.toNat % 2 ^ 32
  | 0x200002 => Config.dieRevision.toNat
  | 0x200003 => fw
  | 0x200004 => s.featuresWord
  | 0x200005 => s.runPhaseWord
  | 0x200007 => Config.uniqueId.toNat
  | 0x200102 => s.session.owner
  | 0x200103 => s.sessionLeft
  | 0x200105 => (s.session.batch.getD []).length
  | 0x200201 => s.dictStatusWord
  | 0x200206 => s.pendingBlocks
  | 0x200306 => s.domainLengthWord
  | 0x210002 => s.pwrStatusWord
  | 0x218001 => s.vcoreTargetWord
  | 0x218002 => s.vcoreNow / 10
  | 0x21800B => s.llOffsetWord
  | 0x21800C => s.vcoreStatusWord
  | 0x220001 => s.fltStatusWord
  | 0x220008 => s.ftwTransientWord
  | 0x230009 => s.nvsStatusWord
  | 0x230017 => s.freePages.length
  | 0x240001 => s.ts
  | 0x25000A => s.bcnWord
  | _ => s.obj k

/-- A numeric object as a read gives it. -/
def State.view (s : State) (k : Nat) : Nat :=
  let ix := k / 0x100
  let sb := k % 0x100
  if ix < 0x3000 then s.engineView k
  else if ix < 0x3400 then s.storeView ((ix - 0x3000) / 0x100) (ix % 0x100) sb k
  else if 0x3410 ≤ ix ∧ ix < 0x3420 ∧ sb = 4 then b2n (s.regionActive (ix - 0x3410))
  else if k = Obj.lockWaiters then s.lockWaitersNow
  else if k = Obj.mapStatus then withBit (s.obj k) 1 (channels4.any fun ch => (s.chan ch).failed)
  else if ix = 0x3802 ∨ ix = 0x3902 then (if sb = 3 then (s.pb ((ix - 0x3800) / 0x100)).queue.length else s.obj k)
  else if (ix = 0x3811 ∨ ix = 0x3911) ∧ sb = 3 then s.calStatusWord ((ix - 0x3800) / 0x100)
  else if 0x3A00 ≤ ix ∧ ix < 0x3A80 then
    (if sb = 0x10 ∧ 0x10 ≤ (ix - 0x3A00) % 0x40 then s.supplyStatusWord ((ix - 0x3A00) / 0x40) ((ix - 0x3A10) % 0x40) else s.obj k)
  else if 0x4000 ≤ ix ∧ ix < 0x5000 then s.clientView ix sb k
  else s.obj k

/-- The bytes of any object, least significant first (R7, R57). -/
def State.readBytes (s : State) (r : Row) (k : Nat) : List Byte := if r.bytes then s.viewBytes k else leBytes r.ty.size (s.view k)

end Sys2Proof.Machine
end

