-- ==== Sys2Proof/Machine/ObjectPort.lean ====
section
/-! DEFINITION. The dictionary write port: which objects a path reaches, the checks of a write in their order, what an accepted write does, the
batch, and the writes held while the management core checks (R55 to R98, R655, R669, R696). -/

namespace Sys2Proof.Machine

/-! What a path reaches (R23, R53, R74, R80, R626). -/

/-- The object a lookup finds, or the reason it finds none. -/
inductive Look
  | gone (reason : Nat)
  | found (r : Row)
  deriving DecidableEq, Repr

/-- Indices that do not exist on the FT-4016. -/
def State.fusedOff (s : State) (ix : Nat) : Bool :=
  s.part == .ft4016 && ((decide (0x3800 ≤ ix) && decide (ix < 0x3A80)) || ix == 0x2114 || ix == 0x2115 || ix == 0x2190 || ix == 0x2191)

/-- The index exists on a path. -/
def State.indexOn (s : State) (p : Path) (ix : Nat) : Bool :=
  indexExists ix && !s.fusedOff ix && (ix != 0x2003 || p == .pcie) && (p != .pcie || (decide (0x2000 ≤ ix) && decide (ix < 0x6000)))

/-- The object at an index and subindex as a path sees it. -/
def State.look (s : State) (p : Path) (ix sb : Nat) : Look :=
  if !s.indexOn p ix then .gone 1
  else
    let k := ix * 0x100 + sb
    if 0x100 ≤ sb ∨ (s.part = .ft4016 ∧ (k = Obj.pb0CkMult ∨ k = Obj.pb0CkMult + 1)) then .gone 2
    else match rowOf k with
      | none => .gone 2
      | some r => .found r

/-- The path can carry a request now: the dictionary is reachable, and the link or mailbox is up (R78, R91, R94, R577). -/
def State.pathUp (s : State) (p : Path) : Bool :=
  s.reachable && match p with
  | .fabric => false
  | .pcie => s.bit Obj.pcieLink 9 && s.pcie.dState == 0
  | .coe => s.coeUp && s.mgUp
  | .sideband => true

/-- The key of the object a write names. -/
def Wr.key (w : Wr) : Nat := w.index * 0x100 + w.sub

/-! Length and value (R57, R75, R76, R77). -/

/-- The fixed size of a DOMAIN (R57): WHEEL_MAP, RETIRE_TABLE, EDGE_BIND, FRAME_DATA and AREA_DIRECTORY show the state of their blocks, every
other keeps the length of its default. -/
def domainSize (k : Nat) : Nat :=
  let ix := k / 0x100
  if 0x3000 ≤ ix ∧ ix < 0x3400 ∧ ix % 0x100 = 0x30 then 2048
  else if ix = 0x3510 then 32768
  else if ix = 0x4840 then 64
  else if 0x4868 ≤ ix ∧ ix < 0x4870 then 131072
  else if ix = 0x2300 ∧ k % 0x100 = 0x18 then 1600
  else (domDefault k).length

/-- A DOMAIN or VISIBLE_STRING object takes n bytes: its fixed size, up to 96 KiB for IMAGE_STAGING, up to 255 for a string. -/
def domainLength (k n : Nat) : Bool :=
  if k = Obj.imageStaging then decide (n ≤ 98304) else if k < 0x200000 then decide (n ≤ 255) else n == domainSize k

/-- A write that is no BAR0 request carries the whole object. -/
def Wr.whole (w : Wr) : Bool := w.path != .pcie || w.form == .commit

/-- A 4-byte BAR0 write of a 64-bit object. -/
def Wr.merges (w : Wr) (r : Row) : Bool := !w.whole && r.ty.size == 8 && w.data.length == 4

/-- The size or alignment of a write does not match. -/
def Wr.lengthBad (w : Wr) (r : Row) : Bool :=
  let n := w.data.length
  if w.whole then (if r.bytes then !domainLength w.key n else n != r.ty.size)
  else !w.aligned || r.bytes || !(n == r.ty.size || n == 4)

/-- The number a write carries, before its type is applied. -/
def State.rawValue (s : State) (r : Row) (w : Wr) : Nat :=
  if w.merges r then leNat w.data + s.obj Obj.highWrite * 2 ^ 32 else leNat w.data

/-- The value a write gives the object. -/
def State.wrValue (s : State) (r : Row) (w : Wr) : Nat := if r.bytes then 0 else s.rawValue r w % 2 ^ (8 * r.ty.size)

/-- The bytes above the object's size are zero, or repeat the sign of an INTEGER16. -/
def Row.topOk (r : Row) (v : Nat) : Bool :=
  let top := v / 2 ^ (8 * r.ty.size)
  top == 0 || (r.ty == .i16 && top == 0xFFFF && bitOf v 15)

/-- The ranges that the object tables leave to their texts. -/
def State.rangeOk (s : State) (k v : Nat) (d : List Byte) : Bool :=
  let ix := k / 0x100
  let sb := k % 0x100
  rangeFixed k v d &&
    (if k = Obj.domainData then decide (s.obj Obj.domainOffset < 65536)
     else if 0x3000 ≤ ix ∧ ix < 0x3400 ∧ ix % 0x100 = 0xB0 ∧ sb = 0xC then s.addressOk v 64
     else if ix = 0x3510 ∧ (sb = 2 ∨ sb = 3) then s.addressOk v 4096
     else if 0x4868 ≤ ix ∧ ix < 0x4870 ∧ sb = 6 then decide (v + 131136 ≤ s.obj Obj.mapTop)
     else true)

/-- A written value lies in its type and range. -/
def State.valueOk (s : State) (r : Row) (w : Wr) : Bool :=
  let raw := s.rawValue r w
  let v := s.wrValue r w
  (r.bytes || r.topOk raw) && (r.ty != .bool || decide (v ≤ 1)) && (r.acc != .ctr || v == 0) && r.rng.ok (8 * r.ty.size) v &&
    s.rangeOk w.key v w.data

/-! Who may write (R69, R86, R91). -/

/-- A session-free object: latched status, aborts, curls, SESSION_CMD, message registers and doorbells, BAR0 support, DECODE_ADDRESS. -/
def freeKey (k : Nat) : Bool :=
  let ix := k / 0x100
  let sb := k % 0x100
  k == Obj.sessionCmd || k == Obj.hhRequest || k == Obj.decodeAddress || ix == 0x2003 ||
    ((ix == 0x3800 || ix == 0x3900) && sb == 3) ||
    (decide (0x4000 ≤ ix) && decide (ix < 0x4100) && sb == 5) || (decide (0x4100 ≤ ix) && decide (ix < 0x4104) && sb == 1) ||
    (decide (0x4210 ≤ ix) && decide (ix < 0x4220) && sb == 4) || (ix == 0x4800 && decide (sb ≤ 2)) ||
    (decide (0x4400 ≤ ix) && decide (ix < 0x4420) && decide (1 ≤ sb) && decide (sb ≤ 0x12))

/-- A write that needs no session: R69 names counters; trackers of the highest or longest, which R695 clears as counters are, count with them (DEDUCED,
log entry 171). -/
def sessionFree (r : Row) (k : Nat) : Bool := r.acc == .ctr || r.acc == .w1c || freeKey k

/-- A rule that speaks of several objects must be checked for a write of the object (R86). -/
def crossKey (k : Nat) : Bool :=
  let ix := k / 0x100
  let sb := k % 0x100
  wheelKey k || regionKey k || (decide (0x1A00 ≤ ix) && decide (ix < 0x1A04)) || ix == 0x1C13 ||
    ((rqOfKey k).isSome && sb == 0x12) || (decide (0x4000 ≤ ix) && decide (ix < 0x4100) && sb == 3) ||
    channels4.any (fun ch => k == Obj.wqLow ch || k == Obj.wqHigh ch || k == Obj.refMultMax ch || k == Obj.nrKFloor ch) ||
    [0, 1].any fun n => windowKey n k || broadcastKey n k

/-- The objects whose write is a command of its own: their checks are part of it. -/
def ownRow (k : Nat) : Bool :=
  let ix := k / 0x100
  let sb := k % 0x100
  (decide (0x4000 ≤ ix) && decide (ix < 0x4100) && sb == 1) || (decide (0x4100 ≤ ix) && decide (ix < 0x4104) && sb == 2)

/-- The checks that come before the live classes, in the order of R696 and R84. -/
def State.portRefuses (s : State) (w : Wr) : Option Nat :=
  match s.look w.path w.index w.sub with
  | .gone e => some e
  | .found r =>
    if w.lengthBad r then some 5
    else if r.acc == .ro then some 3
    else if s.obj Obj.runPhase = 1 ∨ s.rst.warmLow then some 9
    else if s.pwr.mode == 2 && w.key != Obj.sessionCmd then some 9
    else if w.poisoned then some 0xD
    else if !s.valueOk r w then some 6
    else if !sessionFree r w.key && !s.owns w.path then some 7
    else if crossKey w.key && !s.mgUp then some 9
    else none

/-! The blocks' own checks. `t` is the configuration that results. -/

/-- An entry has passed A0, and the dictionary is still reachable (R577). -/
def State.pastA0 (s : State) : Bool := s.entryPast 0

/-- A write that would make a condition of R576 hold. -/
def State.entryForbids (s : State) (k v : Nat) : Bool :=
  let ix := k / 0x100
  let sb := k % 0x100
  if ix < 0x3000 then
    ix == 0x1010 || ix == 0x1011 || (ix == 0x2300 && (decide (sb ≤ 8) || sb == 0x15 || sb == 0x16)) || k == Obj.hhRequest ||
      (k == Obj.shmooOffset && v != 0) || (k == Obj.padRelease && s.padsLatched) ||
      (k == Obj.fltResume && (s.hedgehog || s.bit Obj.fltStatus 2))
  else if ix < 0x3400 then ix % 0x100 == 0x70 && sb == 2
  else if ix = 0x3800 ∨ ix = 0x3900 then sb == 1 && v == 1
  else if ix = 0x3A00 ∨ ix = 0x3A40 then sb == 1 && v == 1
  else if 0x4210 ≤ ix ∧ ix < 0x4220 then sb == 1 && v == 1
  else if 0x4400 ≤ ix ∧ ix < 0x4420 then
    let m := ix - 0x4400
    sb == 0x11 || (decide (sb ≤ 0x10) && s.mcStamped m && s.mcIs m mcEmpty)
  else if ix = 0x4810 ∨ ix = 0x4811 then sb == 1 && v == 1
  else if ix = 0x4850 ∨ ix = 0x4860 then sb == 1
  else if 0x4868 ≤ ix ∧ ix < 0x4870 then sb == 7 && decide (v ≤ 2)
  else false

/-- A refusal when a condition holds. -/
def onlyIf (b : Bool) (e : Nat) : Option Nat := if b then some e else none

/-- The first refusal of two. -/
def firstOf (a b : Option Nat) : Option Nat := match a with | some e => some e | none => b

/-- What would restart a parked or stopped block is refused in Hedgehog and on the bank (R556, R642). -/
def State.stopped (s : State) : Bool := s.hedgehog || !s.vinOn

/-- CLAIM and batch, clocks, power, regulators, faults, settings store (R35, R37, R68, R73, R525 to R530, R557, R571, R581, R603, R609, R610,
R619). -/
def State.engineCheck (s t : State) (p : Path) (k v : Nat) : Option Nat :=
  let ix := k / 0x100
  let sb := k % 0x100
  if k = Obj.sessionCmd then s.sessionRefused p v
  else if k = Obj.batchCmd then onlyIf ((v == 1 && s.session.batch.isSome) || (v == 2 && s.session.batch.isNone)) 9
  else if k = Obj.domainSelect then (match s.look .pcie (v % 65536) (v / 65536) with | .gone e => some e | .found _ => none)
  else if k = Obj.opRequest then (s.opFirstFail v true).map fun x => x.2
  else if k = Obj.shmooOffset then t.shmooRefused (toInt 16 v)
  else if k = Obj.pb0CkMult ∨ k = Obj.pb0CkMult + 1 then onlyIf (!t.multFits (k - Obj.pb0CkMult)) 0xB
  else if k = Obj.pwrRequest then firstOf (onlyIf (!s.vinOn && v != 0) 9) (s.pwrRefused v)
  else if k = Obj.padRelease then s.padRefused
  else if 0x218004 ≤ k ∧ k ≤ 0x218007 then onlyIf (t.trimLow (k - 0x218004)) 0xB
  else if k = Obj.phaseRestore then s.restoreRefused
  else if ix = 0x2190 ∨ ix = 0x2191 then (if sb = 3 then s.dutRestoreRefused (ix - 0x2190) else none)
  else if k = Obj.holdupTest then s.testRefused
  else if k = Obj.fltResume then s.resumeRefused
  else if ix = 0x1010 ∨ (ix = 0x2300 ∧ sb ≤ 4) then s.nvsRefused true
  else if ix = 0x1011 ∨ (ix = 0x2300 ∧ sb ≤ 8) then s.nvsRefused false
  else if k = Obj.areaWrite then firstOf (s.nvsRefused false) (onlyIf (!s.areaFits (s.dom Obj.imageStaging).length) 0xB)
  else if k = Obj.areaErase then s.nvsRefused false
  else none

/-- TRAIN_CMD (R282, R286, R556, R581, R642): a channel that is not accepted has nothing to train. -/
def State.trainRefused (s : State) (ch : Nat) : Option Nat :=
  if (s.chan ch).train.isSome || (s.chan ch).resuming then some 0xA
  else onlyIf (s.obj Obj.shmooActual != 0 || s.stopped || s.padsLatched || !(s.chan ch).accepted || s.clk.run.isSome) 9

/-- The store's own checks. -/
def State.storeCheck (s t : State) (k v : Nat) : Option Nat :=
  let ix := k / 0x100
  let sb := k % 0x100
  let ch := (ix - 0x3000) / 0x100
  if ix < 0x3400 then
    match ix % 0x100, sb with
    | 0x70, 2 => s.trainRefused ch
    | 0x90, 1 => onlyIf (v == 0 && (s.obj Obj.shmooActual != 0 || t.obj Obj.shmooOffset != 0)) 0xB
    | _, _ => none
  else if k = Obj.interleaveMask then onlyIf (t.mapped && t.maskRefused v) 0xB
  else if k = Obj.retireAdd then onlyIf (!s.fence.contains (v / 4096) && decide (4096 ≤ s.fence.length)) 0xB
  else none

/-- PB_ENABLE 1 (R37, R332, R556, R577, R581, R642). -/
def State.enableRefused (s t : State) (n : Nat) : Option Nat :=
  if s.pbOn n then none
  else if !s.powerIs n psGood || s.stopped || s.padsLatched then some 9
  else onlyIf (!t.multFits n) 0xB

/-- The probe channels' and supplies' own checks (R332, R344, R346, R347, R370, R374, R379, R382). -/
def State.probeCheck (s t : State) (k v : Nat) : Option Nat :=
  let ix := k / 0x100
  let sb := k % 0x100
  if ix < 0x3A00 then
    let n := (ix - 0x3800) / 0x100
    if ix % 0x100 = 0 ∧ sb = 1 then (if v = 1 then s.enableRefused t n else none)
    else if ix % 0x100 = 4 ∧ sb = 4 then onlyIf (!s.pbIs n pbIdle) 9
    else if ix % 0x100 = 0x11 ∧ sb = 1 then (if (s.pb n).cal.isSome then some 0xA else onlyIf (!s.pbIs n pbIdle) 9)
    else if offsetKey n k && !t.offsetsFit false n then some 6
    else if windowKey n k && !t.windowFits n then some 0xB
    else if broadcastKey n k && !t.broadcastOk n then some 0xB
    else none
  else
    let n := (ix - 0x3A00) / 0x40
    if (ix = 0x3A00 ∨ ix = 0x3A40) ∧ sb = 1 then
      if v = 1 then onlyIf (!s.powerIs n psOff || s.obj (Obj.supplyFaultCause n) != 0 || s.stopped || s.entryPast 0) 9
      else onlyIf (s.pbOn n || s.powerIs n psDown || s.powerIs n psDischarge) 9
    else none

/-- The credits of a port's enabled clients sum to 64 at most (R127, R136). -/
def State.creditsOk (t : State) (c : Nat) : Bool :=
  decide (((clientsOf (c / 16)).map fun x => if t.obj (Obj.clientEnable x) = 1 then t.obj (Obj.clientCredits x) else 0).sum ≤ 64)

/-- The checks of clients, ports, messages and the fabric (R43, R104, R130, R136, R434, R435, R440, R443, R457 to R463, R479). -/
def State.clientCheck (s t : State) (p : Path) (k v : Nat) : Option Nat :=
  let ix := k / 0x100
  let sb := k % 0x100
  if ix < 0x4100 then onlyIf ((sb == 1 || sb == 3) && !t.creditsOk (ix - 0x4000)) 0xB
  else if 0x4210 ≤ ix ∧ ix < 0x4220 then
    if sb = 1 then onlyIf (v == 1 && s.obj Obj.shmooActual != 0) 0xB
    else if sb = 5 then onlyIf (s.obj (Obj.portEnable (ix - 0x4210)) == 0) 9
    else none
  else if 0x4400 ≤ ix ∧ ix < 0x4420 then
    let m := ix - 0x4400
    if 1 ≤ sb ∧ sb ≤ 0x10 then s.msgRegRefused m (sb - 1) (partyOf p)
    else if sb = 0x11 then s.msgGoRefused m (partyOf p)
    else if sb = 0x12 then s.msgReleaseRefused m (partyOf p)
    else if sb = 0x13 then onlyIf (v == 1 && t.obj (Obj.msgReceiver m) == 0) 0xB
    else none
  else if ix = 0x4810 ∨ ix = 0x4811 then
    if sb = 1 then firstOf (onlyIf (v == 1 && s.stopped) 9) (s.ctxRefused (ix - 0x4810) v) else none
  else if ix = 0x4812 then (if sb = 1 then s.swapRefused else none)
  else if ix = 0x4850 ∧ sb = 1 then s.imageRefused (v - 1)
  else if ix = 0x4860 ∧ sb = 1 then firstOf (onlyIf (s.hedgehog && s.bit Obj.scanFlags 1) 9) (s.scanRefused v)
  else if 0x4868 ≤ ix ∧ ix < 0x4870 ∧ sb = 7 then s.moveRefused (ix - 0x4868) v
  else none

/-- The own checks of the block an object belongs to. -/
def State.blockCheck (s t : State) (p : Path) (k v : Nat) : Option Nat :=
  let ix := k / 0x100
  if ix < 0x3000 then s.engineCheck t p k v
  else if ix < 0x3800 then s.storeCheck t k v
  else if ix < 0x4000 then s.probeCheck t k v
  else s.clientCheck t p k v

/-- The AL states in which RWP objects take writes (R59). -/
def State.alQuiet (s : State) : Bool := s.obj Obj.ectAlState == 1 || s.obj Obj.ectAlState == 2

/-- The checks at acceptance: BUSY, RWP, quiescence, an entry in progress, the block's own rules and those of several objects (R59, R60, R64,
R577, R655). -/
def State.lateCheck (s t : State) (p : Path) (r : Row) (k v : Nat) : Option Nat :=
  if s.aborts.any fun a => a.target.cmd == k then some 0xA
  else if r.acc == .cmd && r.live == .imm && s.obj k == 1 && !freeKey k && !(0x440011 ≤ k && decide (k < 0x442000) && k % 0x100 == 0x11) then some 0xA
  else if r.acc == .rwp && !s.alQuiet && !s.quiescent k then some 8
  else if r.live == .quiet && !s.quiescent k then some 8
  else if s.pastA0 && s.entryForbids k v then some 9
  else firstOf (s.blockCheck t p k v) (t.pairRefused k)

/-! Refusals (R47, R79, R85, R479, R529, R571). -/

/-- The refusals that the clocks count. -/
def State.clockRefused (s : State) (k v reason : Nat) : State :=
  if k = Obj.opRequest then
    (match s.opFirstFail v true with | some x => s.opRefusal x.1 | none => s)
  else if (k = Obj.shmooOffset ∧ (reason = 9 ∨ reason = 0xB)) ∨ ((k = Obj.pb0CkMult ∨ k = Obj.pb0CkMult + 1) ∧ (reason = 8 ∨ reason = 0xB)) ∨
      (0x4210 ≤ k / 0x100 ∧ k / 0x100 < 0x4220 ∧ k % 0x100 = 1 ∧ reason = 0xB) then s.bump Obj.clockRefusals
  else s

/-- What else counts a refusal that the live classes or the block made. -/
def State.blockRefused (s : State) (k v reason : Nat) : State :=
  let ix := k / 0x100
  let sb := k % 0x100
  let s := s.clockRefused k v reason
  if k = Obj.pwrRequest ∧ (s.pwrRefused v).isSome then s.dozeCounted
  else if reason = 9 ∧ (ix = 0x1010 ∨ (ix = 0x2300 ∧ sb ≤ 4)) then s.countNvsRefusal true
  else if reason = 9 ∧ (ix = 0x1011 ∨ (ix = 0x2300 ∧ (sb ≤ 8 ∨ sb = 0x15 ∨ sb = 0x16))) then s.countNvsRefusal false
  else s

/-- The SDO abort code of a reason (R84). -/
def sdoAbort (reason : Nat) : Nat :=
  match reason with
  | 1 => 0x06020000 | 2 => 0x06090011 | 3 => 0x06010002 | 4 => 0x06010001 | 5 => 0x06070010 | 6 => 0x06090030 | 7 => 0x08000021
  | 8 => 0x08000022 | 9 => 0x08000022 | 10 => 0x08000020 | 11 => 0x06040043 | 12 => 0x05040005 | _ => 0

/-- A path is answered on a write: reason 0 when it is accepted (R79, R80, R84, R502). -/
def State.answerTo (s : State) (p : Path) (reason : Nat) : State :=
  let s := match p with
    | .pcie => s.setObj Obj.pcieLastResult reason
    | .sideband => { s with sb := { s.sb with result := reason } }
    | _ => s
  { s with answer := { path := p, reason := reason, data := if p = .coe ∧ reason ≠ 0 then leBytes 4 (sdoAbort reason) else [] } }

/-- A write is refused, before (`late` false) or at the checks of acceptance. -/
def State.rejectWrite (s : State) (r : Wr) (v reason : Nat) (late : Bool) : State :=
  let k := r.key
  let s := if late then s.blockRefused k v reason else s
  let s := s.refuse r.path r.index r.sub reason
  let s := if 0x4400 ≤ r.index ∧ r.index < 0x4420 ∧ reason ≠ 2 then s.bump (Obj.msgRefused (r.index - 0x4400)) else s
  (if r.poisoned ∧ r.path = .pcie then s.poisonedTlp else s).answerTo r.path reason

/-! Acceptance (R58 to R62). -/

/-- What must be settled before a value changes: the level of a bucket whose rate or depth is written (R156), and the windows of a quota that
acts at once (R146). -/
def State.beforeWrite (s : State) (k : Nat) : State :=
  match rqOfKey k with
  | some rq =>
    if k % 0x100 = 0x14 ∨ k % 0x100 = 0x15 then s.setBucket rq (s.bucketLevel rq)
    else if (k % 0x100 = 0x11 ∨ k % 0x100 = 0x12) ∧ s.quiescent k then s.quotaFrom rq s.nextWrap
    else s
  | none => s

/-- The value of a write that is accepted, in the shadow while its block is not quiescent. -/
def State.takeValue (s : State) (r : Row) (k v : Nat) (d : List Byte) : State :=
  let old := s.act k
  let oldB := if r.bytes then s.actDom k else []
  let s := s.dropShadows fun h => h.key == k
  let s' := if r.bytes then s.putDom k d else s.setObj k v
  match r.live with
  | .at b =>
    if s.quiescent k || (old == v && (!r.bytes || oldB == d)) then s'
    else { s' with shadows := s'.shadows ++ [{ key := k, acting := old, actingBytes := oldB, bound := b }] }
  | _ => s'

/-- The configuration that a write would give. -/
def State.tentative (s : State) (r : Row) (k v : Nat) (d : List Byte) : State :=
  if r.acc == .rw || r.acc == .rwp || r.acc == .wo then (if r.bytes then s.putDom k d else s.setObj k v) else s

/-- A client's own objects end its being shed (R697). -/
def State.unshedShown (s : State) (c : Nat) : State :=
  (s.unshed c).each channels4 fun ch t => t.setBit (Obj.schedStatus ch) 4 (!(t.chan ch).shed.isEmpty)

/-- Clocks, power, regulators, faults, settings store: what an accepted write does (R35, R40, R68, R525, R530, R555, R557, R559, R603, R609,
R610, R629). -/
def State.engineWrite (s : State) (p : Path) (k v : Nat) (d : List Byte) : State :=
  let ix := k / 0x100
  let sb := k % 0x100
  if k = Obj.sessionCmd then s.sessionCommand p v
  else if k = Obj.batchCmd then ({ s with session := { s.session with batch := if v = 1 then some [] else none } }).cmdDone k
  else if k = Obj.domainSelect then s.setObj Obj.domainOffset 0
  else if k = Obj.domainData then
    let o := s.obj Obj.domainOffset
    ({ s with staging := putBytes s.staging o d }).setObj Obj.domainOffset (o + 4)
  else if k = Obj.opRequest then s.opRequested v
  else if k = Obj.shmooOffset then s.shmooWritten
  else if k = Obj.pwrRequest then s.pwrRequested v
  else if k = Obj.padRelease then s.padReleases
  else if k = Obj.resetCmd then (if v = 1 then s.warmDetected 5 else s.coldDetected 3)
  else if k = Obj.coldErase then s.modRst fun r => { r with coldErase := v == 1 }
  else if 0x218004 ≤ k ∧ k ≤ 0x218007 then (if k - 0x218004 = s.obj Obj.opCurrent then s.applySetpoint else s)
  else if k = Obj.phaseRestore then s.restoreStart 0
  else if ix = 0x2190 ∨ ix = 0x2191 then (if sb = 3 then s.restoreStart (1 + (ix - 0x2190)) else s)
  else if k = Obj.holdupTest then s.testStart.setObj k 1
  else if k = Obj.holdupLowMj then s.line40
  else if k = Obj.holdupTestPeriod then
    let now := s.now
    { s with regs := { s.regs with testDue := if v = 0 then none else some (now + v * 3600000 * msTicks) } }
  else if k = Obj.hhRequest then s.hhRequested
  else if k = Obj.fltResume then s.fltResumed
  else if ix = 0x1010 then s.nvsBegin false sb
  else if ix = 0x1011 then s.nvsBegin true sb
  else if ix = 0x2300 ∧ sb ≤ 4 then s.nvsBegin false sb
  else if ix = 0x2300 ∧ sb ≤ 8 then s.nvsBegin true (sb - 4)
  else if k = Obj.areaWrite then s.areaBegin k v (s.dom Obj.imageStaging)
  else if k = Obj.areaErase then (s.areaErase v).cmdDone k
  else if k = Obj.tsMode then s.tsModeWritten
  else if k = Obj.pcieRetrain then (if s.bit Obj.pcieLink 9 then s.setObj k 1 else (s.bump Obj.pcieRetrains).cmdDone k)
  else s

/-- TRAIN_CMD: the channel is withdrawn and trains at the operating point in force (R282). -/
def State.trainCommand (s : State) (ch v : Nat) : State :=
  let s := if s.released ch then s.withdrawChan ch else s
  (s.planTraining ch [s.obj Obj.opCurrent] (v == 2) true).setObj (Obj.trainCmd ch) 1

/-- The store: what an accepted write does (R189, R197, R282, R312, R314, R319). -/
def State.storeWrite (s : State) (k v : Nat) : State :=
  let ix := k / 0x100
  let sb := k % 0x100
  let ch := (ix - 0x3000) / 0x100
  if ix < 0x3400 then
    match ix % 0x100, sb with
    | 0x70, 2 => s.trainCommand ch v
    | 0xB0, 5 =>
      (s.setObj (Obj.flipStatus ch) v).cmdDone k
    | 0xB0, 0xC => (s.setObj k 1).startPeek ch v
    | 0x60, 3 => (s.setObj (Obj.nrKEff ch) (min (s.obj (Obj.nrKEff ch)) v)).when ((s.chan ch).accepted && s.quiescent k) fun t =>
        t.placeFresh ch (t.obj Obj.opCurrent)
    | _, _ => if (sizingKey k).isSome && (s.chan ch).accepted && s.quiescent k then s.placeFresh ch (s.obj Obj.opCurrent) else s
  else if k = Obj.interleaveMask ∨ k = Obj.interleaveGrain ∨ k = Obj.bankHash then (if s.mapped then s.computeMap else s)
  else if k = Obj.decodeAddress then s.setObj Obj.decodeResult (s.decodeResult v)
  else if k = Obj.lockReleaseAll then (s.orphanLocks (fun _ => true) 4).cmdDone k
  else if k = Obj.retireAdd then (s.retirePage v).cmdDone k
  else if k = Obj.retireRemove then (s.unretirePage v).cmdDone k
  else if k = Obj.retireClear then (s.setFence []).cmdDone k
  else s

/-- The probe channels and their supplies: what an accepted write does (R332, R344, R346 to R348, R351, R366, R373, R387, R389). -/
def State.probeWrite (s : State) (k v : Nat) : State :=
  let ix := k / 0x100
  let sb := k % 0x100
  if ix < 0x3A00 then
    let n := (ix - 0x3800) / 0x100
    match ix % 0x100, sb with
    | 0x00, 1 => s.pbEnableEffect n
    | 0x00, 3 => s.pbCurlCmd n v
    | 0x04, 4 => s.mrStart n v
    | 0x11, 1 => s.calStart n (v == 1) true
    | 0x12, 7 => s.failClear n
    | _, _ => if 0x18 ≤ ix % 0x100 ∧ ix % 0x100 < 0x20 ∧ sb = 5 then s.armFirstFail n (ix % 0x100 - 0x18) else s
  else
    let n := (ix - 0x3A00) / 0x40
    let j := (ix - 0x3A00) % 0x40
    if j = 0 then (if sb = 1 then (if v = 1 then s.dutUp n else s.dutDown n) else s)
    else
      let i := j - 0x10
      match sb with
      | 1 => s.newSetpoint n i
      | 2 => if s.powerIs n psGood then s.newSetpoint n i else s
      | 0xE => (s.modSupply n i fun y => { y with trackArm := true }).cmdDone k
      | _ => s

/-- A requester is enabled: its bucket stands at its ceiling (R161). A stream client gets its credits (R109). -/
def State.clientOn (s : State) (c : Nat) : State :=
  let s := s.fillBucket c
  if s.linkActive (c / 16) && !s.clientAborting c then s.grantAll c else s

/-- PORT_ENABLE 1: training starts, after an abort that disables the port has ended (R104, R130). -/
def State.enablePort (s : State) (p : Nat) : State :=
  if s.aborts.any fun a => a.target == AbortTarget.port p && a.off then s else s.startTraining p

/-- PORT_ENABLE 0 (R130): a port abort of an ACTIVE link, which ends with the link DOWN; a link that is not ACTIVE stops at once. -/
def State.portOff (s : State) (p : Nat) : State := if s.linkActive p then s.startAbort (.port p) 1 true else s.disablePort p

/-- RETRAIN: an ACTIVE link stops, and training starts; the command runs until it ends (R60, R104). -/
def State.retrainPort (s : State) (p : Nat) : State :=
  ((if s.linkActive p then s.dropLink p else s).startTraining p).setObj (Obj.retrain p) 1

/-- Clients, host queues, ports, message channels and the fabric: what an accepted write does. `old` is the value before. -/
def State.clientWrite (s : State) (p : Path) (k v old : Nat) : State :=
  let ix := k / 0x100
  let sb := k % 0x100
  if ix < 0x4100 then
    let c := ix - 0x4000
    let s := if sb = 1 ∨ sb = 0x10 ∨ sb = 0x18 then s.unshedShown c else s
    if sb = 1 then (if old = v then s else if v = 1 then s.clientOn c else s.startAbort (.client c) 1 true)
    else if sb = 5 then s.abortCommand (.client c)
    else s
  else if ix < 0x4104 then
    let q := ix - 0x4100
    if sb = 1 then s.abortCommand (.host q)
    else if sb = 2 then (if old = v then s else if v = 1 then s.fillBucket (0x100 + q) else s.startAbort (.host q) 1 false)
    else s
  else if 0x4210 ≤ ix ∧ ix < 0x4220 then
    let q := ix - 0x4210
    if sb = 1 then (if old = v then s else if v = 1 then s.enablePort q else s.portOff q)
    else if sb = 4 then s.abortCommand (.port q)
    else if sb = 5 then s.retrainPort q
    else s
  else if 0x4400 ≤ ix ∧ ix < 0x4420 then
    let m := ix - 0x4400
    if 1 ≤ sb ∧ sb ≤ 0x10 then s.msgFill m (sb - 1) (partyOf p)
    else if sb = 0x11 then s.msgGoes m (partyOf p)
    else if sb = 0x12 then (s.msgConsume m).cmdDone k
    else if sb = 0x13 then s.msgEnableEffect m
    else s
  else if ix = 0x4800 then (if sb = 1 ∨ sb = 2 then s.abortCommand (.ctx (sb - 1)) else s)
  else if ix = 0x4810 ∨ ix = 0x4811 then (if sb = 1 then s.ctxCommand (ix - 0x4810) v else s)
  else if ix = 0x4812 then (if sb = 1 then s.swapCtxs else s)
  else if ix = 0x4850 then (if sb = 1 then s.imageStart (v - 1) (s.areaContent (s.obj Obj.imageAreaEntry)) else s)
  else if ix = 0x4860 then
    if sb = 1 then s.scanStart v else if sb = 8 then s.setBit Obj.scanStatus 2 false else s
  else if 0x4868 ≤ ix ∧ ix < 0x4870 then (if sb = 7 then s.moveStart (ix - 0x4868) v else s)
  else if 0x4880 ≤ ix ∧ ix < 0x4890 then (if sb = 1 ∧ old = 0 ∧ v = 1 then s.fillBucket (0x110 + (ix - 0x4880)) else s)
  else s

/-- What an accepted write does to its block. -/
def State.blockWrite (s : State) (p : Path) (k v old : Nat) (d : List Byte) : State :=
  let ix := k / 0x100
  if ix < 0x3000 then s.engineWrite p k v d
  else if ix < 0x3800 then s.storeWrite k v
  else if ix < 0x4000 then s.probeWrite k v
  else s.clientWrite p k v old

/-- The bits of a status object that writing 1 clears: all, but for the read-only bits of MSG_FLAGS (R479). -/
def clearable (k : Nat) : Nat := if 0x4400 ≤ k / 0x100 ∧ k / 0x100 < 0x4420 then 0x13 else 2 ^ 64 - 1

/-- The bits of an object that always read 1: those of REACTION_FIXED in REACTION (R553). -/
def alwaysSet (k : Nat) : Nat :=
  let ix := k / 0x100
  if 0x2210 ≤ ix ∧ ix ≤ 0x2243 ∧ k % 0x100 = 1 then reactionFixedBits (ix - 0x2210) else 0

/-- The object itself takes an accepted write. -/
def State.objectTakes (s : State) (r : Row) (k v : Nat) (d : List Byte) : State :=
  match r.acc with
  | .cmd => s
  | .ctr =>
    let s := s.setObj k 0
    if k = Obj.refusalCount then s.setBit Obj.dictStatus 0 false
    else if k = Obj.quiescentRefusals then s.setBit Obj.dictStatus 1 false
    else if k = Obj.underruns 0 ∨ k = Obj.underruns 1 then s.setBit (Obj.seqStatus ((k - Obj.underruns 0) / 0x10000)) 2 false
    else if k = Obj.malformed 0 ∨ k = Obj.malformed 1 then s.setBit (Obj.seqStatus ((k - Obj.malformed 0) / 0x10000)) 3 false
    else s
  | .w1c => if k = Obj.ftw then s.ftwCleared v else s.setObj k (clearBits (s.obj k) (v &&& clearable k))
  | _ => s.takeValue r k (v ||| alwaysSet k) d

/-- A write is accepted. -/
def State.acceptWrite (s : State) (w : Wr) (r : Row) (v : Nat) : State :=
  let k := w.key
  let s := if k = Obj.pwrRequest ∧ v = 1 then s else s.writeWakes
  let s := if w.merges r then s.setObj Obj.highWrite 0 else s
  let s := if s.owns w.path then s.renewLease else s
  let s := s.beforeWrite k
  let old := s.obj k
  let s := (s.objectTakes r k v w.data).blockWrite w.path k v old w.data
  let s := if w.form = .commit then s.cmdDone Obj.domainCommit else s
  s.answerTo w.path 0

/-! Reads (R75 to R79, R84, R85, R91). -/

/-- An earlier BAR0 write of the host is not decided yet: a BAR0 read waits behind it (R78). -/
def State.pcieWaits (s : State) : Bool :=
  s.port.held.any (fun w => w.path == .pcie) || s.port.queue.any fun g => g.any fun w => w.path == .pcie

/-- A path can read now. -/
def State.canRead (s : State) (p : Path) : Bool := s.pathUp p && (p != .pcie || !s.pcieWaits)

/-- The size of a read is one that the path takes (R75, R496, R502). -/
def Row.sizeOk (r : Row) (p : Path) (n : Nat) (aligned : Bool) : Bool :=
  match p with
  | .pcie => aligned && (n == 4 || (n == 8 && r.ty.size == 8 && !r.bytes))
  | .sideband => decide (1 ≤ n) && decide (n ≤ 32) && (r.bytes || (aligned && n == r.ty.size))
  | _ => true

/-- Why a read is refused, if it is (R84, R85). -/
def State.readRefused (s : State) (p : Path) (ix sb n : Nat) (aligned : Bool) : Option Nat :=
  match s.look p ix sb with
  | .gone e => some e
  | .found r => if !r.sizeOk p n aligned then some 5 else if r.acc == .wo then some 4 else none

/-- A refused read is counted and recorded; over PCIe it completes with all ones (R79). -/
def State.rejectRead (s : State) (p : Path) (ix sb n reason : Nat) : State :=
  let s := s.refuse p ix sb reason
  { s with answer := { path := p, reason := reason, data := match p with
    | .pcie => List.replicate n 0xFF
    | .coe => leBytes 4 (sdoAbort reason)
    | _ => [] } }

/-- A read of message registers that takes in the last one consumes the message for its receiver (R462). -/
def State.registersRead (s : State) (p : Path) (ix : Nat) (subs : List Nat) : State :=
  if 0x4400 ≤ ix ∧ ix < 0x4420 ∧ subs.contains (s.mcWidth (ix - 0x4400)) then s.msgReadBy (ix - 0x4400) (partyOf p) else s

/-- What a slot of BAR0 reads (R57, R77): a value extended to 32 bits, with its sign for an INTEGER16, or the length of bytes. -/
def State.slotWord (s : State) (r : Row) (k : Nat) : Nat :=
  if r.bytes then (s.viewBytes k).length else if r.ty = .i16 then ofInt 32 (toInt 16 (s.view k)) else s.view k

/-- The low half of a 64-bit object is read, the high half goes to HIGH_READ (R76). -/
def State.highCopy (s : State) (k : Nat) : State :=
  let v := s.view k
  { s.setObj Obj.highRead (v / 2 ^ 32) with answer := { path := .pcie, data := leBytes 4 v } }

/-- DOMAIN_DATA is read: four bytes of the selected object, 0 past its end; the offset advances (R77). -/
def State.domainMoves (s : State) : State :=
  let t := s.obj Obj.domainSelect
  let o := s.obj Obj.domainOffset
  let d := match s.look .pcie (t % 65536) (t / 65536) with
    | .found r => s.readBytes r (t % 65536 * 0x100 + t / 65536)
    | .gone _ => []
  { s.setObj Obj.domainOffset ((o + 4) % 2 ^ 32) with answer := { path := .pcie, data := ((d.drop o).take 4 ++ zeros 4).take 4 } }

/-- A read that is not refused, of n bytes: over PCIe in the form of the slot, elsewhere the object's bytes. String and domain access on the sideband
stops while the management core is down (R91). -/
def State.giveRead (s : State) (p : Path) (r : Row) (ix sb n : Nat) : State :=
  let k := ix * 0x100 + sb
  if p = .pcie then
    if k = Obj.domainData then s.domainMoves
    else if r.ty.size = 8 ∧ !r.bytes then
      if n = 4 then s.highCopy k else { s with answer := { path := .pcie, data := leBytes 8 (s.view k) } }
    else
      let d := leBytes 4 (s.slotWord r k)
      { s.registersRead p ix [sb] with answer := { path := .pcie, data := d } }
  else if p = .sideband && r.bytes && !s.mgUp then s
  else
    let d := s.readBytes r k
    { s.registersRead p ix [sb] with answer := { path := p, data := if p = .sideband then d.take n else d } }

/-- A read that has reached the dictionary: answered, or refused (R78, R85). -/
def State.readNow (s : State) (p : Path) (ix sb n : Nat) (aligned : Bool) : State :=
  match s.readRefused p ix sb n aligned, s.look p ix sb with
  | some e, _ => s.rejectRead p ix sb n e
  | none, .found r => s.giveRead p r ix sb n
  | none, .gone _ => s

/-- A BAR0 read waits behind the host's own writes (R78): behind the last group of the port that holds one. -/
def State.waitRead (s : State) (ix sb n : Nat) (aligned : Bool) : State :=
  let l := ((s.port.held :: s.port.queue).zipIdx).filter fun (g, _) => g.any fun w => w.path == .pcie
  let x : PortRead := { index := ix, sub := sb, size := n, aligned := aligned, behind := ((l.getLast?.map Prod.snd).getD 0) + 1 }
  { s with port := { s.port with reads := s.port.reads ++ [x] } }

/-! BAR4 and the message registers (R462, R473). -/

/-- A word of a channel's page: its registers, MSG_GO, the status word and MSG_SENDER; the rest of the page reads 0. -/
def State.pageWord (s : State) (m w : Nat) : Nat :=
  if w < 16 then s.view (Obj.msgReg m w)
  else match w with
    | 16 => s.obj (Obj.msgGo m)
    | 18 => s.obj (Obj.msgState m) + s.obj (Obj.msgSeq m) * 2 ^ 8 + s.obj (Obj.msgFlags m) * 2 ^ 16 + s.obj (Obj.msgGo m) * 2 ^ 24
    | 19 => s.obj (Obj.msgSender m)
    | _ => 0

/-- The bytes of a channel's page. -/
def State.pageBytes (s : State) (m : Nat) : List Byte := (List.range 64).flatMap fun w => leBytes 4 (s.pageWord m w)

/-- The subindexes of the registers that n bytes from byte `b` of a page touch. -/
def pageSubs (b n : Nat) : List Nat := ((List.range 16).filter fun i => decide (b < 4 * i + 4) && decide (4 * i < b + n)).map (· + 1)

/-- A BAR4 read of 4 to 64 bytes within 0x00 to 0x4F, or within the reserved rest of the page, which reads 0; any other is refused LENGTH. -/
def State.pageReadNow (s : State) (m b n : Nat) : State :=
  if 4 ≤ n ∧ n ≤ 64 ∧ (b + n ≤ 0x50 ∨ (0x50 ≤ b ∧ b + n ≤ 0x100)) then
    let d := ((s.pageBytes m).drop b).take n
    { s.registersRead .pcie (0x4400 + m) (pageSubs b n) with answer := { path := .pcie, data := d } }
  else s.rejectRead .pcie (0x4400 + m) (b / 4 + 1) n 5

/-- A BAR4 read, behind the host's own writes like one of BAR0 (R78). -/
def State.pageRead (s : State) (m b n : Nat) : State :=
  if !s.pathUp .pcie then s
  else if s.canRead .pcie then s.pageReadNow m b n
  else
    let t := s.waitRead (0x4400 + m) 0 n true
    { t with port := { t.port with reads := (t.port.reads.dropLast) ++ (t.port.reads.getLast?.map fun r : PortRead => { r with page := some b }).toList } }

/-- A read of message registers over CoE (one subindex, or all at once) or the sideband (one subindex): n bytes from byte `b` of the registers. -/
def State.registersGive (s : State) (p : Path) (m b n : Nat) : State :=
  if s.canRead p then
    { s.registersRead p (0x4400 + m) (pageSubs b n) with answer := { path := p, data := (((s.pageBytes m).take 64).drop b).take n } }
  else s

/-- A read on a control path: answered, refused, or waiting behind the host's own writes. -/
def State.objectRead (s : State) (p : Path) (ix sb n : Nat) (aligned : Bool) : State :=
  if !s.pathUp p then s
  else if s.canRead p then s.readNow p ix sb n aligned
  else s.waitRead ix sb n aligned

/-- A group of the port has been decided: the reads that waited for it alone are served, and their data completes them. -/
def State.groupDone (s : State) : State :=
  let l := s.port.reads.map fun r : PortRead => { r with behind := r.behind - 1 }
  let s := { s with port := { s.port with reads := l.filter fun r => r.behind != 0 } }
  s.each (l.filter fun r => r.behind == 0) fun r t =>
    if t.pathUp .pcie then
      let u := match r.page with
        | some b => t.pageReadNow (r.index - 0x4400) b r.size
        | none => t.readNow .pcie r.index r.sub r.size r.aligned
      { u with sent := u.sent ++ [Emit.bar0Data u.answer.data] }
    else t

/-- A 4-byte BAR0 read of a 64-bit object (R76). -/
def State.highRead (s : State) (ix sb : Nat) : State :=
  match s.look .pcie ix sb with
  | .gone _ => s
  | .found r => if r.ty.size = 8 ∧ !r.bytes ∧ r.acc ≠ .wo then s.objectRead .pcie ix sb 4 true else s

/-- A read of DOMAIN_DATA (R77). -/
def State.domainRead (s : State) : State := s.objectRead .pcie (Obj.domainData / 256) (Obj.domainData % 256) 4 true

/-! One write, a batch, and the port (R73, R77, R81). -/

/-- The row and value of a write that has been admitted. -/
def State.spelled (s : State) (w : Wr) : Option (Row × Nat) :=
  match s.look w.path w.index w.sub with
  | .gone _ => none
  | .found r => some (r, s.wrValue r w)

/-- An admitted write is accepted or refused. -/
def State.decideWrite (s : State) (w : Wr) : State :=
  match s.spelled w with
  | none => s
  | some (r, v) =>
    match s.lateCheck (s.tentative r w.key v w.data) w.path r w.key v with
    | some e => s.rejectWrite w v e true
    | none => s.acceptWrite w r v

/-- The configuration that a group of writes would give. -/
def State.groupTentative (s : State) (ws : List Wr) : State :=
  ws.foldl (fun t w => match t.spelled w with | some (r, v) => t.tentative r w.key v w.data | none => t) s

/-- The first write of a group that fails, with its value and reason. -/
def State.groupFails (s t : State) : List Wr → Option (Wr × Nat × Nat)
  | [] => none
  | w :: l =>
    match s.spelled w with
    | none => some (w, 0, 2)
    | some (r, v) =>
      match s.lateCheck t w.path r w.key v with
      | some e => some (w, v, e)
      | none => s.groupFails t l

/-- All writes of a group are accepted on one c. -/
def State.acceptAll (s : State) (ws : List Wr) : State :=
  ws.foldl (fun t w => match t.spelled w with | some (r, v) => t.acceptWrite w r v | none => t) s

/-- A group is accepted or refused as a whole. -/
def State.decideGroup (s : State) (ws : List Wr) : State :=
  match s.groupFails (s.groupTentative ws) ws with
  | some (w, v, e) => s.rejectWrite w v e true
  | none => s.acceptAll ws

/-- BATCH_CMD COMMIT: the batch closes, and its writes are accepted or refused. -/
def State.commitBatch (s : State) (w : Wr) : State :=
  match s.session.batch with
  | none => s.rejectWrite w 2 9 true
  | some ws =>
    let s := { s with session := { s.session with batch := none } }
    match s.groupFails (s.groupTentative ws) ws with
    | some (x, v, e) => (s.setObj Obj.batchCmd (0x80 + e)).rejectWrite x v e true
    | none =>
      let s := ((s.acceptAll ws).cmdDone Obj.batchCmd).renewLease
      s.answerTo w.path 0

/-- The write is BATCH_CMD COMMIT. -/
def Wr.commits (w : Wr) : Bool := w.key == Obj.batchCmd && leNat w.data == 2

/-- A held group has been checked, or needs no check of the management core. -/
def State.conclude (s : State) (ws : List Wr) : State :=
  match ws with
  | [w] => if w.commits then s.commitBatch w else s.decideWrite w
  | _ => s.decideGroup ws

/-- The management core must check the group: a rule of several objects speaks of one of its writes (R81, R86). -/
def State.needsCore (s : State) (ws : List Wr) : Bool :=
  let holds (w : Wr) : Bool := crossKey w.key && !ownRow w.key
  match ws with
  | [w] => if w.commits then (s.session.batch.getD []).any holds else holds w
  | _ => ws.any holds

/-- Admitted writes go on: held for the management core, or decided at once. -/
def State.proceed (s : State) (ws : List Wr) : State :=
  if !s.needsCore ws then s.conclude ws
  else if s.mgUp then { s with port := { s.port with held := ws } }
  else match ws with
    | w :: _ => s.rejectWrite w 0 9 false
    | [] => s

/-- A write of the owner's open batch is queued; a 65th discards the batch (R73). -/
def State.enqueue (s : State) (w : Wr) (r : Row) (l : List Wr) : State :=
  if 64 ≤ l.length then ({ s with session := { s.session with batch := none } }).rejectWrite w 0 0xC false
  else
    let x : Wr := if w.merges r then { w with data := leBytes 8 (s.wrValue r w) } else w
    let s := if w.merges r then s.setObj Obj.highWrite 0 else s
    let s := { s with session := { s.session with batch := some (l ++ [x]) } }
    s.answerTo w.path 0

/-- The batch that takes a write: the owner's, when the write needs the session. -/
def State.batchFor (s : State) (w : Wr) : Option (List Wr × Row) :=
  match s.look w.path w.index w.sub with
  | .gone _ => none
  | .found r =>
    if s.owns w.path && !sessionFree r w.key && w.key != Obj.batchCmd then s.session.batch.map fun l => (l, r) else none

/-- One write at the port, DOMAIN_COMMIT already turned into a write of its target. -/
def State.takePlain (s : State) (w : Wr) : State :=
  match s.portRefuses w with
  | some e => s.rejectWrite w 0 e false
  | none =>
    match s.batchFor w with
    | some (l, r) => s.enqueue w r l
    | none => s.proceed [w]

/-- The write that a DOMAIN_COMMIT stands for: the first bytes of the staging buffer, to the selected object (R77). -/
def State.commitTarget (s : State) (w : Wr) : Wr :=
  let t := s.obj Obj.domainSelect
  let n := leNat w.data
  { path := w.path, index := t % 65536, sub := t / 65536, data := (s.staging ++ zeros (n - s.staging.length)).take n,
    aligned := true, poisoned := false, form := .commit }

/-- String and domain access on the sideband stops while the management core is down (R91). -/
def State.sidebandMute (s : State) (w : Wr) : Bool :=
  w.path == .sideband && !s.mgUp && (match s.look w.path w.index w.sub with | .gone _ => false | .found r => r.bytes)

/-- One write at the port. -/
def State.takeWrite (s : State) (w : Wr) : State :=
  if !s.pathUp w.path || s.sidebandMute w then s
  else if w.key ≠ Obj.domainCommit ∨ w.path ≠ .pcie then s.takePlain w
  else match s.portRefuses w with
    | some e => s.rejectWrite w 0 e false
    | none =>
      if 65536 < leNat w.data then
        let t := s.obj Obj.domainSelect
        s.rejectWrite { w with index := t % 65536, sub := t / 65536 } 0 5 false
      else s.takePlain (s.commitTarget w)

/-- The first write of a complete access that is refused at once. -/
def State.firstRefused (s : State) : List Wr → Option (Wr × Nat)
  | [] => none
  | w :: l => match s.portRefuses w with | some e => some (w, e) | none => s.firstRefused l

/-- A group at the port: a single write, or a complete access as one batch (R73), queued write by write in an open batch. -/
def State.takeGroup (s : State) (ws : List Wr) : State :=
  match ws with
  | [] => s
  | [w] => s.takeWrite w
  | w :: _ =>
    if !s.pathUp w.path then s
    else match s.firstRefused ws with
      | some (x, e) => s.rejectWrite x 0 e false
      | none => if (s.batchFor w).isSome then ws.foldl (fun t x => t.takePlain x) s else s.proceed ws

/-- A group has been taken: unless the management core holds it, it is decided. -/
def State.groupTaken (s : State) : State := if s.port.held.isEmpty then s.groupDone else s

/-- The writes behind the port are taken until one is held. -/
def State.drainPort (s : State) : Nat → State
  | 0 => s
  | n + 1 =>
    if !s.port.held.isEmpty then s
    else match s.port.queue with
      | [] => s
      | g :: l => (({ s with port := { s.port with queue := l } }).takeGroup g).groupTaken.drainPort n

/-- The order in which the port takes writes that arrive on one c (R82). -/
def pathRank (g : List Wr) : Nat := match g.head?.map Wr.path with | some .pcie => 0 | some .coe => 1 | some .sideband => 2 | _ => 3

/-- A group's place among those that arrived on its own c: behind every one of its path and of the paths before it. -/
def insertGroup (l : List (List Wr)) (g : List Wr) : List (List Wr) :=
  l.takeWhile (fun x => pathRank x ≤ pathRank g) ++ [g] ++ l.dropWhile (fun x => pathRank x ≤ pathRank g)

/-- A group of writes arrives at a port that is not free (R81, R82). -/
def WritePort.wait (p : WritePort) (c : Nat) (g : List Wr) : WritePort :=
  let n := if p.tailAt = c then min p.tailN p.queue.length else 0
  let m := p.queue.length - n
  { p with queue := p.queue.take m ++ insertGroup (p.queue.drop m) g, tailAt := c, tailN := n + 1 }

/-- A group of writes arrives at the port. -/
def State.submitGroup (s : State) (g : List Wr) : State :=
  if s.port.held.isEmpty then s.takeGroup g else { s with port := s.port.wait s.cyc g }

/-- A write arrives at the port; the host queues that waited for HQ_WINDOW_BASE go on (R483). -/
def State.submit (s : State) (w : Wr) : State := (s.submitGroup [w]).pumpHosts

/-- CROSS_OBJECT_CHECK_DONE: the held writes are decided, and the port resumes. -/
def State.checkDone (s : State) : State :=
  if s.port.held.isEmpty then s
  else
    let ws := s.port.held
    let s := (({ s with port := { s.port with held := [] } }).conclude ws).groupDone
    (s.drainPort s.port.queue.length).pumpHosts

/-- A whole-object write of a value by a path, as each path carries it. -/
def wrOf (p : Path) (k n v : Nat) : Wr :=
  { path := p, index := k / 0x100, sub := k % 0x100, data := leBytes n v, aligned := true, poisoned := false, form := .slot }

/-- A write of a numeric object with its own command: the value in the object's size. -/
def State.write (s : State) (p : Path) (k v : Nat) : State :=
  s.submit (wrOf p k (((rowOf k).map fun r => r.ty.size).getD 1) v)

end Sys2Proof.Machine
end

