-- ==== Sys2Proof/Machine/Run.lean ====
section
/-! DEFINITION. How a command runs: its effect, then the reactions, deliveries and progress that the effect sets off at once. What the engine
sent on its control links belongs to the command that sent it. -/

namespace Sys2Proof.Machine

/-- The state after an effect and what follows it at once. The queue of waiting commands is no part of any effect. -/
def State.after (s : State) (f : State → State) : State := { (f { s with sent := [] }).finish with pending := s.pending }

/-- A command: its effect, then what follows at once. -/
def run (s : State) (f : State → State) : Host.Outcome State Fault Refusal := .next (s.after f)

/-- A clock of CCLK passes with no command waiting (DESIGN CHOICE, log entry 5). -/
def State.idle (s : State) : State := s.after fun t => t.advanceCyc (t.cyc + 1)

/-- A command of logic that runs while VCORE is on and no start waits. -/
def runAwake (s : State) (f : State → State) : Host.Outcome State Fault Refusal := run s fun t => if t.awake then f t else t

/-- A command of logic whose clocks DOZE gates (R571). -/
def runClocked (s : State) (f : State → State) : Host.Outcome State Fault Refusal := run s fun t => if t.clocked then f t else t

/-- A command of a requester at an ingress: activity there wakes the engine from DOZE (R572), and a closed ingress takes nothing
(R577). -/
def runIngress (s : State) (f : State → State) : Host.Outcome State Fault Refusal :=
  run s fun t => if !t.awake || t.ingressClosed then t else f t.requestWakes

end Sys2Proof.Machine
end

