-- ==== Sys2Proof/Machine/ArbiterRows.lean ====
section
/-! DEFINITION. The commands of the request path: regulators, the crossbar, the arbiters, range locks and fences (R139 to R200). -/

namespace Sys2Proof.Machine

/-- An earlier request of the same requester at the crossbar names a common line: its lines are granted in the order it issued them (R178). -/
def State.lineBehind (s : State) (r : Req) : Bool :=
  r.kind.moves && s.reqs.any fun x => x.rq == r.rq && x.stage == .crossbar && x.kind.moves && decide (x.serial < r.serial) &&
    overlaps (x.addr / 64) x.lines (r.addr / 64) r.lines

/-- The oldest request of a requester that nothing holds at the crossbar leaves it (R170). A FENCE completes by its own command. -/
def State.crossbarLeave (s : State) (rq : Nat) : State :=
  match (s.atStage rq .crossbar).find? fun r => r.kind != .fence && !s.heldAtCrossbar r && !s.lineBehind r with
  | some r => s.leaveCrossbar r
  | none => s

/-- The data of the oldest open write of a requester completes: a cut-through packet passes its CRC, or an FE point has its last word (R153,
R413). -/
def State.openCompletes (s : State) (rq : Nat) : State :=
  if rq < 0x100 then
    match s.reqs.find? fun r => r.rq == rq && r.openData with
    | some r => s.completeOpen r.serial
    | none => s
  else if 0x110 ≤ rq ∧ rq < 0x120 then s.feComplete (rq - 0x110)
  else s

/-- The abort that a bite starts on the c after it, or joins (R157, R158). -/
def State.abortHolder (s : State) (w : Ent) : State :=
  let t := s.advanceCyc (s.cyc + 1)
  if w.rq < 0x100 then t.startAbort (.client w.rq) 3 false
  else if w.rq < 0x104 then t.startAbort (.host (w.rq - 0x100)) 3 false
  else if 0x110 ≤ w.rq ∧ w.rq < 0x120 then t.startAbort (.ctx (match s.req? w.req with | some r => r.ctx | none => 0)) 3 false
  else s

/-- The arbitration watchdog bites: an open entry has held the write-data path of a channel for ARB_WATCHDOG c (R157 to R160). A
lockstep line that the discard comes too late for is LATE (R219). -/
def State.arbBites (s : State) (ch : Nat) : State :=
  match (s.chan ch).pathHolder.bind fun n => s.ents.find? fun e => e.serial == n with
  | none => s
  | some w =>
    let s := s.advanceCyc ((s.chan ch).pathSince + s.obj (Obj.arbWatchdog ch))
    let s := (s.lsHazards ch 0 s.cyc).lsHazards ch 1 s.cyc
    let s := (s.discardOpen ch false).raise (32 + ch) (sourceWord ch 0xFF)
    let s := (s.bump (Obj.watchdogBites ch)).when (rqHasObjects w.rq) fun t => t.bump (rqKey w.rq 0x1D)
    let s := (s.setObj (Obj.lastBiteHolder ch) w.rq).setObj (Obj.lastBiteTs ch) s.ts
    s.abortHolder w

/-- The lease of a lock ends on a c: its UNLOCK that is complete on it releases the lock, a LOCK that renews it wins, else it is EXPIRED (R188, R193). -/
def State.leaseOver (s : State) (l : Lock) : State :=
  match s.reqs.find? fun r => r.rq == l.holder && s.unlockReady r && r.addr / 64 == l.start with
  | some r => s.finishUnlock r
  | none =>
    match s.reqs.find? fun r => r.rq == l.holder && r.kind == .lock && r.stage == .crossbar && s.renews r && r.addr / 64 == l.start && !s.heldAtCrossbar r with
    | some r => s.takeLock r
    | none => s.releaseLock l 2 0

/-- The lease of the lock at a start line runs out (R188). -/
def State.leaseRunsOut (s : State) (start : Nat) : State :=
  match s.locks.find? fun l => l.start == start with
  | some l => (s.advanceTo (s.now + (l.since + 800 * l.lease - s.ts) * 9)).leaseOver l
  | none => s

/-- The oldest UNLOCK of a requester that is complete (R187). -/
def State.unlockCompletes (s : State) (rq : Nat) : State :=
  match s.reqs.find? fun r => r.rq == rq && s.unlockReady r with
  | some r => s.finishUnlock r
  | none => s

/-- The oldest FENCE of a requester that is complete is answered OK (R180). -/
def State.fenceCompletes (s : State) (rq : Nat) : State :=
  match s.reqs.find? fun r => r.rq == rq && s.fenceReady r with
  | some r => s.answerAll r stOk
  | none => s

/-! The commands. Requester codes are those of R141. -/

/-- REGULATOR_PASS (R149, R150). -/
def execRegulatorPass (rq : Fin 290) (s : State) : Host.Outcome State Fault Refusal := runClocked s fun s => s.regulatorPass rq

/-- CROSSBAR_LEAVE (R170). -/
def execCrossbarLeave (rq : Fin 290) (s : State) : Host.Outcome State Fault Refusal := runClocked s fun s => s.crossbarLeave rq

/-- LINE_GRANT (R145): the next slot of a channel. -/
def execLineGrant (ch : Fin 4) (s : State) : Host.Outcome State Fault Refusal := runClocked s fun s => s.grantSlot ch

/-- QUOTA_WINDOW_END (R146). -/
def execQuotaWindowEnd (ch : Fin 4) (rq : Fin 290) (s : State) : Host.Outcome State Fault Refusal :=
  runClocked s fun s => s.quotaWindowEnds ch rq

/-- BG_GUARD_FIRE (R148). -/
def execBgGuardFire (ch : Fin 4) (s : State) : Host.Outcome State Fault Refusal := runClocked s fun s => s.guardFires ch

/-- OPEN_WRITE_COMPLETE (R152, R153). -/
def execOpenWriteComplete (rq : Fin 290) (s : State) : Host.Outcome State Fault Refusal := runClocked s fun s => s.openCompletes rq

/-- ARB_WATCHDOG_BITE (R157). -/
def execArbWatchdogBite (ch : Fin 4) (s : State) : Host.Outcome State Fault Refusal := runClocked s fun s => s.arbBites ch

/-- LOCK_LEASE_EXPIRY (R188): the lock at a start line. -/
def execLockLeaseExpiry (start : Nat) (s : State) : Host.Outcome State Fault Refusal := runAwake s fun s => s.leaseRunsOut start

/-- UNLOCK_COMPLETE (R187). -/
def execUnlockComplete (rq : Fin 290) (s : State) : Host.Outcome State Fault Refusal := runClocked s fun s => s.unlockCompletes rq

/-- FENCE_COMPLETE (R180). -/
def execFenceComplete (rq : Fin 290) (s : State) : Host.Outcome State Fault Refusal := runClocked s fun s => s.fenceCompletes rq

/-- LOCK_RELEASE_ALL (R189). -/
def execLockReleaseAll (p : Path) (v : BitVec 8) (s : State) : Host.Outcome State Fault Refusal :=
  run s fun s => s.write p Obj.lockReleaseAll v.toNat

end Sys2Proof.Machine
end

