-- ==== Sys2Proof/Machine/ClockRows.lean ====
section
/-! DEFINITION. The commands of the clocks, the wheel, the timestamp and the operating points (R29 to R54, R215, R238, R610 to R613). -/

namespace Sys2Proof.Machine

/-- The refresh-interval boundary of a channel: values waiting for it act, then the multiplier, the counts and the draw probability
(R63, R238, R246). It falls every D c from the restart of the wheel. -/
def State.refreshBoundary (s : State) (ch : Nat) : State :=
  let d := s.refD ch
  let s := s.advanceCyc (s.wheelBase + ((s.cyc - s.wheelBase) / d + 1) * d)
  let s := s.dropShadows fun h => h.bound == .refreshInterval && h.key / 0x10000 == 0x30 + ch
  (s.multBoundary ch).kBoundary ch

/-- FRAME_BOUNDARY (R31). -/
def execFrameBoundary (s : State) : Host.Outcome State Fault Refusal := runAwake s State.frameBoundary

/-- The next wrap of the wheel: what waits for it acts, and offsets beyond the windows written are clamped (R215, R286). -/
def State.nextWheel (s : State) : State :=
  let s := (s.advanceCyc s.nextWrap).wheelWraps
  s.each s.acceptedChans fun ch t => t.clampOffsets ch

/-- WHEEL_WRAP (R215). -/
def execWheelWrap (s : State) : Host.Outcome State Fault Refusal := runAwake s State.nextWheel

/-- REFRESH_INTERVAL_BOUNDARY (R238). -/
def execRefreshIntervalBoundary (ch : Fin 4) (s : State) : Host.Outcome State Fault Refusal :=
  runAwake s fun s => if s.chanRuns ch then s.refreshBoundary ch else s

/-- OP_REQUEST (R610). -/
def execOpRequest (p : Path) (v : BitVec 8) (s : State) : Host.Outcome State Fault Refusal := run s fun s => s.write p Obj.opRequest v.toNat

/-- OP_REQUEST_START (R610). -/
def execOpRequestStart (s : State) : Host.Outcome State Fault Refusal := runAwake s State.opRequestStart

/-- PLL_RELOCK (R48): `us` microseconds after the retune, at most 10. -/
def execPllRelock (us : Nat) (s : State) : Host.Outcome State Fault Refusal := runAwake s fun s => s.pllRelock us

/-- VCORE_SLEW_DONE (R611). -/
def execVcoreSlewDone (s : State) : Host.Outcome State Fault Refusal := runAwake s State.vcoreSlewDone

/-- SHMOO_OFFSET (R35, R37, R45). -/
def execShmooOffset (p : Path) (v : BitVec 16) (s : State) : Host.Outcome State Fault Refusal := run s fun s => s.write p Obj.shmooOffset v.toNat

/-- SHMOO_SLEW_STEP (R35). -/
def execShmooSlewStep (s : State) : Host.Outcome State Fault Refusal := runAwake s State.shmooStep

/-- PB_CK_MULT (R37). -/
def execPbCkMult (p : Path) (n : Fin 2) (v : BitVec 8) (s : State) : Host.Outcome State Fault Refusal :=
  run s fun s => s.write p (Obj.pb0CkMult + n) v.toNat

/-- CLOCK_FAILURE (R49): 0 REF_CLK lost, 1 to 3 a phase error of the core, lane or fixed PLL, 4 a relock that took too long. -/
def execClockFailure (why : Fin 5) (s : State) : Host.Outcome State Fault Refusal := runAwake s fun s => s.clockFailure why

/-- CLOCK_RECOVERY (R51). -/
def execClockRecovery (s : State) : Host.Outcome State Fault Refusal := runAwake s State.clockRecovery

/-- TS_ALIGN_STEP (R40): the system time at the frame boundary. -/
def execTsAlignStep (ns : Nat) (s : State) : Host.Outcome State Fault Refusal := runAwake s fun s => s.tsAlignStep ns

/-- TS_SLEW_ADJUST (R40): an increment omitted or doubled, and the error measured in ns. -/
def execTsSlewAdjust (double : Bool) (err : Int) (s : State) : Host.Outcome State Fault Refusal := runAwake s fun s => s.tsSlewAdjust double err

/-- TS_UNLOCK (R40). -/
def execTsUnlock (invalid : Bool) (err : Int) (s : State) : Host.Outcome State Fault Refusal := runAwake s fun s => s.tsUnlock invalid err

end Sys2Proof.Machine
end

