-- ==== Sys2Proof/Machine/Dictionary.lean ====
section
/-! DEFINITION. The commands of the object dictionary: writes and refused reads on the control paths, the session, the batch and the BAR0
window (R55 to R98). -/

namespace Sys2Proof.Machine

/-! The commands. -/

/-- OBJECT_WRITE (R81). -/
def execObjectWrite (p : Path) (index sub : Nat) (data : List Byte) (aligned poisoned : Bool) (s : State) : Host.Outcome State Fault Refusal :=
  run s fun s => s.submit { path := p, index := index, sub := sub, data := data, aligned := aligned, poisoned := poisoned, form := .slot }

/-- CROSS_OBJECT_CHECK_DONE (R81, R86): the check of the management core ends after `us` microseconds. -/
def execCrossObjectCheckDone (us : Fin 201) (s : State) : Host.Outcome State Fault Refusal :=
  runAwake s fun s => if s.mgUp then (s.advanceTo (s.now + us * usTicks)).checkDone else s

/-- CLAIM (R68). -/
def execClaim (p : Path) (s : State) : Host.Outcome State Fault Refusal := run s fun s => s.write p Obj.sessionCmd 1

/-- RENEW (R68, R70). -/
def execRenew (p : Path) (s : State) : Host.Outcome State Fault Refusal := run s fun s => s.write p Obj.sessionCmd 2

/-- RELEASE (R68, R72). -/
def execRelease (p : Path) (s : State) : Host.Outcome State Fault Refusal := run s fun s => s.write p Obj.sessionCmd 3

/-- SESSION_LEASE_EXPIRY (R70). -/
def execSessionLeaseExpiry (s : State) : Host.Outcome State Fault Refusal := runAwake s fun s => s.leaseExpires

/-- SESSION_DROP (R71): the path has dropped. -/
def execSessionDrop (p : Path) (s : State) : Host.Outcome State Fault Refusal := run s fun s => s.dropSession p

/-- BEGIN (R73). -/
def execBatchBegin (p : Path) (s : State) : Host.Outcome State Fault Refusal := run s fun s => s.write p Obj.batchCmd 1

/-- COMMIT (R73). -/
def execBatchCommit (p : Path) (s : State) : Host.Outcome State Fault Refusal := run s fun s => s.write p Obj.batchCmd 2

/-- CANCEL (R73). -/
def execBatchCancel (p : Path) (s : State) : Host.Outcome State Fault Refusal := run s fun s => s.write p Obj.batchCmd 3

/-- HIGH_READ_COPY (R76). -/
def execHighReadCopy (index sub : Nat) (s : State) : Host.Outcome State Fault Refusal := run s fun s => s.highRead index sub

/-- HIGH_WRITE_MERGE (R76): a 4-byte BAR0 write at the slot of a 64-bit object. -/
def execHighWriteMerge (index sub : Nat) (low : BitVec 32) (poisoned : Bool) (s : State) : Host.Outcome State Fault Refusal :=
  run s fun s =>
    if ((rowOf (index * 0x100 + sub)).map fun r => r.ty.size) = some 8 then
      s.submit { path := .pcie, index := index, sub := sub, data := leBytes 4 low.toNat, aligned := true, poisoned := poisoned, form := .slot }
    else s

/-- DOMAIN_SELECT (R77). -/
def execDomainSelect (v : BitVec 32) (s : State) : Host.Outcome State Fault Refusal := run s fun s => s.write .pcie Obj.domainSelect v.toNat

/-- DOMAIN_DATA_READ (R77). -/
def execDomainDataRead (s : State) : Host.Outcome State Fault Refusal := run s fun s => s.domainRead

/-- DOMAIN_DATA_WRITE (R77). -/
def execDomainDataWrite (v : BitVec 32) (s : State) : Host.Outcome State Fault Refusal := run s fun s => s.write .pcie Obj.domainData v.toNat

/-- DOMAIN_COMMIT (R77). -/
def execDomainCommit (count : BitVec 32) (s : State) : Host.Outcome State Fault Refusal := run s fun s => s.write .pcie Obj.domainCommit count.toNat

/-- DECODE_ADDRESS (R197): DECODE_RESULT holds the decode on the next c. -/
def execDecodeAddress (p : Path) (a : BitVec 64) (s : State) : Host.Outcome State Fault Refusal := run s fun s => s.write p Obj.decodeAddress a.toNat

/-- REFUSED_READ (R78, R85): a read on a control path; one that breaks no check is answered. -/
def execRefusedRead (p : Path) (index sub size : Nat) (aligned : Bool) (s : State) : Host.Outcome State Fault Refusal :=
  run s fun s => s.objectRead p index sub size aligned

end Sys2Proof.Machine
end

