-- ==== Sys2Proof/Machine/DramRows.lean ====
section
/-! DEFINITION. The commands of the store channels: DRAM commands, read checks, refresh, training, resume, drift tracking, write CRC, fill, scrub
and the retire fence (R201 to R325). -/

namespace Sys2Proof.Machine

/-! Training (R264 to R267). -/

/-- What the margins of a training break: the step, the reason EYE_SMALL (2) or VREF_SMALL (3), in TRAIN_FAIL's layout (R265). `place` gives
the rank, subchannel and bit of the smallest margin, in that layout. -/
def State.marginFault (s : State) (ch margins place : Nat) : Option Nat :=
  let eye := s.act (Obj.eyeMin ch)
  let vref := s.act (Obj.vrefMin ch)
  let at' (step reason : Nat) : Option Nat := some (step + fld 6 9 place * 2 ^ 6 + reason * 2 ^ 16)
  if fld 0 8 margins < eye then at' 5 2
  else if fld 16 8 margins < vref then at' 5 3
  else if fld 8 8 margins < eye then at' 6 2
  else if fld 24 8 margins < vref then at' 6 3
  else none

/-- What ends a training, in TRAIN_FAIL's layout: a failure found at a step, with its reason, otherwise the margins decide; none when it passes. -/
def State.trainingWord (s : State) (ch : Nat) (failed : Option (Fin 11)) (reason : Fin 7) (margins place : Nat) : Option Nat :=
  match failed with
  | some step => some (max 1 step.val + fld 6 9 place * 2 ^ 6 + max 1 reason.val * 2 ^ 16)
  | none => s.marginFault ch margins place

/-! The commands. -/

/-- DRAM_COMMAND_ISSUE (R205): the next command of a subchannel. -/
def execDramCommandIssue (ch : Fin 4) (sub : Fin 2) (s : State) : Host.Outcome State Fault Refusal :=
  runAwake s fun s => s.dramIssue ch sub

/-- READ_CHECK (R302): what the wires changed in the data that arrives, 64 data bytes then 16 check bytes. -/
def execReadCheck (ch : Fin 4) (sub : Fin 2) (noise : List Byte) (s : State) : Host.Outcome State Fault Refusal :=
  runClocked s fun s => s.readCheck ch sub ((noise ++ zeros 80).take 80)

/-- PAGE_IDLE_EXPIRY (R204): the row open in a bank. -/
def execPageIdleExpiry (ch : Fin 4) (sub : Fin 2) (bank : Fin 128) (s : State) : Host.Outcome State Fault Refusal :=
  runClocked s fun s => s.rowIdles ch sub bank

/-- DRAIN_READ_MAX_EXPIRY (R207). -/
def execDrainReadMaxExpiry (ch : Fin 4) (sub : Fin 2) (s : State) : Host.Outcome State Fault Refusal :=
  runClocked s fun s => s.drainExpires ch sub

/-- SCHED_WATCHDOG_EXPIRY (R225). -/
def execSchedWatchdogExpiry (ch : Fin 4) (s : State) : Host.Outcome State Fault Refusal := runClocked s fun s => s.schedBites ch

/-- MR4_RESULT (R237): the raw code read from a rank of a subchannel. -/
def execMr4Result (ch rank : Fin 4) (sub : Fin 2) (code : Fin 8) (s : State) : Host.Outcome State Fault Refusal :=
  runAwake s fun s =>
    if s.chanRuns ch && decide (rank.val < rankCount (s.chan ch).dimms) then s.mr4Read ch rank sub code else s

/-- MR4_STALE (R253). -/
def execMr4Stale (ch rank : Fin 4) (s : State) : Host.Outcome State Fault Refusal := runAwake s fun s => s.mr4Expires ch rank

/-- REFRESH_OVERDUE (R252): a bank address of a rank in SAME_BANK mode, 0 in ALL_BANK mode. -/
def execRefreshOverdue (ch : Fin 4) (sub : Fin 2) (rank bank : Fin 4) (s : State) : Host.Outcome State Fault Refusal :=
  runAwake s fun s => s.goesOverdue ch sub rank bank

/-- ENTROPY_FAIL (R240). -/
def execEntropyFail (ch : Fin 4) (s : State) : Host.Outcome State Fault Refusal := runAwake s fun s => s.entropyFails ch

/-- ENTROPY_RECOVER (R240, R255): so many consecutive samples have passed both tests. -/
def execEntropyRecover (good : GoodSamples) (s : State) : Host.Outcome State Fault Refusal :=
  runAwake s fun s => s.entropyPasses good.ch good.samples

/-- TRAIN_CMD_SEEDED (R282). -/
def execTrainCmdSeeded (p : Path) (ch : Fin 4) (s : State) : Host.Outcome State Fault Refusal := run s fun s => s.write p (Obj.trainCmd ch) 1

/-- TRAIN_CMD_FULL (R282). -/
def execTrainCmdFull (p : Path) (ch : Fin 4) (s : State) : Host.Outcome State Fault Refusal := run s fun s => s.write p (Obj.trainCmd ch) 2

/-- TRAINING_START (R282), with the time that each step will take in microseconds (R265): a step given more than its maximum will time out. -/
def execTrainingStart (run : StepTimes) (s : State) : Host.Outcome State Fault Refusal := runAwake s fun s => s.trainingStarts run.ch run.times

/-- TRAINING_COMPLETE (R265 to R288): what training found, as MARGIN_SUMMARY and the trained set give it. -/
def execTrainingComplete (ch : Fin 4) (failed : Option (Fin 11)) (reason : Fin 7) (margins place : BitVec 32) (body : List Byte) (s : State) :
    Host.Outcome State Fault Refusal :=
  runAwake s fun s => s.trainingEnds ch (s.trainingWord ch failed reason margins.toNat place.toNat) margins.toNat body

/-- The rank, subchannel and bit (63 for none) in TRAIN_FAIL's layout (R292). -/
def failPlace (rank sub bit : Nat) : Nat := rank * 2 ^ 6 + sub * 2 ^ 8 + bit * 2 ^ 9

/-- TRAIN_STEP_TIMEOUT (R265): the step that the run's times overrun reaches the end of its time. -/
def execTrainStepTimeout (ch : Fin 4) (rank : Fin 4) (sub : Fin 2) (bit : Fin 64) (s : State) : Host.Outcome State Fault Refusal :=
  runAwake s fun s => s.stepTimesOut ch (failPlace rank sub bit)

/-- RESUME (R283, R284): whether every pattern read was correct, and the correction of each lane. -/
def execChannelResume (ch : Fin 4) (pattern : Bool) (corrections : List Byte) (s : State) : Host.Outcome State Fault Refusal :=
  runAwake s fun s => s.resumeChan ch pattern ((corrections ++ zeros 768).take 768)

/-- TRACK_UPDATE (R275 to R277): a measurement of a lane of a rank and subchannel, on one side or the other. -/
def execTrackUpdate (ch rank : Fin 4) (sub : Fin 2) (lane : Fin 96) (up down : Bool) (s : State) : Host.Outcome State Fault Refusal :=
  runAwake s fun s => s.trackLane ch rank sub lane up down

/-- TRACK_STALE (R289). -/
def execTrackStale (ch rank : Fin 4) (s : State) : Host.Outcome State Fault Refusal := runAwake s fun s => s.trackGoesStale ch rank

/-- WRITE_CRC_ALERT (R299). -/
def execWriteCrcAlert (ch : Fin 4) (sub : Fin 2) (s : State) : Host.Outcome State Fault Refusal := runClocked s fun s => s.crcAlert ch sub

/-- CRC_WINDOW_EXPIRY (R299). -/
def execCrcWindowExpiry (ch : Fin 4) (sub : Fin 2) (s : State) : Host.Outcome State Fault Refusal := runClocked s fun s => s.windowEnds ch sub

/-- FILL_COMPLETE (R307). -/
def execFillComplete (ch : Fin 4) (s : State) : Host.Outcome State Fault Refusal := runClocked s fun s => s.fillEnds ch

/-- SCRUB_READ (R310): FS issues nothing further once an entry has closed the ingress (R577). -/
def execScrubRead (ch : Fin 4) (s : State) : Host.Outcome State Fault Refusal :=
  runClocked s fun s => if s.ingressClosed then s else s.scrubRead ch

/-- SCRUB_BEHIND (R311). -/
def execScrubBehind (ch : Fin 4) (s : State) : Host.Outcome State Fault Refusal := runClocked s fun s => s.scrubBehind ch

/-- FLIP_ARM (R312). -/
def execFlipArm (p : Path) (ch : Fin 4) (v : BitVec 8) (s : State) : Host.Outcome State Fault Refusal :=
  run s fun s => s.write p (Obj.flipArm ch) v.toNat

/-- PEEK_ADDRESS (R314). -/
def execPeekAddress (p : Path) (ch : Fin 4) (v : BitVec 64) (s : State) : Host.Outcome State Fault Refusal :=
  run s fun s => s.write p (Obj.peekAddress ch) v.toNat

/-- RETIRE_ADD (R319). -/
def execRetireAdd (p : Path) (v : BitVec 64) (s : State) : Host.Outcome State Fault Refusal := run s fun s => s.write p Obj.retireAdd v.toNat

/-- RETIRE_REMOVE (R319). -/
def execRetireRemove (p : Path) (v : BitVec 64) (s : State) : Host.Outcome State Fault Refusal :=
  run s fun s => s.write p Obj.retireRemove v.toNat

/-- RETIRE_CLEAR (R319). -/
def execRetireClear (p : Path) (v : BitVec 8) (s : State) : Host.Outcome State Fault Refusal := run s fun s => s.write p Obj.retireClear v.toNat

end Sys2Proof.Machine
end

