-- ==== Sys2Proof/Machine/FieldPort.lean ====
section
/-! DEFINITION. The mailbox of the EtherCAT slave and the sideband target: SDO transfers, FoE files, the SM3 buffer, and the transfers of the
two-wire bus (R493 to R505, R531). -/

namespace Sys2Proof.Machine

/-! SDO (R496). -/

/-- Segments joined: the bytes of a subindex go behind those that came before. -/
def mergeParts (old new : List (Nat × List Byte)) : List (Nat × List Byte) :=
  new.foldl (fun l x => match l.getLast? with
    | some y => if y.1 = x.1 then l.dropLast ++ [(y.1, y.2 ++ x.2)] else l ++ [x]
    | none => [x]) old

/-- The CoE path answers without an abort. -/
def State.coeAnswers (s : State) (d : List Byte) : State := { s with answer := { path := .coe, data := d } }

/-- A transfer is staged, or none is. -/
def State.setTransfer (s : State) (t : Option Transfer) : State := s.modEct fun e => { e with transfer := t }

/-- What an SDO download to an index has staged. -/
def State.stagedParts (s : State) (ix : Nat) : List (Nat × List Byte) :=
  match s.ect.transfer with
  | some t => if t.kind = 0 ∧ t.key = ix then t.parts else []
  | none => []

/-- An SDO download, or a segment of one: the last one writes; several subindices are a complete access. -/
def State.sdoDownload (s : State) (ix : Nat) (parts : List (Nat × List Byte)) (last : Bool) : State :=
  if !s.pathUp .coe then s
  else
    let l := mergeParts (s.stagedParts ix) parts
    if last then
      let wr (x : Nat × List Byte) : Wr :=
        { path := .coe, index := ix, sub := x.1, data := x.2, aligned := true, poisoned := false, form := .slot }
      ((s.setTransfer none).submitGroup (l.map wr)).pumpHosts
    else (s.setTransfer (some { kind := 0, key := ix, parts := l })).coeAnswers []

/-- The subindices of an upload. -/
def State.uploadSubs (s : State) (ix sb : Nat) (complete : Bool) : List Nat :=
  let l := (List.range 256).filter fun b => decide (sb ≤ b) && (match s.look .coe ix b with | .found _ => true | .gone _ => false)
  if complete && !l.isEmpty then l else [sb]

/-- The bytes an upload carries for one subindex; subindex 0 of a complete access takes two (PRESUMED, log entry 87, as CoE defines it). -/
def State.uploadBytes (s : State) (ix sb : Nat) (complete : Bool) : List Byte :=
  match s.look .coe ix sb with
  | .gone _ => []
  | .found r => if complete && sb == 0 then leBytes 2 (s.view (ix * 0x100)) else s.readBytes r (ix * 0x100 + sb)

/-- An SDO upload. -/
def State.sdoUpload (s : State) (ix sb : Nat) (complete : Bool) : State :=
  if !s.canRead .coe then s
  else
    let subs := s.uploadSubs ix sb complete
    match subs.findSome? fun b => (s.readRefused .coe ix b 0 true).map fun e => (b, e) with
    | some (b, e) => s.rejectRead .coe ix b 0 e
    | none => (s.registersRead .coe ix subs).coeAnswers (subs.flatMap fun b => s.uploadBytes ix b complete)

/-- The CoE code of a type (R57). -/
def Ty.code : Ty → Nat
  | .bool => 1 | .i16 => 3 | .i32 => 4 | .u8 => 5 | .u16 => 6 | .u32 => 7 | .r32 => 8 | .u64 => 0x1B | .i64 => 0x15 | .str => 9 | .dom => 0xF

/-- Read and write rights of an entry description. -/
def Acc.rights : Acc → Nat
  | .ro => 0x07 | .wo => 0x38 | _ => 0x3F

/-- The answer of an SDO Information service: 0 the OD list, 1 an object, 2 an entry. -/
def State.sdoInfo (s : State) (service ix sb : Nat) : State :=
  if !s.canRead .coe then s
  else if service = 0 then s.coeAnswers (((List.range 0x6000).filter fun x => s.indexOn .coe x).flatMap (leBytes 2))
  else match s.look .coe ix (if service = 1 then (s.uploadSubs ix 0 true).headD 0 else sb) with
    | .gone e => s.rejectRead .coe ix sb 0 e
    | .found r =>
      if service = 1 then s.coeAnswers (leBytes 2 ix ++ leBytes 1 ((s.uploadSubs ix 0 true).foldl max 0))
      else
        let n := (s.readBytes r (ix * 0x100 + sb)).length
        s.coeAnswers (leBytes 2 ix ++ leBytes 1 sb ++ leBytes 2 r.ty.code ++ leBytes 2 (8 * n) ++ leBytes 2 r.acc.rights)

/-! The SM3 buffer (R497, R510). -/

/-- The mapped values of one buffer. -/
def State.pdoBytes (s : State) : List Byte := s.assigned.flatMap fun m => (s.pdoEntries m).flatMap fun e => leBytes (e.2 / 8) (s.view e.1)

/-- The values are sampled on one c. In free run and SM-synchronous mode a frame has then taken the buffer before; with SYNC0 `taken` says so. -/
def State.pdoSample (s : State) (taken : Bool) : State :=
  let a := s.obj Obj.ectAlState
  if a ≠ 4 ∧ a ≠ 8 then s
  else
    let t := s.modEct fun e => { e with pdo := s.pdoBytes }
    if taken || s.obj (Obj.sm3Parameters 1) != 2 then t.pdRestart else t

/-! FoE (R431, R499, R530, R531). -/

/-- A FoE write is refused with an error code. -/
def State.foeFails (s : State) (code : Nat) : State :=
  let s := (s.setTransfer none).bump Obj.ectFoeFails
  { s with answer := { path := .coe, reason := code, data := leBytes 4 code } }

/-- The mailbox carries FoE, and the management core answers. -/
def State.foeUp (s : State) : Bool := s.reachable && s.mgUp && (s.coeUp || s.obj Obj.ectAlState == 3)

/-- Why a file of the fabric or the image area is refused before its contents count. -/
def State.foeRefused (s : State) (password : Nat) : Option Nat :=
  if s.obj Obj.ectAlState = 3 then some 0x8009 else if password ≠ 0 || !s.owns .coe then some 0x8002 else none

/-- What a file has staged. -/
def State.stagedFile (s : State) (kind key : Nat) : List Byte :=
  match s.ect.transfer with
  | some t => if t.kind = kind ∧ t.key = key then t.data else []
  | none => []

/-- More of a file is staged. -/
def State.foeStage (s : State) (kind key : Nat) (d : List Byte) : State :=
  (s.setTransfer (some { kind := kind, key := key, data := d })).coeAnswers []

/-- Why IMAGE_CMD from the CoE path would be refused. -/
def State.loadRefused (s : State) (i : Nat) : Option Nat :=
  let w := wrOf .coe Obj.imageCmd 1 (i + 1)
  match s.portRefuses w with
  | some e => some e
  | none => match s.spelled w with
    | some (r, v) => s.lateCheck s .coe r w.key v
    | none => none

/-- FABRIC_FG and FABRIC_BG: the last part fills the staging buffer and begins the load. The answer waits for its end (key 1). -/
def State.foeFabric (s : State) (i password : Nat) (d : List Byte) (last : Bool) : State :=
  if !s.foeUp then s
  else match s.foeRefused password with
    | some e => s.foeFails e
    | none =>
      let file := s.stagedFile (1 + i) 0 ++ d
      if 98304 < file.length then s.foeFails 0x8003
      else if !last then s.foeStage (1 + i) 0 file
      else if ((s.setObj Obj.imageSource 0).loadRefused i).isSome then s.foeFails 0x800B
      else
        let s := (s.putDom Obj.imageStaging file).renewLease
        ({ s with imageJob := some { ctx := i, bytes := file } }).setObj Obj.imageCmd 1 |>.setTransfer (some { kind := 1 + i, key := 1 })

/-- The load that a file began has ended: PROGRAM_ERROR with IMAGE_RESULT when it failed. -/
def State.foeLoaded (s : State) : State :=
  match s.ect.transfer with
  | some t =>
    if (t.kind = 1 ∨ t.kind = 2) ∧ t.key = 1 ∧ s.imageJob.isNone then
      if s.obj Obj.imageCmd = 3 then (s.setTransfer none).coeAnswers []
      else
        let s := s.foeFails 0x800B
        { s with answer := { s.answer with data := s.answer.data ++ leBytes 1 (s.obj Obj.imageResult) } }
    else s
  | none => s

/-- AREA_nn: the last part begins the writing of the user entry. A name that is not of two decimal digits names no file: NOT_FOUND (R499). -/
def State.foeArea (s : State) (n password : Nat) (d : List Byte) (last : Bool) : State :=
  if !s.foeUp then s
  else if 100 ≤ n then s.foeFails 0x8001
  else match s.foeRefused password with
    | some e => s.foeFails e
    | none =>
      let file := s.stagedFile 3 n ++ d
      if 98304 < file.length then s.foeFails 0x8003
      else if !last then s.foeStage 3 n file
      else if (s.nvsRefused false).isSome || !s.areaFits file.length || (s.pastA0 && s.entryForbids Obj.areaWrite n) then
        (s.countNvsRefusal false).foeFails 0x8003
      else (((s.areaBegin Obj.areaWrite n file).renewLease).setTransfer none).coeAnswers []

/-- FIRMWARE: the vendor's check has passed or not at the last part. -/
def State.foeFirmware (s : State) (password : Nat) (d : List Byte) (last good : Bool) : State :=
  if !s.foeUp then s
  else if s.obj Obj.ectAlState ≠ 3 then s.foeFails 0x8008
  else if password ≠ 0 then s.foeFails 0x8002
  else if !last then s.foeStage 4 0 (s.stagedFile 4 0 ++ d)
  else if !good then s.foeFails 0x800B
  else ((s.setTransfer none).placeFirmware).coeAnswers []

/-! Sideband transfers (R501 to R505, R589). -/

/-- The write of a transfer, as the dictionary port takes it. -/
def sbWr (ix sb : Nat) (d : List Byte) : Wr :=
  { path := .sideband, index := ix, sub := sb, data := d, aligned := true, poisoned := false, form := .slot }

/-- A WRITE of a wrong size or format: refused LENGTH, if the object exists (R505, R696). -/
def State.sbWrongLength (s : State) (ix sb : Nat) (d : List Byte) : State :=
  match s.look .sideband ix sb with
  | .gone e => s.rejectWrite (sbWr ix sb d) 0 e false
  | .found _ => s.rejectWrite (sbWr ix sb d) 0 5 false

/-- A WRITE whose byte count is right: a numeric object, bytes for the staging buffer, or the commit of the buffer. -/
def State.sbWrites (s : State) (ix sb off : Nat) (d : List Byte) : State :=
  match s.look .sideband ix sb with
  | .gone _ => s.submit (sbWr ix sb d)
  | .found r =>
    if !r.bytes then (if off = 0 then s.submit (sbWr ix sb d) else s.rejectWrite (sbWr ix sb d) 0 5 false)
    else if !s.mgUp then s
    else if d.isEmpty then
      if off ≤ 65536 then s.submit (sbWr ix sb ((s.sb.staging ++ zeros (off - s.sb.staging.length)).take off))
      else s.rejectWrite (sbWr ix sb []) 0 5 false
    else if 65536 < off + d.length then s.rejectWrite (sbWr ix sb d) 0 6 false
    else ({ s with sb := { s.sb with staging := putBytes s.sb.staging off d } }).answerTo .sideband 0

/-- A transfer that begins with a code byte and writes; `pec` is the check of its PEC byte, where there is one. -/
def State.sbTransfer (s : State) (code ix sb off n : Nat) (d : List Byte) (pec : Option Bool) : State :=
  if !s.reachable then s
  else
    let s := s.bump Obj.sbTransfers
    if code ≠ 0x10 then (if code = 0x20 ∨ code = 0x30 then s else s.bump Obj.sbNacks)
    else if pec = some false then s.bump Obj.sbPecErrors
    else if (pec = none ∧ s.obj Obj.sbPec = 1) ∨ 32 < n ∨ d.length ≠ n then s.sbWrongLength ix sb d
    else s.sbWrites ix sb off d

/-- A READ: status, count and data. Strings and domains are read by the management core (R91), and not in a sample of DORMOUSE (R589). -/
def State.sbRead (s : State) (ix sb off n : Nat) : State :=
  if !s.reachable then s
  else
    let s := s.bump Obj.sbTransfers
    match s.readRefused .sideband ix sb n (off == 0) with
    | some e =>
      let s := s.rejectRead .sideband ix sb n e
      { s with answer := { s.answer with data := leBytes 1 e ++ leBytes 1 0 } }
    | none =>
      match s.look .sideband ix sb with
      | .gone _ => s
      | .found r =>
        if r.bytes && s.pwr.mode == 2 then { s with answer := { path := .sideband, reason := 9, data := leBytes 1 9 ++ leBytes 1 0 } }
        else if r.bytes && !s.mgUp then s
        else
          let d := ((s.readBytes r (ix * 0x100 + sb)).drop off).take n
          let s := s.registersRead .sideband ix [sb]
          { s with answer := { path := .sideband, data := leBytes 1 0 ++ leBytes 1 d.length ++ d } }

/-- A STATUS transfer. -/
def State.sbStatus (s : State) : State :=
  if !s.reachable then s
  else
    let s := s.bump Obj.sbTransfers
    { s with answer := { path := .sideband, data := leBytes 1 s.sb.result ++ leBytes 1 (s.view Obj.runPhase) ++ leBytes 1 (s.view Obj.bcnNow) ++
                           leBytes 1 (s.view Obj.sessionOwner) } }

/-- SCL is held low: the port releases SDA and ends the transfer (R501); held for 35 ms the sideband drops (R71). -/
def State.sbTimeout (s : State) (drop : Bool) : State :=
  if !s.reachable then s
  else
    let s := s.bump Obj.sbTimeouts
    if drop then s.dropSession .sideband else s

end Sys2Proof.Machine
end

