-- ==== Sys2Proof/Machine/FabricRows.lean ====
section
/-! DEFINITION. The commands of the mesh, the FE and service ports, contexts, images, scans, frames and the fault drain (R405 to R447). -/

namespace Sys2Proof.Machine

/-- FLIT_HOP (R405): the outputs are 0 north, 1 east, 2 south, 3 west, 4 delivery. -/
def execFlitHop (t : Fin 256) (out : Fin 5) (s : State) : Host.Outcome State Fault Refusal := runClocked s fun s => s.flitHop t out

/-- STALL_WATCHDOG (R422): the queue as SOURCE numbers it: 0 to 4 router inputs, 5 to 7 edge queues, 8 on inboxes. -/
def execStallWatchdog (t : Fin 256) (q : Fin 16) (s : State) : Host.Outcome State Fault Refusal := runClocked s fun s => s.stallWatchdog t q

/-- SEQ_PAIR (R411). -/
def execSeqPair (n : Fin 2) (s : State) : Host.Outcome State Fault Refusal := runClocked s fun s => if s.part = .ft4216 then s.seqPair n else s

/-- FE_READ (R412). -/
def execFeRead (e : Fin 16) (s : State) : Host.Outcome State Fault Refusal := runClocked s fun s => if s.ingressClosed then s else s.fePresent e .read

/-- FE_WRITE (R412). -/
def execFeWrite (e : Fin 16) (s : State) : Host.Outcome State Fault Refusal :=
  runClocked s fun s => if s.ingressClosed then s else s.fePresent e .write

/-- FE_WRITE_MASKED (R412). -/
def execFeWriteMasked (e : Fin 16) (s : State) : Host.Outcome State Fault Refusal :=
  runClocked s fun s => if s.ingressClosed then s else s.fePresent e .masked

/-- FE_FENCE (R412). -/
def execFeFence (e : Fin 16) (s : State) : Host.Outcome State Fault Refusal :=
  runClocked s fun s => if s.ingressClosed then s else s.fePresent e .fence

/-- FE_LOCK (R412). -/
def execFeLock (e : Fin 16) (s : State) : Host.Outcome State Fault Refusal := runClocked s fun s => if s.ingressClosed then s else s.fePresent e .lock

/-- FE_UNLOCK (R412). -/
def execFeUnlock (e : Fin 16) (s : State) : Host.Outcome State Fault Refusal :=
  runClocked s fun s => if s.ingressClosed then s else s.fePresent e .unlock

/-- FAB_RESPONSE (R417). -/
def execFabResponse (port : Fin 16) (s : State) : Host.Outcome State Fault Refusal := runClocked s fun s => s.fabResponse port

/-- START (R434). -/
def execCtxStart (p : Path) (i : Fin 2) (s : State) : Host.Outcome State Fault Refusal := run s fun s => s.write p (Obj.ctxCmd i) 1

/-- STOP (R434). -/
def execCtxStop (p : Path) (i : Fin 2) (s : State) : Host.Outcome State Fault Refusal := run s fun s => s.write p (Obj.ctxCmd i) 2

/-- UNLOAD (R434). -/
def execCtxUnload (p : Path) (i : Fin 2) (s : State) : Host.Outcome State Fault Refusal := run s fun s => s.write p (Obj.ctxCmd i) 3

/-- SWAP (R435). -/
def execCtxSwap (p : Path) (s : State) : Host.Outcome State Fault Refusal := run s fun s => s.write p Obj.swap 1

/-- LOAD_FG (R433). -/
def execLoadFg (p : Path) (s : State) : Host.Outcome State Fault Refusal := run s fun s => s.write p Obj.imageCmd 1

/-- LOAD_BG (R433). -/
def execLoadBg (p : Path) (s : State) : Host.Outcome State Fault Refusal := run s fun s => s.write p Obj.imageCmd 2

/-- IMAGE_LOAD_DONE (R433): an FoE write that caused the load is answered. -/
def execImageLoadDone (s : State) : Host.Outcome State Fault Refusal := runAwake s fun s => s.imageDone.foeLoaded

/-- OUT (R440). -/
def execScanOut (p : Path) (s : State) : Host.Outcome State Fault Refusal := run s fun s => s.write p Obj.scanCmd 1

/-- IN (R440). -/
def execScanIn (p : Path) (s : State) : Host.Outcome State Fault Refusal := run s fun s => s.write p Obj.scanCmd 2

/-- EXCHANGE (R440). -/
def execScanExchange (p : Path) (s : State) : Host.Outcome State Fault Refusal := run s fun s => s.write p Obj.scanCmd 3

/-- SCAN_DONE (R441): whether a parity error on a chain or in frame memory was found (R447). -/
def execScanDone (parity : Bool) (s : State) : Host.Outcome State Fault Refusal := runAwake s fun s => s.scanDone parity

/-- SAVE (R443). -/
def execFrameSave (p : Path) (f : Fin 8) (s : State) : Host.Outcome State Fault Refusal := run s fun s => s.write p (Obj.frameMove f) 1

/-- FETCH (R443). -/
def execFrameFetch (p : Path) (f : Fin 8) (s : State) : Host.Outcome State Fault Refusal := run s fun s => s.write p (Obj.frameMove f) 2

/-- FRAME_RELEASE (R443). -/
def execFrameRelease (p : Path) (f : Fin 8) (s : State) : Host.Outcome State Fault Refusal := run s fun s => s.write p (Obj.frameMove f) 3

/-- CLEAR (R443). -/
def execFrameClear (p : Path) (f : Fin 8) (s : State) : Host.Outcome State Fault Refusal := run s fun s => s.write p (Obj.frameMove f) 4

/-- FRAME_MOVE_DONE (R443). -/
def execFrameMoveDone (s : State) : Host.Outcome State Fault Refusal := runAwake s fun s => s.moveDone

/-- FAULT_DRAIN (R444). -/
def execFaultDrain (i : Fin 2) (s : State) : Host.Outcome State Fault Refusal := runAwake s fun s => s.faultDrain i

end Sys2Proof.Machine
end

