-- ==== Sys2Proof/Machine/FaultRows.lean ====
section
/-! DEFINITION. The commands of the error lines, Hedgehog, the first-trouble word and the management core's watchdog (R543 to R565, R507). -/

namespace Sys2Proof.Machine

/-- A line is raised by an event, with its source (R544, R545). -/
def State.lineRaised (s : State) (line inst bit : Nat) : State :=
  if s.awake || (s.pwr.mode == 2 && s.pwr.sampling) then s.raise line (sourceWord inst bit) else s

/-- BCN[6] toggles while the management core runs (R507). -/
def State.heartbeat (s : State) : State :=
  let s := s.advanceTo ((s.now / (500 * msTicks) + 1) * (500 * msTicks))
  if s.mgUp then s.setBit Obj.bcnNow 6 (!s.bit Obj.bcnNow 6) else s

/-- ERROR_LINE_RAISE (R548): the line, and the instance and bit of LAST_SOURCE. -/
def execErrorLineRaise (line : Fin 52) (inst bit : Fin 256) (s : State) : Host.Outcome State Fault Refusal :=
  run s fun s => s.lineRaised line inst bit

/-- HH_REQUEST (R555). -/
def execHhRequest (p : Path) (s : State) : Host.Outcome State Fault Refusal := run s fun s => s.write p Obj.hhRequest 1

/-- FLT_RESUME (R557). -/
def execFltResume (p : Path) (s : State) : Host.Outcome State Fault Refusal := run s fun s => s.write p Obj.fltResume 1

/-- FTW_CLEAR (R559). -/
def execFtwClear (p : Path) (v : BitVec 64) (s : State) : Host.Outcome State Fault Refusal := run s fun s => s.write p Obj.ftw v.toNat

/-- DIE_TEMP_SAMPLE (R546): in 0.1 degrees C. -/
def execDieTempSample (t : Int) (s : State) : Host.Outcome State Fault Refusal := runAwake s fun s => s.dieSample t

/-- MG_WATCHDOG (R547). -/
def execMgWatchdog (s : State) : Host.Outcome State Fault Refusal := runAwake s fun s => s.mgBites

/-- MG_RESTART_DONE (R547). -/
def execMgRestartDone (s : State) : Host.Outcome State Fault Refusal := runAwake s fun s => s.mgRestarts

/-- BCN_HEARTBEAT (R507). -/
def execBcnHeartbeat (s : State) : Host.Outcome State Fault Refusal := runAwake s fun s => s.heartbeat

end Sys2Proof.Machine
end

