-- ==== Sys2Proof/Machine/FieldRows.lean ====
section
/-! DEFINITION. The commands of the EtherCAT slave: AL states, SDO, the SM3 buffer, FoE and the E-Bus links (R493 to R500, R509, R510, R531). -/

namespace Sys2Proof.Machine

/-- AL_STATE_REQUEST (R495): the state the master asks for and what it has set in the slave controller. -/
def execAlStateRequest (new : Fin 16) (m : MasterSet) (s : State) : Host.Outcome State Fault Refusal := runAwake s fun s => s.alRequest new m

/-- SDO_DOWNLOAD (R496): the subindices it carries with their bytes, and whether it is the last segment. -/
def execSdoDownload (index : Nat) (parts : List (Nat × List Byte)) (last : Bool) (s : State) : Host.Outcome State Fault Refusal :=
  run s fun s => s.sdoDownload index parts last

/-- SDO_UPLOAD (R496). -/
def execSdoUpload (index sub : Nat) (complete : Bool) (s : State) : Host.Outcome State Fault Refusal := run s fun s => s.sdoUpload index sub complete

/-- SDO_INFORMATION (R496): 0 the OD list, 1 an object description, 2 an entry description. -/
def execSdoInformation (service : Fin 3) (index sub : Nat) (s : State) : Host.Outcome State Fault Refusal :=
  run s fun s => s.sdoInfo service index sub

/-- MAILBOX_UNSUPPORTED (R493). -/
def execMailboxUnsupported (s : State) : Host.Outcome State Fault Refusal := runAwake s fun s => s.mailboxError

/-- PDO_SAMPLE (R497). -/
def execPdoSample (taken : Bool) (s : State) : Host.Outcome State Fault Refusal := runAwake s fun s => s.pdoSample taken

/-- FABRIC_FG (R499): a part of the file. -/
def execFoeFabricFg (password : BitVec 32) (data : List Byte) (last : Bool) (s : State) : Host.Outcome State Fault Refusal :=
  run s fun s => s.foeFabric 0 password.toNat data last

/-- FABRIC_BG (R499): a part of the file. -/
def execFoeFabricBg (password : BitVec 32) (data : List Byte) (last : Bool) (s : State) : Host.Outcome State Fault Refusal :=
  run s fun s => s.foeFabric 1 password.toNat data last

/-- AREA_FILE_WRITE (R499): a part of the file AREA_n; a number above 99 stands for any name that no file has. -/
def execAreaFileWrite (n : Nat) (password : BitVec 32) (data : List Byte) (last : Bool) (s : State) : Host.Outcome State Fault Refusal :=
  run s fun s => s.foeArea n password.toNat data last

/-- FIRMWARE (R531): a part of the package, and whether it passes the vendor's check. -/
def execFoeFirmware (password : BitVec 32) (data : List Byte) (last good : Bool) (s : State) : Host.Outcome State Fault Refusal :=
  run s fun s => s.foeFirmware password.toNat data last good

/-- PD_WATCHDOG (R510). -/
def execPdWatchdog (s : State) : Host.Outcome State Fault Refusal := runAwake s fun s => s.pdExpires

/-- EBUS_LINK_CHANGE (R493). -/
def execEbusLinkChange (port : Fin 2) (up : Bool) (s : State) : Host.Outcome State Fault Refusal := run s fun s => s.ebusLink port up

end Sys2Proof.Machine
end

