-- ==== Sys2Proof/Machine/HostRows.lean ====
section
/-! DEFINITION. The commands of the PCI Express port and its host queues (R480 to R492, R509 to R515). -/

namespace Sys2Proof.Machine

/-- The AER bit of an error; correctable ones from 32 on (R491). -/
def aerBit : PcieErr → Nat
  | .dataLink => 4 | .poisoned => 12 | .flowControl => 13 | .overflow => 17 | .malformed => 18 | .unsupported => 20
  | .receiver => 32 | .badTlp => 38 | .badDllp => 39 | .replayRollover => 40 | .replayTimeout => 44

/-- An error that the link detects. -/
def State.linkError (s : State) (e : PcieErr) : State :=
  if !s.bit Obj.pcieLink 9 then s else if e = .poisoned then s.poisonedTlp else s.pcieError (aerBit e)

/-- The registers of a command page take a COMMAND write, with the link up (R488). -/
def State.hostCommandTlp (s : State) (q op addr range lease : Nat) : State :=
  if !s.bit Obj.pcieLink 9 then s else s.pageCommand q op addr range lease

/-- PCIE_RETRAIN is written, and with the link up the retrain ends at a speed. -/
def State.retrainCommand (s : State) (p : Path) (speed : Nat) : State :=
  let s := s.write p Obj.pcieRetrain 1
  if s.obj Obj.pcieRetrain = 1 then s.pcieRetrains speed else s

/-- A reset of the function; a Function Level Reset or a hot reset comes over the link. -/
def State.functionResets (s : State) (why : Nat) : State :=
  if why < 2 && !s.bit Obj.pcieLink 9 then s else s.pcieReset why

/-- BAR2_WRITE (R484): the offset in BAR2, the payload, its byte enables, and the Relaxed Ordering and poisoned bits. -/
def execBar2Write (off : BitVec 36) (data : List Byte) (enables : Nat) (relaxed poisoned : Bool) (s : State) : Host.Outcome State Fault Refusal :=
  runIngress s fun s => s.bar2Write off.toNat data enables relaxed poisoned

/-- BAR2_READ (R486). -/
def execBar2Read (off : BitVec 36) (len : Nat) (s : State) : Host.Outcome State Fault Refusal := runIngress s fun s => s.bar2Read off.toNat len

/-- HQ_MERGE_WAIT_EXPIRY (R485). -/
def execHqMergeWaitExpiry (q : Fin 4) (s : State) : Host.Outcome State Fault Refusal := runClocked s fun s => s.mergeExpiry q

/-- HQ_WINDOW_BASE (R483). -/
def execHqWindowBase (p : Path) (q : Fin 4) (v : BitVec 64) (s : State) : Host.Outcome State Fault Refusal :=
  run s fun s => s.write p (Obj.hqWindowBase q) v.toNat

/-- HQ_ENABLE (R509). -/
def execHqEnable (p : Path) (q : Fin 4) (v : BitVec 8) (s : State) : Host.Outcome State Fault Refusal :=
  run s fun s => s.write p (Obj.hqEnable q) v.toNat

/-- HQ_FENCE (R488). -/
def execHqFence (q : Fin 4) (s : State) : Host.Outcome State Fault Refusal :=
  runIngress s fun s => s.hostCommandTlp q 4 (s.hq q).addr (s.hq q).range (s.hq q).lease

/-- HQ_LOCK (R488): the page's ADDRESS, RANGE and LEASE. -/
def execHqLock (q : Fin 4) (addr : BitVec 40) (range : BitVec 24) (lease : BitVec 10) (s : State) : Host.Outcome State Fault Refusal :=
  runIngress s fun s => s.hostCommandTlp q 5 addr.toNat range.toNat lease.toNat

/-- HQ_UNLOCK (R488): the page's ADDRESS. -/
def execHqUnlock (q : Fin 4) (addr : BitVec 40) (s : State) : Host.Outcome State Fault Refusal :=
  runIngress s fun s => s.hostCommandTlp q 6 addr.toNat (s.hq q).range (s.hq q).lease

/-- PCIE_FUNCTION_RESET (R492): 0 Function Level Reset, 1 hot reset, 2 DL_Down, 3 PCIE_PERST_N asserted. -/
def execPcieFunctionReset (why : Fin 4) (s : State) : Host.Outcome State Fault Refusal := run s fun s => s.functionResets why

/-- PCIE_ERROR (R491). -/
def execPcieError (e : PcieErr) (s : State) : Host.Outcome State Fault Refusal := runAwake s fun s => s.linkError e

/-- PCIE_RETRAIN (R515): the speed the link comes back at. -/
def execPcieRetrain (p : Path) (speed : Fin 6) (s : State) : Host.Outcome State Fault Refusal := run s fun s => s.retrainCommand p speed

/-- PCIE_PERST_N_DEASSERT (R632). -/
def execPciePerstNDeassert (s : State) : Host.Outcome State Fault Refusal := run s fun s => s.perstReleased

/-- PCIE_LINK_UP (R480, R490): the link trains at one of the widths of R480. -/
def execPcieLinkUp (speed : Fin 6) (width : Fin 17) (s : State) : Host.Outcome State Fault Refusal :=
  runAwake s fun s => if s.bit Obj.pcieLink 9 || !linkWidths.contains width.val then s else s.pcieLinkUp speed width

/-- PCIE_CONFIG_REQUEST (R513). -/
def execPcieConfigRequest (d3 bme msixEnable msixMask : Bool) (severity : BitVec 32) (s : State) : Host.Outcome State Fault Refusal :=
  runAwake s fun s => s.configRequest d3 bme msixEnable msixMask severity.toNat

/-- MSIX_MASK_WRITE (R490). -/
def execMsixMaskWrite (vector : Fin 64) (masked : Bool) (s : State) : Host.Outcome State Fault Refusal :=
  runAwake s fun s => if s.bit Obj.pcieLink 9 then s.maskVector vector masked else s

end Sys2Proof.Machine
end

