-- ==== Sys2Proof/Machine/MessageRows.lean ====
section
/-! DEFINITION. The commands of the message channels and the MB ports (R455 to R479). -/

namespace Sys2Proof.Machine

/-- A write to page m of BAR4, in words from word w of the page (R473): the registers in ascending order, one write each on consecutive c; the words past the
registers, but for MSG_GO and MSG_RELEASE, take no write. -/
def State.pageWrite (s : State) (m w : Nat) (values : List (BitVec 32)) (aligned poisoned : Bool) : State :=
  let wr (sub v : Nat) : Wr :=
    { path := .pcie, index := 0x4400 + m, sub := sub, data := leBytes 4 v, aligned := aligned, poisoned := poisoned, form := .slot }
  if !s.pathUp .pcie then s
  else if values.length = 0 then s
  else if w + values.length ≤ 16 ∧ aligned then
    (values.zipIdx).foldl (fun t x => (t.when (x.2 != 0) fun u => u.advanceCyc (u.cyc + 1)).submit (wr (w + x.2 + 1) x.1.toNat)) s
  else if values.length = 1 ∧ (w = 16 ∨ w = 17) then s.submit (wr (w + 1) (values.headD 0).toNat)
  else s.rejectWrite (wr (w + 1) 0) 0 (if 20 ≤ w then 2 else if values.length = 1 ∧ aligned ∧ (w = 18 ∨ w = 19) then 3 else 5) false

/-- A write of registers REGi on by a path: through a page of BAR4, or by one SDO or transfer. -/
def State.registersWritten (s : State) (p : Path) (m w : Nat) (values : List (BitVec 32)) (aligned poisoned : Bool) : State :=
  match p with
  | .pcie => s.pageWrite m w values aligned poisoned
  | .coe => (s.submitGroup ((values.zipIdx).map fun x => wrOf .coe (Obj.msgReg m (w + x.2)) 4 x.1.toNat)).pumpHosts
  | _ => match values with
    | v :: _ => s.write p (Obj.msgReg m w) v.toNat
    | [] => s

/-- MSG_REG_WRITE (R461): the values of the words from w on, and for BAR4 whether the request is whole words and whether it is poisoned. -/
def execMsgRegWrite (p : Path) (m : Fin 32) (w : Fin 64) (values : List (BitVec 32)) (aligned poisoned : Bool) (s : State) : Host.Outcome State Fault Refusal :=
  run s fun s => s.registersWritten p m w values aligned poisoned

/-- MSG_GO (R458). -/
def execMsgGo (p : Path) (m : Fin 32) (s : State) : Host.Outcome State Fault Refusal := run s fun s => s.write p (Obj.msgGo m) 1

/-- MSG_RELEASE (R463). -/
def execMsgRelease (p : Path) (m : Fin 32) (s : State) : Host.Outcome State Fault Refusal := run s fun s => s.write p (Obj.msgRelease m) 1

/-- MSG_CONSUMING_READ (R462, R473): a read in a channel's page of BAR4, or of its registers over CoE or the sideband; it consumes when it takes in
the last register. -/
def execMsgConsumingRead (p : Path) (r : RegisterRead) (s : State) : Host.Outcome State Fault Refusal :=
  run s fun s => match p with
    | .pcie => s.pageRead r.m r.b r.n
    | _ => s.registersGive p r.m r.b r.n

/-- MSG_TIMEOUT_EXPIRY (R467). -/
def execMsgTimeoutExpiry (m : Fin 32) (s : State) : Host.Outcome State Fault Refusal := runAwake s fun s => s.msgTimeoutEnds m

/-- FILL_EXPIRY (R461). -/
def execFillExpiry (m : Fin 32) (s : State) : Host.Outcome State Fault Refusal := runAwake s fun s => s.fillExpires m

/-- DOORBELL_PENDING_SEND (R465). -/
def execDoorbellPendingSend (m : Fin 32) (s : State) : Host.Outcome State Fault Refusal := runAwake s fun s => s.doorbellDue m

/-- MB_SEND (R468): the words wait behind a write that holds the dictionary write port (R81, R456). -/
def execMbSend (q : Fin 4) (s : State) : Host.Outcome State Fault Refusal :=
  runClocked s fun s => if s.port.held.isEmpty then s.mbSend q (s.edgeOutQ (mbPort q)).length else s

/-- MB_RELEASE (R468), behind a write that holds the dictionary write port. -/
def execMbRelease (q : Fin 4) (s : State) : Host.Outcome State Fault Refusal :=
  runClocked s fun s => if s.port.held.isEmpty then s.mbRelease q else s

/-- MSG_ENABLE (R476). -/
def execMsgEnable (p : Path) (m : Fin 32) (v : BitVec 8) (s : State) : Host.Outcome State Fault Refusal :=
  run s fun s => s.write p (Obj.msgEnable m) v.toNat

end Sys2Proof.Machine
end

