-- ==== Sys2Proof/Machine/PowerRows.lean ====
section
/-! DEFINITION. The commands of the power states: requests, the entry handshake, wakes, Owl, the pad latch and the DORMOUSE sampler (R566 to R598). -/

namespace Sys2Proof.Machine

/-- REQUEST_RUN (R570). -/
def execRequestRun (p : Path) (s : State) : Host.Outcome State Fault Refusal := run s fun s => s.write p Obj.pwrRequest 0

/-- REQUEST_DOZE (R571). -/
def execRequestDoze (p : Path) (s : State) : Host.Outcome State Fault Refusal := run s fun s => s.write p Obj.pwrRequest 1

/-- REQUEST_DORMOUSE (R574). -/
def execRequestDormouse (p : Path) (s : State) : Host.Outcome State Fault Refusal := run s fun s => s.write p Obj.pwrRequest 2

/-- REQUEST_RETAIN (R574). -/
def execRequestRetain (p : Path) (s : State) : Host.Outcome State Fault Refusal := run s fun s => s.write p Obj.pwrRequest 3

/-- REQUEST_WATCH (R574). -/
def execRequestWatch (p : Path) (s : State) : Host.Outcome State Fault Refusal := run s fun s => s.write p Obj.pwrRequest 4

/-- HANDSHAKE_REPLY (R575): the participants whose replies arrive on one c; each replies as its conditions stand (R576). -/
def execHandshakeReply (participants : List Nat) (s : State) : Host.Outcome State Fault Refusal := runAwake s fun s => s.handshakeReply participants

/-- REASK_TIMER (R575). -/
def execReaskTimer (s : State) : Host.Outcome State Fault Refusal := runAwake s fun s => s.reask

/-- ASK_TIMEOUT (R595). -/
def execAskTimeout (participant : Nat) (s : State) : Host.Outcome State Fault Refusal := runAwake s fun s => s.askTimeout participant

/-- ENTRY_DELAY_EXPIRY (R575). -/
def execEntryDelayExpiry (s : State) : Host.Outcome State Fault Refusal := runAwake s fun s => s.delayExpires

/-- ABORT_POINT_REACHED (R577). -/
def execAbortPointReached (s : State) : Host.Outcome State Fault Refusal := runAwake s fun s => s.abortPoint

/-- STEP_OVERRUN (R595). -/
def execStepOverrun (s : State) : Host.Outcome State Fault Refusal := runAwake s fun s => s.stepOverrun

/-- STORM_HOLDOFF_END (R596). -/
def execStormHoldoffEnd (s : State) : Host.Outcome State Fault Refusal := runAwake s fun s => s.stormEnds

/-- DOZE_WAKE (R572): the wake ends; without an event before, activity at an ingress is the event. -/
def execDozeWake (s : State) : Host.Outcome State Fault Refusal := runAwake s fun s => s.requestWakes.dozeWakes

/-- WAKE_N (R582): the level of the pin. -/
def execWakeN (low : Bool) (s : State) : Host.Outcome State Fault Refusal := run s fun s => s.wakePin low

/-- OWL_MATCH (R587): the address byte that Owl shifts in. -/
def execOwlMatch (address : BitVec 7) (rw : Bool) (s : State) : Host.Outcome State Fault Refusal := run s fun s => s.owlMatch address.toNat (b2n rw)

/-- OWL_RELEASE (R588). -/
def execOwlRelease (s : State) : Host.Outcome State Fault Refusal := run s fun s => s.owlRelease

/-- WAKE_COMPLETE (R583). -/
def execWakeComplete (s : State) : Host.Outcome State Fault Refusal := run s fun s => s.wakeCompletes

/-- PAD_RELEASE (R581). -/
def execPadRelease (p : Path) (s : State) : Host.Outcome State Fault Refusal := run s fun s => s.write p Obj.padRelease 1

/-- DM_SAMPLE (R589): the die temperature in 0.1 degrees C, VIN and VHOLD in mV, the two bytes each sensor answers (none for a NACK), and the time. -/
def execDmSample (temp : Int) (vin vhold : Nat) (sensors : List (Option (Nat × Nat))) (us : Nat) (s : State) : Host.Outcome State Fault Refusal :=
  run s fun s => s.dmSample temp vin vhold sensors us

end Sys2Proof.Machine
end

