-- ==== Sys2Proof/Machine/ProbeRows.lean ====
section
/-! DEFINITION. The commands of the probe channels and their supplies: enables and curls, the sequencer, mode registers, DUT power, calibration,
compare and fail capture (R329 to R397). -/

namespace Sys2Proof.Machine

/-- A command of a probe channel, on the part that has them. -/
def runProbe (s : State) (f : State → State) : Host.Outcome State Fault Refusal :=
  runAwake s fun t => if t.part = .ft4216 then f t else t

/-- A calibration that a channel wants starts by itself (R377). -/
def State.calAutoStarts (s : State) (n : Nat) : State :=
  match s.calWanted n with
  | some full => s.calStart n full false
  | none => s

/-- PB_ENABLE (R332). -/
def execPbEnable (p : Path) (n : Fin 2) (v : BitVec 8) (s : State) : Host.Outcome State Fault Refusal :=
  run s fun s => s.write p (Obj.pbEnable n) v.toNat

/-- PB_CURL_OUTPUTS (R351). -/
def execPbCurlOutputs (p : Path) (n : Fin 2) (s : State) : Host.Outcome State Fault Refusal :=
  run s fun s => s.write p (Obj.pbCurl n) 1

/-- PB_CURL_DISCHARGE (R351). -/
def execPbCurlDischarge (p : Path) (n : Fin 2) (s : State) : Host.Outcome State Fault Refusal :=
  run s fun s => s.write p (Obj.pbCurl n) 2

/-- BURST_START (R333). -/
def execBurstStart (n : Fin 2) (s : State) : Host.Outcome State Fault Refusal :=
  runProbe s fun s => s.burstStart n

/-- COMMAND (R334, R335, R339): whether write data has reached the sequencer, and what the sites answer to an MRR. -/
def execPbCommand (n : Fin 2) (dataReady : Bool) (mrr : List Byte) (s : State) : Host.Outcome State Fault Refusal :=
  runProbe s fun s => s.sequence n .command dataReady mrr

/-- WAIT (R334). -/
def execPbWait (n : Fin 2) (s : State) : Host.Outcome State Fault Refusal :=
  runProbe s fun s => s.sequence n .wait true []

/-- RESET_ASSERT (R334). -/
def execPbResetAssert (n : Fin 2) (s : State) : Host.Outcome State Fault Refusal :=
  runProbe s fun s => s.sequence n .resetAssert true []

/-- RESET_RELEASE (R334). -/
def execPbResetRelease (n : Fin 2) (s : State) : Host.Outcome State Fault Refusal :=
  runProbe s fun s => s.sequence n .resetRelease true []

/-- MARK (R334). -/
def execPbMark (n : Fin 2) (s : State) : Host.Outcome State Fault Refusal :=
  runProbe s fun s => s.sequence n .mark true []

/-- END (R334). -/
def execPbEnd (n : Fin 2) (s : State) : Host.Outcome State Fault Refusal :=
  runProbe s fun s => s.sequence n .fin true []

/-- CK_STOP (R334). -/
def execPbCkStop (n : Fin 2) (s : State) : Host.Outcome State Fault Refusal :=
  runProbe s fun s => s.sequence n .ckStop true []

/-- CK_START (R334). -/
def execPbCkStart (n : Fin 2) (s : State) : Host.Outcome State Fault Refusal :=
  runProbe s fun s => s.sequence n .ckStart true []

/-- UNDERRUN (R339). -/
def execPbUnderrun (n : Fin 2) (s : State) : Host.Outcome State Fault Refusal :=
  runProbe s fun s => s.underrun n

/-- MR_WRITE (R344). -/
def execMrWrite (p : Path) (n : Fin 2) (s : State) : Host.Outcome State Fault Refusal :=
  run s fun s => s.write p (Obj.mrCmd n) 1

/-- MR_READ (R344). -/
def execMrRead (p : Path) (n : Fin 2) (s : State) : Host.Outcome State Fault Refusal :=
  run s fun s => s.write p (Obj.mrCmd n) 2

/-- DUT_POWER_UP (R346, R624): the phases that pass the self-test of the first DUT_POWER UP after a cold start. -/
def execDutPowerUp (p : Path) (n : Fin 2) (pass : Fin 64) (s : State) : Host.Outcome State Fault Refusal :=
  run s fun s =>
    let t := s.write p (Obj.dutPower n) 1
    if s.powerIs n psOff && t.powerIs n psUp then t.dutSelfTest n pass else t

/-- DUT_POWER_DOWN (R347). -/
def execDutPowerDown (p : Path) (n : Fin 2) (s : State) : Host.Outcome State Fault Refusal :=
  run s fun s => s.write p (Obj.dutPower n) 2

/-- DUT_POWER_GOOD (R346). -/
def execDutPowerGood (n : Fin 2) (s : State) : Host.Outcome State Fault Refusal :=
  runProbe s fun s => s.dutGood n

/-- SETPOINT (R348). -/
def execDutSetpoint (p : Path) (n : Fin 2) (k : Fin 3) (v : BitVec 16) (s : State) : Host.Outcome State Fault Refusal :=
  run s fun s => s.write p (Obj.setpoint n k) v.toNat

/-- SUPPLY_SAMPLE (R350): remote and local voltage in 0.1 mV, and current in mA. -/
def execSupplySample (n : Fin 2) (k : Fin 3) (remote local' milliamps : Nat) (s : State) : Host.Outcome State Fault Refusal :=
  runProbe s fun s => s.supplySample n k remote local' milliamps

/-- SUPPLY_FAULT (R356): 0 overcurrent, 1 undervoltage, 2 overvoltage, 3 sense open. -/
def execSupplyFault (n : Fin 2) (k : Fin 3) (kind : Fin 4) (hard : Bool) (s : State) : Host.Outcome State Fault Refusal :=
  runProbe s fun s => s.supplyFault n k kind hard

/-- CLAMP_EVENT (R355). -/
def execClampEvent (n : Fin 2) (s : State) : Host.Outcome State Fault Refusal :=
  runProbe s fun s => s.clampEvent n

/-- CLAMP_CONDUCTION_END (R544). -/
def execClampConductionEnd (n : Fin 2) (s : State) : Host.Outcome State Fault Refusal :=
  runProbe s fun s => s.endCause (16 + 4 * n) 0

/-- PROBE_ALERT (R354). -/
def execProbeAlert (n : Fin 2) (site : Fin 8) (s : State) : Host.Outcome State Fault Refusal :=
  runProbe s fun s => s.probeAlert n site

/-- TRACK_RESET (R366). -/
def execTrackReset (p : Path) (n : Fin 2) (k : Fin 3) (v : BitVec 8) (s : State) : Host.Outcome State Fault Refusal :=
  run s fun s => s.write p (Obj.trackReset n k) v.toNat

/-- DUT_SUPPLY_DISCHARGED (R347, R351). -/
def execDutSupplyDischarged (n : Fin 2) (us : Nat) (s : State) : Host.Outcome State Fault Refusal :=
  runProbe s fun s => s.dutDischarged n us

/-- MR_CMD_COMPLETE (R344): what the sites answered to a READ, and the time it took. -/
def execMrCmdComplete (n : Fin 2) (answers : List Byte) (ns : Nat) (s : State) : Host.Outcome State Fault Refusal :=
  runProbe s fun s => s.mrDone n answers ns

/-- CAL_FULL (R373). -/
def execCalFull (p : Path) (n : Fin 2) (s : State) : Host.Outcome State Fault Refusal :=
  run s fun s => s.write p (Obj.calCmd n) 1

/-- CAL_TRACK (R373). -/
def execCalTrack (p : Path) (n : Fin 2) (s : State) : Host.Outcome State Fault Refusal :=
  run s fun s => s.write p (Obj.calCmd n) 2

/-- CAL_COMPLETE (R375). -/
def execCalComplete (n : Fin 2) (pass : Bool) (worst temp us : Nat) (s : State) : Host.Outcome State Fault Refusal :=
  runProbe s fun s => s.calDone n pass worst temp us

/-- REPLICA_MEASURE (R376). -/
def execReplicaMeasure (n : Fin 2) (drift temp : BitVec 16) (s : State) : Host.Outcome State Fault Refusal :=
  runProbe s fun s => s.replica n drift.toNat temp.toNat

/-- CAL_AUTO_START (R377). -/
def execCalAutoStart (n : Fin 2) (s : State) : Host.Outcome State Fault Refusal :=
  runProbe s fun s => s.calAutoStarts n

/-- EXPECTED_ENTRY (R381). -/
def execExpectedEntry (n : Fin 2) (s : State) : Host.Outcome State Fault Refusal :=
  runProbe s fun s => s.expectedEntry n

/-- DBURST_COMPARE (R384): what the strobes sampled, and the second strobe of the window. -/
def execDburstCompare (n : Fin 2) (samples second : List Byte) (s : State) : Host.Outcome State Fault Refusal :=
  runProbe s fun s => s.dburst n samples second

/-- CAPTURE_DELIVER (R385). -/
def execCaptureDeliver (n : Fin 2) (site : Fin 8) (s : State) : Host.Outcome State Fault Refusal :=
  runProbe s fun s => s.capDeliver n site

/-- FAIL_HOLD_EXPIRY (R389). -/
def execFailHoldExpiry (n : Fin 2) (s : State) : Host.Outcome State Fault Refusal :=
  runProbe s fun s => s.failHoldEnds n

/-- FAIL_CLEAR (R389). -/
def execFailClear (p : Path) (n : Fin 2) (v : BitVec 8) (s : State) : Host.Outcome State Fault Refusal :=
  run s fun s => s.write p (Obj.failClear n) v.toNat

/-- FF_ARM (R387). -/
def execFfArm (p : Path) (n : Fin 2) (site : Fin 8) (v : BitVec 8) (s : State) : Host.Outcome State Fault Refusal :=
  run s fun s => s.write p (Obj.ffArm n site) v.toNat

end Sys2Proof.Machine
end

