-- ==== Sys2Proof/Machine/RegulatorRows.lean ====
section
/-! DEFINITION. The commands of the regulators and the hold-up bank (R599 to R627, R641 to R644). -/

namespace Sys2Proof.Machine

/-- VCORE_TRIM (R603). -/
def execVcoreTrim (p : Path) (op : Fin 4) (v : BitVec 16) (s : State) : Host.Outcome State Fault Refusal :=
  run s fun s => s.write p (Obj.vcoreTrimOp op) v.toNat

/-- LOADLINE_STEP (R604): every monitor reports margin above its upper threshold, or one reports margin below its lower. -/
def execLoadlineStep (high low : Bool) (s : State) : Host.Outcome State Fault Refusal := runAwake s fun s => s.loadlineStep high low

/-- MARGIN_ALARM (R604). -/
def execMarginAlarm (s : State) : Host.Outcome State Fault Refusal := runAwake s fun s => s.marginAlarm

/-- PHASE_OPEN (R605): supply 0 is VCORE, 1 to 4 the switching supplies of the probe channels. -/
def execPhaseOpen (u : Fin 5) (phase : Fin 6) (s : State) : Host.Outcome State Fault Refusal := run s fun s => s.phaseOpen u phase

/-- SENSE_CHECK (R606): the readings of the phases and the current the input side gives, in mA. -/
def execSenseCheck (u : Fin 5) (readings : List Nat) (expected : Nat) (s : State) : Host.Outcome State Fault Refusal :=
  run s fun s => s.senseCheck u readings expected

/-- FOLDBACK_ENTRY (R608). -/
def execFoldbackEntry (u : Fin 5) (s : State) : Host.Outcome State Fault Refusal := run s fun s => s.foldbackEntry u

/-- FOLDBACK_EXIT (R608). -/
def execFoldbackExit (u : Fin 5) (s : State) : Host.Outcome State Fault Refusal := run s fun s => s.foldbackExit u

/-- FOLDBACK_SHUTDOWN (R622). -/
def execFoldbackShutdown (s : State) : Host.Outcome State Fault Refusal := run s fun s => s.foldbackShutdown

/-- PHASE_RESTORE (R609). -/
def execPhaseRestore (p : Path) (s : State) : Host.Outcome State Fault Refusal := run s fun s => s.write p Obj.phaseRestore 1

/-- DUT_PHASE_RESTORE (R609). -/
def execDutPhaseRestore (p : Path) (n : Fin 2) (s : State) : Host.Outcome State Fault Refusal := run s fun s => s.write p (Obj.dutPhaseRestore n) 1

/-- PHASE_RESTORE_DONE (R609): 0 for VCORE, 1 or 2 for a probe channel; the phases that pass, and the time. -/
def execPhaseRestoreDone (i : Fin 3) (pass : Fin 64) (us : Nat) (s : State) : Host.Outcome State Fault Refusal :=
  run s fun s => s.restoreDone i pass us

/-- VIN_LOSS (R641). -/
def execVinLoss (s : State) : Host.Outcome State Fault Refusal := run s fun s => s.vinLoss

/-- VIN_RETURN (R643). -/
def execVinReturn (s : State) : Host.Outcome State Fault Refusal := run s fun s => s.vinReturn

/-- VIN_SLEEP (R644). -/
def execVinSleep (s : State) : Host.Outcome State Fault Refusal := run s fun s => s.vinSleeps

/-- FULL_CHARGE_POINT (R615). -/
def execFullChargePoint (s : State) : Host.Outcome State Fault Refusal := run s fun s => s.fullCharge

/-- CHARGE_FAIL (R615). -/
def execChargeFail (s : State) : Host.Outcome State Fault Refusal := run s fun s => s.chargeFail

/-- HOLDUP_ESTIMATE (R617): VIN and the voltage of the bank in mV, and the charge that flowed in since the last estimate. -/
def execHoldupEstimate (vin v : Nat) (flow : Int) (s : State) : Host.Outcome State Fault Refusal := run s fun s => s.holdupEstimate vin v flow

/-- HOLDUP_TEST (R619): a write of HOLDUP_TEST, or the end of HOLDUP_TEST_PERIOD. -/
def execHoldupTest (path : Option Path) (s : State) : Host.Outcome State Fault Refusal :=
  run s fun s => match path with
    | some p => s.write p Obj.holdupTest 1
    | none => s.periodTest

/-- HOLDUP_TEST_DONE (R619): the fall of the voltage in mV. -/
def execHoldupTestDone (fall : Nat) (s : State) : Host.Outcome State Fault Refusal := run s fun s => s.testDone fall

end Sys2Proof.Machine
end

