-- ==== Sys2Proof/Machine/ResetRows.lean ====
section
/-! DEFINITION. The commands of start-up, resets, and shutdowns (R628 to R654, R692, R693). -/

namespace Sys2Proof.Machine

/-- POWER_ON (R632): whether VIN is present. -/
def execPowerOn (vin : Bool) (s : State) : Host.Outcome State Fault Refusal := run s fun s => s.powerOn vin

/-- REF_CLK_VALID (R52): the VCORE phases that pass the self-test, and which firmware bank passes: the new one, the running one. -/
def execRefClkValid (pass : Fin 64) (newFw running : Bool) (s : State) : Host.Outcome State Fault Refusal :=
  run s fun s => s.refClkValid pass newFw running

/-- BOOT_COMPLETE (R94): the DIMMs of each channel. -/
def execBootComplete (population : List (List Dimm)) (s : State) : Host.Outcome State Fault Refusal := run s fun s => s.bootCompletes population

/-- COLD_RESET (R639). -/
def execColdReset (s : State) : Host.Outcome State Fault Refusal := run s fun s => s.coldDetected 2

/-- WARM_RESET (R634). -/
def execWarmReset (s : State) : Host.Outcome State Fault Refusal := run s fun s => s.warmDetected 4

/-- WARM_RESET_RELEASE (R636): whether a new firmware passes its check. -/
def execWarmResetRelease (newFw : Bool) (s : State) : Host.Outcome State Fault Refusal := run s fun s => s.warmReleased newFw

/-- RESET_CMD_WARM (R629). -/
def execResetCmdWarm (p : Path) (s : State) : Host.Outcome State Fault Refusal := run s fun s => s.write p Obj.resetCmd 1

/-- RESET_CMD_COLD (R629). -/
def execResetCmdCold (p : Path) (s : State) : Host.Outcome State Fault Refusal := run s fun s => s.write p Obj.resetCmd 2

/-- VAUX_LOSS (R692). -/
def execVauxLoss (s : State) : Host.Outcome State Fault Refusal := run s fun s => s.vauxLoss

/-- RAIL_COLLAPSE (R651). -/
def execRailCollapse (s : State) : Host.Outcome State Fault Refusal := run s fun s => s.railCollapse

/-- THERMAL_SHUTDOWN (R693). -/
def execThermalShutdown (s : State) : Host.Outcome State Fault Refusal := run s fun s => s.thermalShutdown

/-- SELFTEST_RETRY (R649). -/
def execSelftestRetry (pass : Fin 64) (running : Bool) (s : State) : Host.Outcome State Fault Refusal := run s fun s => s.selfTestAgain pass running

/-- COLD_RESET_RELEASE (R639). -/
def execColdResetRelease (s : State) : Host.Outcome State Fault Refusal := run s fun s => s.coldReleased

/-- THERMAL_WAKE_RELEASE (R693). -/
def execThermalWakeRelease (s : State) : Host.Outcome State Fault Refusal := run s fun s => s.thermalRelease

end Sys2Proof.Machine
end

