-- ==== Sys2Proof/Machine/SettingsRows.lean ====
section
/-! DEFINITION. The commands of the settings store (R518 to R542). -/

namespace Sys2Proof.Machine

/-- The object a store or restore is written to: of the profile (0x1010, 0x1011) or at 0x2300. -/
def saveKey (profile restore : Bool) (i : Nat) : Nat :=
  if profile then (if restore then 0x101101 else 0x101001) + i else if restore then Obj.nvsLoad i else Obj.nvsSave i

/-- STORE (R528). -/
def execNvsStore (p : Path) (profile : Bool) (i : Fin 4) (s : State) : Host.Outcome State Fault Refusal :=
  run s fun s => s.write p (saveKey profile false i) saveWord

/-- RESTORE (R526). -/
def execNvsRestore (p : Path) (profile : Bool) (i : Fin 4) (s : State) : Host.Outcome State Fault Refusal :=
  run s fun s => s.write p (saveKey profile true i) loadWord

/-- NVS_OPERATION_DONE (R528): the time it took, whether the bank compared, whether the slot compared at its first and second place, and the pages of a user entry that failed at the first and second try. -/
def execNvsOperationDone (us : Nat) (bankOk slotOk slotOk2 : Bool) (bad bad2 : List Nat) (s : State) : Host.Outcome State Fault Refusal :=
  run s fun s => s.nvsOperationDone us bankOk slotOk slotOk2 bad bad2

/-- AREA_WRITE (R530). -/
def execAreaWrite (p : Path) (v : BitVec 8) (s : State) : Host.Outcome State Fault Refusal := run s fun s => s.write p Obj.areaWrite v.toNat

/-- AREA_ERASE (R530). -/
def execAreaErase (p : Path) (v : BitVec 8) (s : State) : Host.Outcome State Fault Refusal := run s fun s => s.write p Obj.areaErase v.toNat

end Sys2Proof.Machine
end

