-- ==== Sys2Proof/Machine/SidebandRows.lean ====
section
/-! DEFINITION. The transfers of the sideband port (R501 to R505). -/

namespace Sys2Proof.Machine

/-- SB_WRITE (R502): the code byte, the fields behind it, the data bytes that came, and the check of the PEC byte. -/
def execSbWrite (code : BitVec 8) (index : BitVec 16) (sub : BitVec 8) (offset : BitVec 32) (n : BitVec 8) (data : List Byte) (pec : Option Bool) (s : State) : Host.Outcome State Fault Refusal :=
  run s fun s => s.sbTransfer code.toNat index.toNat sub.toNat offset.toNat n.toNat data pec

/-- SB_READ (R502). -/
def execSbRead (index : BitVec 16) (sub : BitVec 8) (offset : BitVec 32) (n : BitVec 8) (s : State) : Host.Outcome State Fault Refusal :=
  run s fun s => s.sbRead index.toNat sub.toNat offset.toNat n.toNat

/-- SB_STATUS (R502). -/
def execSbStatus (s : State) : Host.Outcome State Fault Refusal := run s fun s => s.sbStatus

/-- SB_BUS_TIMEOUT (R501): whether the bus is held for 35 ms. -/
def execSbBusTimeout (drop : Bool) (s : State) : Host.Outcome State Fault Refusal := run s fun s => s.sbTimeout drop

end Sys2Proof.Machine
end

