-- ==== Sys2Proof/Machine/StreamRows.lean ====
section
/-! DEFINITION. The commands of the stream ports: enable and training, the link layer, the requests of a packet, lockstep departures, aborts
and the client watchdog (R99 to R138). -/

namespace Sys2Proof.Machine

/-! Links. -/

/-- A training attempt by itself: AUTO_RETRAIN is 1, and the link of an enabled port is DOWN (R104, R105). -/
def State.autoRetrains (s : State) (p : Nat) : State :=
  match (s.sp p).retryAt with
  | some t =>
    if s.obj Obj.autoRetrain = 1 ∧ s.obj (Obj.portEnable p) = 1 ∧ s.obj (Obj.linkState p) = 3 then (s.advanceTo t).startTraining p else s
  | none => s

/-- What the steps 2 to 4 of a training attempt found, and when step 5 completed after the start of step 2 (R104, R105): consecutive valid sync headers,
RX_ALIGN in UI, consecutive TRAIN blocks with PARTNER_SEEN, all within 1 ms. -/
def trainingPasses (headers align seen us : Nat) : Bool := decide (64 ≤ headers) && decide (align ≤ 65) && decide (16 ≤ seen) && decide (us ≤ 1000)

/-- The steps of a training attempt pass. The lane PLL is locked (R104 step 1), and a clock failure keeps the links down (R49). -/
def State.trainingLinks (s : State) (p headers align seen us : Nat) : State :=
  match (s.sp p).trainFrom with
  | some t =>
    if trainingPasses headers align seen us && s.bit Obj.clockStatus 1 && !s.bit Obj.live 50 then (s.advanceTo (t + us * usTicks)).linkComesUp p align us
    else s
  | none => s

/-- A training attempt has lasted 1 ms from step 2 (R105). -/
def State.trainingTimesOut (s : State) (p : Nat) : State :=
  match (s.sp p).trainFrom with
  | some t => (s.advanceTo (t + msTicks)).trainingFails p
  | none => s

/-- A request packet on a link, its link layer good. -/
def State.rxRequest (s : State) (p opcode sub tag : Nat) (posted ordered lockstep : Bool) (lines addr : Nat) (rest : List Nat)
    (openData : Bool) : State :=
  s.rxGood p (h0Of opcode sub tag posted ordered lockstep lines addr :: rest) openData

/-! The commands. -/

/-- PORT_ENABLE (R130). -/
def execPortEnable (p : Path) (port : Fin 16) (v : BitVec 8) (s : State) : Host.Outcome State Fault Refusal :=
  run s fun s => s.write p (Obj.portEnable port) v.toNat

/-- RETRAIN (R104). -/
def execRetrain (p : Path) (port : Fin 16) (v : BitVec 8) (s : State) : Host.Outcome State Fault Refusal :=
  run s fun s => s.write p (Obj.retrain port) v.toNat

/-- LINK_ACTIVE (R104, R105): what the steps found, and the time the training took. -/
def execLinkActive (port : Fin 16) (found : LinkFound) (us : Nat) (s : State) : Host.Outcome State Fault Refusal :=
  runAwake s fun s => s.trainingLinks port found.headers found.align found.seen us

/-- TRAIN_TIMEOUT (R105). -/
def execTrainTimeout (port : Fin 16) (s : State) : Host.Outcome State Fault Refusal := runAwake s fun s => s.trainingTimesOut port

/-- AUTO_RETRAIN_RETRY (R104, R105). -/
def execAutoRetrainRetry (port : Fin 16) (s : State) : Host.Outcome State Fault Refusal := runAwake s fun s => s.autoRetrains port

/-- LINK_DOWN (R131, R132): the block lock is lost, or the receive phase moves too far. -/
def execLinkDown (port : Fin 16) (frequency : Bool) (s : State) : Host.Outcome State Fault Refusal :=
  runAwake s fun s => s.linkGoesDown port (if frequency then 3 else 2)

/-- RX_PACKET (R106, R133): the types of the control blocks before the packet, the fields of the SOP, the data blocks, the CRC of the EOP, and whether the framing is valid. -/
def execRxPacket (port : Fin 16) (between : List (BitVec 8)) (seq kind len : Nat) (replayed intact : Bool) (body : PacketBody) (s : State) :
    Host.Outcome State Fault Refusal :=
  runIngress s fun s => s.rxPacket port (between.map BitVec.toNat) (seq % 4096) (kind % 16) (len % 256) replayed intact (body.blocks.map BitVec.toNat) body.eop.toNat

/-- ACK (R108). -/
def execRxAck (port : Fin 16) (seq : BitVec 12) (s : State) : Host.Outcome State Fault Refusal := runAwake s fun s => s.ackFrom port seq.toNat

/-- NAK (R107). -/
def execRxNak (port : Fin 16) (seq : BitVec 12) (s : State) : Host.Outcome State Fault Refusal := runAwake s fun s => s.nakFrom port seq.toNat

/-- ACK_TIMER (R108). -/
def execAckTimer (port : Fin 16) (s : State) : Host.Outcome State Fault Refusal := runAwake s fun s => s.ackTimer port

/-- REPLAY_TIMEOUT (R108). -/
def execReplayTimeout (port : Fin 16) (s : State) : Host.Outcome State Fault Refusal := runAwake s fun s => s.replayTimeout port

/-- TX_PACKET (R102, R121, R122). -/
def execTxPacket (port : Fin 16) (s : State) : Host.Outcome State Fault Refusal := runAwake s fun s => s.txPacket port

/-- READ (R111): LINES as the header carries it, one less than the lines. -/
def execStreamRead (port sub : Fin 16) (tag : BitVec 8) (lines : Fin 4) (addr : BitVec 40) (s : State) : Host.Outcome State Fault Refusal :=
  runIngress s fun s => s.rxRequest port 1 sub tag.toNat false false false (lines + 1) addr.toNat [] false

/-- LOCKSTEP_READ (R120, R217). -/
def execLockstepRead (port sub : Fin 16) (tag : BitVec 8) (lines : Fin 4) (addr : BitVec 40) (s : State) : Host.Outcome State Fault Refusal :=
  runIngress s fun s => s.rxRequest port 1 sub tag.toNat false false true (lines + 1) addr.toNat [] false

/-- WRITE (R112); `openData` says that the packet's data is still to come when it is presented cut-through (R153). -/
def execStreamWrite (port sub : Fin 16) (tag : BitVec 8) (posted ordered : Bool) (lines : Fin 4) (addr : BitVec 40) (data : List Byte)
    (openData : Bool) (s : State) : Host.Outcome State Fault Refusal :=
  runIngress s fun s =>
    s.rxRequest port 2 sub tag.toNat posted ordered false (lines + 1) addr.toNat (blocksOf (8 * (lines + 1)) data) openData

/-- WRITE_MASKED (R112). -/
def execStreamWriteMasked (port sub : Fin 16) (tag : BitVec 8) (posted ordered : Bool) (addr : BitVec 40) (mask : BitVec 64) (data : List Byte)
    (openData : Bool) (s : State) : Host.Outcome State Fault Refusal :=
  runIngress s fun s => s.rxRequest port 3 sub tag.toNat posted ordered false 1 addr.toNat (mask.toNat :: blocksOf 8 data) openData

/-- FENCE (R180). -/
def execStreamFence (port sub : Fin 16) (tag : BitVec 8) (s : State) : Host.Outcome State Fault Refusal :=
  runIngress s fun s => s.rxRequest port 4 sub tag.toNat false false false 1 0 [] false

/-- LOCK (R184): the range in lines and the lease in microseconds as H1 carries them. -/
def execStreamLock (port sub : Fin 16) (tag : BitVec 8) (addr : BitVec 40) (range : BitVec 24) (lease : BitVec 10) (s : State) :
    Host.Outcome State Fault Refusal :=
  runIngress s fun s =>
    s.rxRequest port 5 sub tag.toNat false false false 1 addr.toNat [range.toNat + lease.toNat * 2 ^ 54] false

/-- UNLOCK (R187). -/
def execStreamUnlock (port sub : Fin 16) (tag : BitVec 8) (addr : BitVec 40) (s : State) : Host.Outcome State Fault Refusal :=
  runIngress s fun s => s.rxRequest port 6 sub tag.toNat false false false 1 addr.toNat [] false

/-- LOCKSTEP_DEPARTURE (R120). -/
def execLockstepDeparture (port : Fin 16) (s : State) : Host.Outcome State Fault Refusal := runAwake s fun s => s.lockstepDeparture port

/-- CLIENT_ABORT (R123, R124). -/
def execClientAbort (p : Path) (client : Fin 256) (v : BitVec 8) (s : State) : Host.Outcome State Fault Refusal :=
  run s fun s => s.write p (Obj.clientAbort client) v.toNat

/-- PORT_ABORT (R124). -/
def execPortAbort (p : Path) (port : Fin 16) (v : BitVec 8) (s : State) : Host.Outcome State Fault Refusal :=
  run s fun s => s.write p (Obj.portAbort port) v.toNat

/-- HQ_ABORT (R124). -/
def execHqAbort (p : Path) (q : Fin 4) (v : BitVec 8) (s : State) : Host.Outcome State Fault Refusal :=
  run s fun s => s.write p (Obj.hqAbort q) v.toNat

/-- FAB_ABORT_FG (R125). -/
def execFabAbortFg (p : Path) (v : BitVec 8) (s : State) : Host.Outcome State Fault Refusal := run s fun s => s.write p Obj.fabAbortFg v.toNat

/-- FAB_ABORT_BG (R125). -/
def execFabAbortBg (p : Path) (v : BitVec 8) (s : State) : Host.Outcome State Fault Refusal := run s fun s => s.write p Obj.fabAbortBg v.toNat

/-- CLIENT_WATCHDOG_EXPIRY (R126). -/
def execClientWatchdogExpiry (client : Fin 256) (s : State) : Host.Outcome State Fault Refusal := runAwake s fun s => s.clientWatchdog client

/-- CLIENT_ENABLE (R130). -/
def execClientEnable (p : Path) (client : Fin 256) (v : BitVec 8) (s : State) : Host.Outcome State Fault Refusal :=
  run s fun s => s.write p (Obj.clientEnable client) v.toNat

end Sys2Proof.Machine
end

