-- ==== Sys2Proof/Machine/TileRows.lean ====
section
/-! DEFINITION. The instructions of the fabric's tiles (R398 to R404). Each command is the issue of the next instruction of the context whose turn it is
at a tile, when that instruction is the one the command names; `parity` says that a parity check fails on what the tile fetches or reads
(R428). -/

namespace Sys2Proof.Machine

/-- The flags of the word most recently popped from an operand (R402). -/
def Ctx.popped (x : Ctx) (o : Nat) : Nat :=
  if isInbox o then x.flags.getD (o - 16) 0 else if isEdge o then x.flags.getD (o - 24) 0 else 0

/-- NOP (R402). -/
def execNop (t : Fin 256) (parity : Bool) (s : State) : Host.Outcome State Fault Refusal :=
  runClocked s fun s => s.issueNop t parity

/-- ADD (R402). -/
def execAdd (t : Fin 256) (parity : Bool) (s : State) : Host.Outcome State Fault Refusal :=
  runClocked s fun s => s.issueAlu t 0x01 parity fun a b => a + b

/-- SUB (R402). -/
def execSub (t : Fin 256) (parity : Bool) (s : State) : Host.Outcome State Fault Refusal :=
  runClocked s fun s => s.issueAlu t 0x02 parity fun a b => a - b

/-- AND (R402). -/
def execAndOp (t : Fin 256) (parity : Bool) (s : State) : Host.Outcome State Fault Refusal :=
  runClocked s fun s => s.issueAlu t 0x03 parity fun a b => a &&& b

/-- OR (R402). -/
def execOrOp (t : Fin 256) (parity : Bool) (s : State) : Host.Outcome State Fault Refusal :=
  runClocked s fun s => s.issueAlu t 0x04 parity fun a b => a ||| b

/-- XOR (R402). -/
def execXorOp (t : Fin 256) (parity : Bool) (s : State) : Host.Outcome State Fault Refusal :=
  runClocked s fun s => s.issueAlu t 0x05 parity fun a b => a ^^^ b

/-- SHL (R402). -/
def execShl (t : Fin 256) (parity : Bool) (s : State) : Host.Outcome State Fault Refusal :=
  runClocked s fun s => s.issueAlu t 0x06 parity fun a b => a <<< amount b

/-- SHR (R402). -/
def execShr (t : Fin 256) (parity : Bool) (s : State) : Host.Outcome State Fault Refusal :=
  runClocked s fun s => s.issueAlu t 0x07 parity fun a b => a >>> amount b

/-- SAR (R402). -/
def execSar (t : Fin 256) (parity : Bool) (s : State) : Host.Outcome State Fault Refusal :=
  runClocked s fun s => s.issueAlu t 0x08 parity fun a b => a.sshiftRight (amount b)

/-- ROL (R402). -/
def execRol (t : Fin 256) (parity : Bool) (s : State) : Host.Outcome State Fault Refusal :=
  runClocked s fun s => s.issueAlu t 0x09 parity fun a b => a.rotateLeft (amount b)

/-- MUL (R402). -/
def execMul (t : Fin 256) (parity : Bool) (s : State) : Host.Outcome State Fault Refusal :=
  runClocked s fun s => s.issueAlu t 0x0A parity fun a b => a * b

/-- MULHU (R402). -/
def execMulhu (t : Fin 256) (parity : Bool) (s : State) : Host.Outcome State Fault Refusal :=
  runClocked s fun s => s.issueAlu t 0x0B parity fun a b => BitVec.ofNat 32 (a.toNat * b.toNat / 2 ^ 32)

/-- MINU (R402). -/
def execMinu (t : Fin 256) (parity : Bool) (s : State) : Host.Outcome State Fault Refusal :=
  runClocked s fun s => s.issueAlu t 0x0C parity fun a b => if a.toNat ≤ b.toNat then a else b

/-- MAXU (R402). -/
def execMaxu (t : Fin 256) (parity : Bool) (s : State) : Host.Outcome State Fault Refusal :=
  runClocked s fun s => s.issueAlu t 0x0D parity fun a b => if a.toNat ≤ b.toNat then b else a

/-- SLTU (R402). -/
def execSltu (t : Fin 256) (parity : Bool) (s : State) : Host.Outcome State Fault Refusal :=
  runClocked s fun s => s.issueAlu t 0x0E parity fun a b => boolWord (decide (a.toNat < b.toNat))

/-- SEQ (R402). -/
def execSeqOp (t : Fin 256) (parity : Bool) (s : State) : Host.Outcome State Fault Refusal :=
  runClocked s fun s => s.issueAlu t 0x0F parity fun a b => boolWord (a == b)

/-- PEXT (R402). -/
def execPext (t : Fin 256) (parity : Bool) (s : State) : Host.Outcome State Fault Refusal :=
  runClocked s fun s => s.issueAlu t 0x10 parity fun a b => pext a b

/-- PDEP (R402). -/
def execPdep (t : Fin 256) (parity : Bool) (s : State) : Host.Outcome State Fault Refusal :=
  runClocked s fun s => s.issueAlu t 0x11 parity fun a b => pdep a b

/-- POPC (R402). -/
def execPopc (t : Fin 256) (parity : Bool) (s : State) : Host.Outcome State Fault Refusal :=
  runClocked s fun s => s.issueAlu t 0x12 parity fun a b => popc (a &&& b)

/-- PAR (R402). -/
def execPar (t : Fin 256) (parity : Bool) (s : State) : Host.Outcome State Fault Refusal :=
  runClocked s fun s => s.issueAlu t 0x13 parity fun a b => popc (a &&& b) &&& 1

/-- BREV (R402). -/
def execBrev (t : Fin 256) (parity : Bool) (s : State) : Host.Outcome State Fault Refusal :=
  runClocked s fun s => s.issueOne t 0x14 parity fun a _ => brev a

/-- CLZ (R402). -/
def execClz (t : Fin 256) (parity : Bool) (s : State) : Host.Outcome State Fault Refusal :=
  runClocked s fun s => s.issueOne t 0x15 parity fun a _ => clz a

/-- ADDI (R402). -/
def execAddi (t : Fin 256) (parity : Bool) (s : State) : Host.Outcome State Fault Refusal :=
  runClocked s fun s => s.issueOne t 0x20 parity fun a imm => a + (BitVec.ofNat 16 imm).signExtend 32

/-- ANDI (R402). -/
def execAndi (t : Fin 256) (parity : Bool) (s : State) : Host.Outcome State Fault Refusal :=
  runClocked s fun s => s.issueOne t 0x21 parity fun a imm => a &&& BitVec.ofNat 32 imm

/-- ORI (R402). -/
def execOri (t : Fin 256) (parity : Bool) (s : State) : Host.Outcome State Fault Refusal :=
  runClocked s fun s => s.issueOne t 0x22 parity fun a imm => a ||| BitVec.ofNat 32 imm

/-- XORI (R402). -/
def execXori (t : Fin 256) (parity : Bool) (s : State) : Host.Outcome State Fault Refusal :=
  runClocked s fun s => s.issueOne t 0x23 parity fun a imm => a ^^^ BitVec.ofNat 32 imm

/-- SHLI (R402). -/
def execShli (t : Fin 256) (parity : Bool) (s : State) : Host.Outcome State Fault Refusal :=
  runClocked s fun s => s.issueOne t 0x24 parity fun a imm => a <<< (imm % 32)

/-- SHRI (R402). -/
def execShri (t : Fin 256) (parity : Bool) (s : State) : Host.Outcome State Fault Refusal :=
  runClocked s fun s => s.issueOne t 0x25 parity fun a imm => a >>> (imm % 32)

/-- SARI (R402). -/
def execSari (t : Fin 256) (parity : Bool) (s : State) : Host.Outcome State Fault Refusal :=
  runClocked s fun s => s.issueOne t 0x26 parity fun a imm => a.sshiftRight (imm % 32)

/-- LUI (R402). -/
def execLui (t : Fin 256) (parity : Bool) (s : State) : Host.Outcome State Fault Refusal :=
  runClocked s fun s => s.issueVal t 0x27 parity fun _ w => BitVec.ofNat 32 (iImm w * 2 ^ 16)

/-- SLTUI (R402). -/
def execSltui (t : Fin 256) (parity : Bool) (s : State) : Host.Outcome State Fault Refusal :=
  runClocked s fun s => s.issueOne t 0x28 parity fun a imm => boolWord (decide (a.toNat < imm))

/-- BEQZ (R402). -/
def execBeqz (t : Fin 256) (parity : Bool) (s : State) : Host.Outcome State Fault Refusal :=
  runClocked s fun s => s.issueBranch t 0x30 parity fun a => a == 0

/-- BNEZ (R402). -/
def execBnez (t : Fin 256) (parity : Bool) (s : State) : Host.Outcome State Fault Refusal :=
  runClocked s fun s => s.issueBranch t 0x31 parity fun a => a != 0

/-- JMP (R402). -/
def execJmp (t : Fin 256) (parity : Bool) (s : State) : Host.Outcome State Fault Refusal :=
  runClocked s fun s => s.issueJump t parity

/-- DBNZ (R402). -/
def execDbnz (t : Fin 256) (parity : Bool) (s : State) : Host.Outcome State Fault Refusal :=
  runClocked s fun s => s.issueDbnz t parity

/-- WAITC (R402). -/
def execWaitc (t : Fin 256) (parity : Bool) (s : State) : Host.Outcome State Fault Refusal :=
  runClocked s fun s => s.issueWaitc t parity

/-- WAITC_EXPIRY (R402). -/
def execWaitcExpiry (t : Fin 256) (i : Fin 2) (s : State) : Host.Outcome State Fault Refusal := runClocked s fun s => s.waitcEnds t i

/-- HALT (R402). -/
def execHalt (t : Fin 256) (parity : Bool) (s : State) : Host.Outcome State Fault Refusal :=
  runClocked s fun s => s.issueHalt t parity

/-- TRAP (R402). -/
def execTrap (t : Fin 256) (parity : Bool) (s : State) : Host.Outcome State Fault Refusal :=
  runClocked s fun s => s.issueTrap t parity

/-- SENDF (R402). -/
def execSendf (t : Fin 256) (parity : Bool) (s : State) : Host.Outcome State Fault Refusal :=
  runClocked s fun s => s.issueSendf t parity

/-- RFLG (R402). -/
def execRflg (t : Fin 256) (parity : Bool) (s : State) : Host.Outcome State Fault Refusal :=
  runClocked s fun s => s.issueVal t 0x38 parity fun x w => BitVec.ofNat 32 (x.popped (fld 0 5 w))

/-- SETRT (R402). -/
def execSetrt (t : Fin 256) (parity : Bool) (s : State) : Host.Outcome State Fault Refusal :=
  runClocked s fun s => s.issueSetrt t parity

/-- SETRTR (R402). -/
def execSetrtr (t : Fin 256) (parity : Bool) (s : State) : Host.Outcome State Fault Refusal :=
  runClocked s fun s => s.issueSetrtr t parity

end Sys2Proof.Machine
end

