-- ==== Sys2Proof/Machine/Dispatch.lean ====
section
/-! DEFINITION. What each command does: one arm for each command, one direct call of its meaning. -/

namespace Sys2Proof.Machine

/-- The effect of one command on everything but the queue. -/
def exec (i : Instr) (s : State) : Host.Outcome State Fault Refusal :=
  match i with
  | .objectWrite p index sub data aligned poisoned => Sys2Proof.Machine.execObjectWrite p index sub data aligned poisoned s
  | .crossObjectCheckDone us => Sys2Proof.Machine.execCrossObjectCheckDone us s
  | .claim p => Sys2Proof.Machine.execClaim p s
  | .renew p => Sys2Proof.Machine.execRenew p s
  | .release p => Sys2Proof.Machine.execRelease p s
  | .sessionLeaseExpiry => Sys2Proof.Machine.execSessionLeaseExpiry s
  | .sessionDrop p => Sys2Proof.Machine.execSessionDrop p s
  | .batchBegin p => Sys2Proof.Machine.execBatchBegin p s
  | .batchCommit p => Sys2Proof.Machine.execBatchCommit p s
  | .batchCancel p => Sys2Proof.Machine.execBatchCancel p s
  | .highReadCopy index sub => Sys2Proof.Machine.execHighReadCopy index sub s
  | .highWriteMerge index sub low poisoned => Sys2Proof.Machine.execHighWriteMerge index sub low poisoned s
  | .domainSelect v => Sys2Proof.Machine.execDomainSelect v s
  | .domainDataRead => Sys2Proof.Machine.execDomainDataRead s
  | .domainDataWrite v => Sys2Proof.Machine.execDomainDataWrite v s
  | .domainCommit count => Sys2Proof.Machine.execDomainCommit count s
  | .decodeAddress p a => Sys2Proof.Machine.execDecodeAddress p a s
  | .frameBoundary => Sys2Proof.Machine.execFrameBoundary s
  | .wheelWrap => Sys2Proof.Machine.execWheelWrap s
  | .refreshIntervalBoundary ch => Sys2Proof.Machine.execRefreshIntervalBoundary ch s
  | .opRequest p v => Sys2Proof.Machine.execOpRequest p v s
  | .opRequestStart => Sys2Proof.Machine.execOpRequestStart s
  | .pllRelock us => Sys2Proof.Machine.execPllRelock us s
  | .vcoreSlewDone => Sys2Proof.Machine.execVcoreSlewDone s
  | .shmooOffset p v => Sys2Proof.Machine.execShmooOffset p v s
  | .shmooSlewStep => Sys2Proof.Machine.execShmooSlewStep s
  | .pbCkMult p n v => Sys2Proof.Machine.execPbCkMult p n v s
  | .clockFailure why => Sys2Proof.Machine.execClockFailure why s
  | .clockRecovery => Sys2Proof.Machine.execClockRecovery s
  | .tsAlignStep ns => Sys2Proof.Machine.execTsAlignStep ns s
  | .tsSlewAdjust double err => Sys2Proof.Machine.execTsSlewAdjust double err s
  | .tsUnlock invalid err => Sys2Proof.Machine.execTsUnlock invalid err s
  | .portEnable p port v => Sys2Proof.Machine.execPortEnable p port v s
  | .retrain p port v => Sys2Proof.Machine.execRetrain p port v s
  | .linkActive port found us => Sys2Proof.Machine.execLinkActive port found us s
  | .trainTimeout port => Sys2Proof.Machine.execTrainTimeout port s
  | .autoRetrainRetry port => Sys2Proof.Machine.execAutoRetrainRetry port s
  | .linkDown port frequency => Sys2Proof.Machine.execLinkDown port frequency s
  | .rxPacket port between seq kind len replayed intact body => Sys2Proof.Machine.execRxPacket port between seq kind len replayed intact body s
  | .rxAck port seq => Sys2Proof.Machine.execRxAck port seq s
  | .rxNak port seq => Sys2Proof.Machine.execRxNak port seq s
  | .ackTimer port => Sys2Proof.Machine.execAckTimer port s
  | .replayTimeout port => Sys2Proof.Machine.execReplayTimeout port s
  | .txPacket port => Sys2Proof.Machine.execTxPacket port s
  | .streamRead port sub tag lines addr => Sys2Proof.Machine.execStreamRead port sub tag lines addr s
  | .lockstepRead port sub tag lines addr => Sys2Proof.Machine.execLockstepRead port sub tag lines addr s
  | .streamWrite port sub tag posted ordered lines addr data openData => Sys2Proof.Machine.execStreamWrite port sub tag posted ordered lines addr data openData s
  | .streamWriteMasked port sub tag posted ordered addr mask data openData => Sys2Proof.Machine.execStreamWriteMasked port sub tag posted ordered addr mask data openData s
  | .streamFence port sub tag => Sys2Proof.Machine.execStreamFence port sub tag s
  | .streamLock port sub tag addr range lease => Sys2Proof.Machine.execStreamLock port sub tag addr range lease s
  | .streamUnlock port sub tag addr => Sys2Proof.Machine.execStreamUnlock port sub tag addr s
  | .lockstepDeparture port => Sys2Proof.Machine.execLockstepDeparture port s
  | .clientAbort p client v => Sys2Proof.Machine.execClientAbort p client v s
  | .portAbort p port v => Sys2Proof.Machine.execPortAbort p port v s
  | .hqAbort p q v => Sys2Proof.Machine.execHqAbort p q v s
  | .fabAbortFg p v => Sys2Proof.Machine.execFabAbortFg p v s
  | .fabAbortBg p v => Sys2Proof.Machine.execFabAbortBg p v s
  | .clientWatchdogExpiry client => Sys2Proof.Machine.execClientWatchdogExpiry client s
  | .clientEnable p client v => Sys2Proof.Machine.execClientEnable p client v s
  | .regulatorPass rq => Sys2Proof.Machine.execRegulatorPass rq s
  | .crossbarLeave rq => Sys2Proof.Machine.execCrossbarLeave rq s
  | .lineGrant ch => Sys2Proof.Machine.execLineGrant ch s
  | .quotaWindowEnd ch rq => Sys2Proof.Machine.execQuotaWindowEnd ch rq s
  | .bgGuardFire ch => Sys2Proof.Machine.execBgGuardFire ch s
  | .openWriteComplete rq => Sys2Proof.Machine.execOpenWriteComplete rq s
  | .arbWatchdogBite ch => Sys2Proof.Machine.execArbWatchdogBite ch s
  | .lockLeaseExpiry start => Sys2Proof.Machine.execLockLeaseExpiry start s
  | .unlockComplete rq => Sys2Proof.Machine.execUnlockComplete rq s
  | .fenceComplete rq => Sys2Proof.Machine.execFenceComplete rq s
  | .lockReleaseAll p v => Sys2Proof.Machine.execLockReleaseAll p v s
  | .dramCommandIssue ch sub => Sys2Proof.Machine.execDramCommandIssue ch sub s
  | .readCheck ch sub noise => Sys2Proof.Machine.execReadCheck ch sub noise s
  | .pageIdleExpiry ch sub bank => Sys2Proof.Machine.execPageIdleExpiry ch sub bank s
  | .drainReadMaxExpiry ch sub => Sys2Proof.Machine.execDrainReadMaxExpiry ch sub s
  | .schedWatchdogExpiry ch => Sys2Proof.Machine.execSchedWatchdogExpiry ch s
  | .mr4Result ch rank sub code => Sys2Proof.Machine.execMr4Result ch rank sub code s
  | .mr4Stale ch rank => Sys2Proof.Machine.execMr4Stale ch rank s
  | .refreshOverdue ch sub rank bank => Sys2Proof.Machine.execRefreshOverdue ch sub rank bank s
  | .entropyFail ch => Sys2Proof.Machine.execEntropyFail ch s
  | .entropyRecover good => Sys2Proof.Machine.execEntropyRecover good s
  | .trainCmdSeeded p ch => Sys2Proof.Machine.execTrainCmdSeeded p ch s
  | .trainCmdFull p ch => Sys2Proof.Machine.execTrainCmdFull p ch s
  | .trainingStart run => Sys2Proof.Machine.execTrainingStart run s
  | .trainingComplete ch failed reason margins place body => Sys2Proof.Machine.execTrainingComplete ch failed reason margins place body s
  | .trainStepTimeout ch rank sub bit => Sys2Proof.Machine.execTrainStepTimeout ch rank sub bit s
  | .channelResume ch pattern corrections => Sys2Proof.Machine.execChannelResume ch pattern corrections s
  | .trackUpdate ch rank sub lane up down => Sys2Proof.Machine.execTrackUpdate ch rank sub lane up down s
  | .trackStale ch rank => Sys2Proof.Machine.execTrackStale ch rank s
  | .writeCrcAlert ch sub => Sys2Proof.Machine.execWriteCrcAlert ch sub s
  | .crcWindowExpiry ch sub => Sys2Proof.Machine.execCrcWindowExpiry ch sub s
  | .fillComplete ch => Sys2Proof.Machine.execFillComplete ch s
  | .scrubRead ch => Sys2Proof.Machine.execScrubRead ch s
  | .scrubBehind ch => Sys2Proof.Machine.execScrubBehind ch s
  | .flipArm p ch v => Sys2Proof.Machine.execFlipArm p ch v s
  | .peekAddress p ch v => Sys2Proof.Machine.execPeekAddress p ch v s
  | .retireAdd p v => Sys2Proof.Machine.execRetireAdd p v s
  | .retireRemove p v => Sys2Proof.Machine.execRetireRemove p v s
  | .retireClear p v => Sys2Proof.Machine.execRetireClear p v s
  | .pbEnable p n v => Sys2Proof.Machine.execPbEnable p n v s
  | .pbCurlOutputs p n => Sys2Proof.Machine.execPbCurlOutputs p n s
  | .pbCurlDischarge p n => Sys2Proof.Machine.execPbCurlDischarge p n s
  | .burstStart n => Sys2Proof.Machine.execBurstStart n s
  | .pbCommand n dataReady mrr => Sys2Proof.Machine.execPbCommand n dataReady mrr s
  | .pbWait n => Sys2Proof.Machine.execPbWait n s
  | .pbResetAssert n => Sys2Proof.Machine.execPbResetAssert n s
  | .pbResetRelease n => Sys2Proof.Machine.execPbResetRelease n s
  | .pbMark n => Sys2Proof.Machine.execPbMark n s
  | .pbEnd n => Sys2Proof.Machine.execPbEnd n s
  | .pbCkStop n => Sys2Proof.Machine.execPbCkStop n s
  | .pbCkStart n => Sys2Proof.Machine.execPbCkStart n s
  | .pbUnderrun n => Sys2Proof.Machine.execPbUnderrun n s
  | .mrWrite p n => Sys2Proof.Machine.execMrWrite p n s
  | .mrRead p n => Sys2Proof.Machine.execMrRead p n s
  | .dutPowerUp p n pass => Sys2Proof.Machine.execDutPowerUp p n pass s
  | .dutPowerDown p n => Sys2Proof.Machine.execDutPowerDown p n s
  | .dutPowerGood n => Sys2Proof.Machine.execDutPowerGood n s
  | .dutSetpoint p n k v => Sys2Proof.Machine.execDutSetpoint p n k v s
  | .supplySample n k remote local' milliamps => Sys2Proof.Machine.execSupplySample n k remote local' milliamps s
  | .supplyFault n k kind hard => Sys2Proof.Machine.execSupplyFault n k kind hard s
  | .clampEvent n => Sys2Proof.Machine.execClampEvent n s
  | .probeAlert n site => Sys2Proof.Machine.execProbeAlert n site s
  | .trackReset p n k v => Sys2Proof.Machine.execTrackReset p n k v s
  | .calFull p n => Sys2Proof.Machine.execCalFull p n s
  | .calTrack p n => Sys2Proof.Machine.execCalTrack p n s
  | .calComplete n pass worst temp us => Sys2Proof.Machine.execCalComplete n pass worst temp us s
  | .replicaMeasure n drift temp => Sys2Proof.Machine.execReplicaMeasure n drift temp s
  | .calAutoStart n => Sys2Proof.Machine.execCalAutoStart n s
  | .expectedEntry n => Sys2Proof.Machine.execExpectedEntry n s
  | .dburstCompare n samples second => Sys2Proof.Machine.execDburstCompare n samples second s
  | .captureDeliver n site => Sys2Proof.Machine.execCaptureDeliver n site s
  | .failHoldExpiry n => Sys2Proof.Machine.execFailHoldExpiry n s
  | .failClear p n v => Sys2Proof.Machine.execFailClear p n v s
  | .ffArm p n site v => Sys2Proof.Machine.execFfArm p n site v s
  | .nop t parity => Sys2Proof.Machine.execNop t parity s
  | .add t parity => Sys2Proof.Machine.execAdd t parity s
  | .sub t parity => Sys2Proof.Machine.execSub t parity s
  | .andOp t parity => Sys2Proof.Machine.execAndOp t parity s
  | .orOp t parity => Sys2Proof.Machine.execOrOp t parity s
  | .xorOp t parity => Sys2Proof.Machine.execXorOp t parity s
  | .shl t parity => Sys2Proof.Machine.execShl t parity s
  | .shr t parity => Sys2Proof.Machine.execShr t parity s
  | .sar t parity => Sys2Proof.Machine.execSar t parity s
  | .rol t parity => Sys2Proof.Machine.execRol t parity s
  | .mul t parity => Sys2Proof.Machine.execMul t parity s
  | .mulhu t parity => Sys2Proof.Machine.execMulhu t parity s
  | .minu t parity => Sys2Proof.Machine.execMinu t parity s
  | .maxu t parity => Sys2Proof.Machine.execMaxu t parity s
  | .sltu t parity => Sys2Proof.Machine.execSltu t parity s
  | .seqOp t parity => Sys2Proof.Machine.execSeqOp t parity s
  | .pext t parity => Sys2Proof.Machine.execPext t parity s
  | .pdep t parity => Sys2Proof.Machine.execPdep t parity s
  | .popc t parity => Sys2Proof.Machine.execPopc t parity s
  | .par t parity => Sys2Proof.Machine.execPar t parity s
  | .brev t parity => Sys2Proof.Machine.execBrev t parity s
  | .clz t parity => Sys2Proof.Machine.execClz t parity s
  | .addi t parity => Sys2Proof.Machine.execAddi t parity s
  | .andi t parity => Sys2Proof.Machine.execAndi t parity s
  | .ori t parity => Sys2Proof.Machine.execOri t parity s
  | .xori t parity => Sys2Proof.Machine.execXori t parity s
  | .shli t parity => Sys2Proof.Machine.execShli t parity s
  | .shri t parity => Sys2Proof.Machine.execShri t parity s
  | .sari t parity => Sys2Proof.Machine.execSari t parity s
  | .lui t parity => Sys2Proof.Machine.execLui t parity s
  | .sltui t parity => Sys2Proof.Machine.execSltui t parity s
  | .beqz t parity => Sys2Proof.Machine.execBeqz t parity s
  | .bnez t parity => Sys2Proof.Machine.execBnez t parity s
  | .jmp t parity => Sys2Proof.Machine.execJmp t parity s
  | .dbnz t parity => Sys2Proof.Machine.execDbnz t parity s
  | .waitc t parity => Sys2Proof.Machine.execWaitc t parity s
  | .waitcExpiry t j => Sys2Proof.Machine.execWaitcExpiry t j s
  | .halt t parity => Sys2Proof.Machine.execHalt t parity s
  | .trap t parity => Sys2Proof.Machine.execTrap t parity s
  | .sendf t parity => Sys2Proof.Machine.execSendf t parity s
  | .rflg t parity => Sys2Proof.Machine.execRflg t parity s
  | .setrt t parity => Sys2Proof.Machine.execSetrt t parity s
  | .setrtr t parity => Sys2Proof.Machine.execSetrtr t parity s
  | .flitHop t out => Sys2Proof.Machine.execFlitHop t out s
  | .stallWatchdog t q => Sys2Proof.Machine.execStallWatchdog t q s
  | .seqPair n => Sys2Proof.Machine.execSeqPair n s
  | .feRead e => Sys2Proof.Machine.execFeRead e s
  | .feWrite e => Sys2Proof.Machine.execFeWrite e s
  | .feWriteMasked e => Sys2Proof.Machine.execFeWriteMasked e s
  | .feFence e => Sys2Proof.Machine.execFeFence e s
  | .feLock e => Sys2Proof.Machine.execFeLock e s
  | .feUnlock e => Sys2Proof.Machine.execFeUnlock e s
  | .fabResponse port => Sys2Proof.Machine.execFabResponse port s
  | .ctxStart p j => Sys2Proof.Machine.execCtxStart p j s
  | .ctxStop p j => Sys2Proof.Machine.execCtxStop p j s
  | .ctxUnload p j => Sys2Proof.Machine.execCtxUnload p j s
  | .ctxSwap p => Sys2Proof.Machine.execCtxSwap p s
  | .loadFg p => Sys2Proof.Machine.execLoadFg p s
  | .loadBg p => Sys2Proof.Machine.execLoadBg p s
  | .imageLoadDone => Sys2Proof.Machine.execImageLoadDone s
  | .scanOut p => Sys2Proof.Machine.execScanOut p s
  | .scanIn p => Sys2Proof.Machine.execScanIn p s
  | .scanExchange p => Sys2Proof.Machine.execScanExchange p s
  | .scanDone parity => Sys2Proof.Machine.execScanDone parity s
  | .frameSave p f => Sys2Proof.Machine.execFrameSave p f s
  | .frameFetch p f => Sys2Proof.Machine.execFrameFetch p f s
  | .frameRelease p f => Sys2Proof.Machine.execFrameRelease p f s
  | .frameClear p f => Sys2Proof.Machine.execFrameClear p f s
  | .faultDrain j => Sys2Proof.Machine.execFaultDrain j s
  | .msgRegWrite p m w values aligned poisoned => Sys2Proof.Machine.execMsgRegWrite p m w values aligned poisoned s
  | .msgGo p m => Sys2Proof.Machine.execMsgGo p m s
  | .msgRelease p m => Sys2Proof.Machine.execMsgRelease p m s
  | .msgConsumingRead p r => Sys2Proof.Machine.execMsgConsumingRead p r s
  | .msgTimeoutExpiry m => Sys2Proof.Machine.execMsgTimeoutExpiry m s
  | .fillExpiry m => Sys2Proof.Machine.execFillExpiry m s
  | .doorbellPendingSend m => Sys2Proof.Machine.execDoorbellPendingSend m s
  | .mbSend q => Sys2Proof.Machine.execMbSend q s
  | .mbRelease q => Sys2Proof.Machine.execMbRelease q s
  | .msgEnable p m v => Sys2Proof.Machine.execMsgEnable p m v s
  | .bar2Write off data enables relaxed poisoned => Sys2Proof.Machine.execBar2Write off data enables relaxed poisoned s
  | .bar2Read off len => Sys2Proof.Machine.execBar2Read off len s
  | .hqMergeWaitExpiry q => Sys2Proof.Machine.execHqMergeWaitExpiry q s
  | .hqWindowBase p q v => Sys2Proof.Machine.execHqWindowBase p q v s
  | .hqEnable p q v => Sys2Proof.Machine.execHqEnable p q v s
  | .hqFence q => Sys2Proof.Machine.execHqFence q s
  | .hqLock q addr range lease => Sys2Proof.Machine.execHqLock q addr range lease s
  | .hqUnlock q addr => Sys2Proof.Machine.execHqUnlock q addr s
  | .pcieFunctionReset why => Sys2Proof.Machine.execPcieFunctionReset why s
  | .pcieError e => Sys2Proof.Machine.execPcieError e s
  | .pcieRetrain p speed => Sys2Proof.Machine.execPcieRetrain p speed s
  | .alStateRequest new m => Sys2Proof.Machine.execAlStateRequest new m s
  | .sdoDownload index parts last => Sys2Proof.Machine.execSdoDownload index parts last s
  | .sdoUpload index sub complete => Sys2Proof.Machine.execSdoUpload index sub complete s
  | .sdoInformation service index sub => Sys2Proof.Machine.execSdoInformation service index sub s
  | .mailboxUnsupported => Sys2Proof.Machine.execMailboxUnsupported s
  | .pdoSample taken => Sys2Proof.Machine.execPdoSample taken s
  | .foeFabricFg password data last => Sys2Proof.Machine.execFoeFabricFg password data last s
  | .foeFabricBg password data last => Sys2Proof.Machine.execFoeFabricBg password data last s
  | .areaFileWrite n password data last => Sys2Proof.Machine.execAreaFileWrite n password data last s
  | .foeFirmware password data last good => Sys2Proof.Machine.execFoeFirmware password data last good s
  | .pdWatchdog => Sys2Proof.Machine.execPdWatchdog s
  | .sbWrite code index sub offset n data pec => Sys2Proof.Machine.execSbWrite code index sub offset n data pec s
  | .sbRead index sub offset n => Sys2Proof.Machine.execSbRead index sub offset n s
  | .sbStatus => Sys2Proof.Machine.execSbStatus s
  | .sbBusTimeout drop => Sys2Proof.Machine.execSbBusTimeout drop s
  | .nvsStore p profile j => Sys2Proof.Machine.execNvsStore p profile j s
  | .nvsRestore p profile j => Sys2Proof.Machine.execNvsRestore p profile j s
  | .nvsOperationDone us bankOk slotOk slotOk2 bad bad2 => Sys2Proof.Machine.execNvsOperationDone us bankOk slotOk slotOk2 bad bad2 s
  | .areaWrite p v => Sys2Proof.Machine.execAreaWrite p v s
  | .areaErase p v => Sys2Proof.Machine.execAreaErase p v s
  | .errorLineRaise line inst bit => Sys2Proof.Machine.execErrorLineRaise line inst bit s
  | .hhRequest p => Sys2Proof.Machine.execHhRequest p s
  | .fltResume p => Sys2Proof.Machine.execFltResume p s
  | .ftwClear p v => Sys2Proof.Machine.execFtwClear p v s
  | .dieTempSample t => Sys2Proof.Machine.execDieTempSample t s
  | .mgWatchdog => Sys2Proof.Machine.execMgWatchdog s
  | .mgRestartDone => Sys2Proof.Machine.execMgRestartDone s
  | .requestRun p => Sys2Proof.Machine.execRequestRun p s
  | .requestDoze p => Sys2Proof.Machine.execRequestDoze p s
  | .requestDormouse p => Sys2Proof.Machine.execRequestDormouse p s
  | .requestRetain p => Sys2Proof.Machine.execRequestRetain p s
  | .requestWatch p => Sys2Proof.Machine.execRequestWatch p s
  | .handshakeReply participants => Sys2Proof.Machine.execHandshakeReply participants s
  | .reaskTimer => Sys2Proof.Machine.execReaskTimer s
  | .askTimeout participant => Sys2Proof.Machine.execAskTimeout participant s
  | .entryDelayExpiry => Sys2Proof.Machine.execEntryDelayExpiry s
  | .abortPointReached => Sys2Proof.Machine.execAbortPointReached s
  | .stepOverrun => Sys2Proof.Machine.execStepOverrun s
  | .stormHoldoffEnd => Sys2Proof.Machine.execStormHoldoffEnd s
  | .dozeWake => Sys2Proof.Machine.execDozeWake s
  | .wakeN low => Sys2Proof.Machine.execWakeN low s
  | .owlMatch address rw => Sys2Proof.Machine.execOwlMatch address rw s
  | .owlRelease => Sys2Proof.Machine.execOwlRelease s
  | .wakeComplete => Sys2Proof.Machine.execWakeComplete s
  | .padRelease p => Sys2Proof.Machine.execPadRelease p s
  | .dmSample temp vin vhold sensors us => Sys2Proof.Machine.execDmSample temp vin vhold sensors us s
  | .vcoreTrim p op v => Sys2Proof.Machine.execVcoreTrim p op v s
  | .loadlineStep high low => Sys2Proof.Machine.execLoadlineStep high low s
  | .marginAlarm => Sys2Proof.Machine.execMarginAlarm s
  | .phaseOpen u phase => Sys2Proof.Machine.execPhaseOpen u phase s
  | .senseCheck u readings expected => Sys2Proof.Machine.execSenseCheck u readings expected s
  | .foldbackEntry u => Sys2Proof.Machine.execFoldbackEntry u s
  | .foldbackExit u => Sys2Proof.Machine.execFoldbackExit u s
  | .foldbackShutdown => Sys2Proof.Machine.execFoldbackShutdown s
  | .phaseRestore p => Sys2Proof.Machine.execPhaseRestore p s
  | .dutPhaseRestore p n => Sys2Proof.Machine.execDutPhaseRestore p n s
  | .vinLoss => Sys2Proof.Machine.execVinLoss s
  | .vinReturn => Sys2Proof.Machine.execVinReturn s
  | .vinSleep => Sys2Proof.Machine.execVinSleep s
  | .fullChargePoint => Sys2Proof.Machine.execFullChargePoint s
  | .chargeFail => Sys2Proof.Machine.execChargeFail s
  | .holdupEstimate vin v flow => Sys2Proof.Machine.execHoldupEstimate vin v flow s
  | .holdupTest path => Sys2Proof.Machine.execHoldupTest path s
  | .holdupTestDone fall => Sys2Proof.Machine.execHoldupTestDone fall s
  | .powerOn vin => Sys2Proof.Machine.execPowerOn vin s
  | .refClkValid pass newFw running => Sys2Proof.Machine.execRefClkValid pass newFw running s
  | .bootComplete population => Sys2Proof.Machine.execBootComplete population s
  | .coldReset => Sys2Proof.Machine.execColdReset s
  | .warmReset => Sys2Proof.Machine.execWarmReset s
  | .warmResetRelease newFw => Sys2Proof.Machine.execWarmResetRelease newFw s
  | .resetCmdWarm p => Sys2Proof.Machine.execResetCmdWarm p s
  | .resetCmdCold p => Sys2Proof.Machine.execResetCmdCold p s
  | .vauxLoss => Sys2Proof.Machine.execVauxLoss s
  | .railCollapse => Sys2Proof.Machine.execRailCollapse s
  | .thermalShutdown => Sys2Proof.Machine.execThermalShutdown s
  | .selftestRetry pass running => Sys2Proof.Machine.execSelftestRetry pass running s
  | .coldResetRelease => Sys2Proof.Machine.execColdResetRelease s
  | .pciePerstNDeassert => Sys2Proof.Machine.execPciePerstNDeassert s
  | .pcieLinkUp speed width => Sys2Proof.Machine.execPcieLinkUp speed width s
  | .pcieConfigRequest d3 bme msixEnable msixMask severity => Sys2Proof.Machine.execPcieConfigRequest d3 bme msixEnable msixMask severity s
  | .msixMaskWrite vector masked => Sys2Proof.Machine.execMsixMaskWrite vector masked s
  | .ebusLinkChange port up => Sys2Proof.Machine.execEbusLinkChange port up s
  | .clampConductionEnd n => Sys2Proof.Machine.execClampConductionEnd n s
  | .dutSupplyDischarged n us => Sys2Proof.Machine.execDutSupplyDischarged n us s
  | .mrCmdComplete n answers ns => Sys2Proof.Machine.execMrCmdComplete n answers ns s
  | .frameMoveDone => Sys2Proof.Machine.execFrameMoveDone s
  | .phaseRestoreDone j pass us => Sys2Proof.Machine.execPhaseRestoreDone j pass us s
  | .thermalWakeRelease => Sys2Proof.Machine.execThermalWakeRelease s
  | .bcnHeartbeat => Sys2Proof.Machine.execBcnHeartbeat s
  | .refusedRead p index sub size aligned => Sys2Proof.Machine.execRefusedRead p index sub size aligned s

end Sys2Proof.Machine
end

