-- ==== Sys2Proof/WellFormed.lean ====
section
/-! DEFINITION. The operands a command can carry in the block's real surroundings. A command whose operands are ill-formed still has a
meaning: what does not fit is cut off or refused as the rules say. -/

namespace Sys2Proof

/-- An index and a subindex of the dictionary (R55). -/
def objectOk (index sub : Nat) : Bool := decide (index < 0x10000) && decide (sub < 0x100)

/-- The fields of an SOP as its bits allow (R102), and the blocks that its length announces. -/
def sopOk (seq kind len blocks : Nat) : Bool := decide (seq < 4096) && decide (kind < 16) && decide (len < 256) && decide (blocks ≤ 256)

/-- A value of 16 bits. -/
def word16 (n : Nat) : Bool := decide (n < 0x10000)

/-- A channel takes up to two DIMMs (R14); there are four channels. -/
def populationOk (l : List (List Dimm)) : Bool := decide (l.length ≤ 4) && l.all fun d => decide (d.length ≤ 2)

/-- The operands of a command are such as can occur. Where an operand's type already says so, nothing is left to check. -/
def Instr.wf : Instr → Bool
  | .objectWrite _ index sx _ _ _ => objectOk index sx
  | .highReadCopy index sx => objectOk index sx
  | .highWriteMerge index sx _ _ => objectOk index sx
  | .refusedRead _ index sx _ _ => objectOk index sx
  | .sdoDownload index parts _ => objectOk index 0 && parts.all fun x => decide (x.1 < 0x100)
  | .sdoUpload index sx _ => objectOk index sx
  | .sdoInformation _ index sx => objectOk index sx
  | .pllRelock us => decide (us ≤ 10)
  | .linkActive _ f us => decide (64 ≤ f.headers) && decide (f.align ≤ 65) && decide (16 ≤ f.seen) && decide (us ≤ 1000)
  | .rxPacket _ _ seq kind len _ _ body => sopOk seq kind len body.blocks.length
  | .streamWrite _ _ _ _ _ lines _ data _ => data.length == 64 * (lines + 1)
  | .streamWriteMasked _ _ _ _ _ _ _ data _ => data.length == 64
  | .readCheck _ _ noise => decide (noise.length ≤ 80)
  | .channelResume _ _ corrections => decide (corrections.length ≤ 768)
  | .msgRegWrite _ _ w values _ _ => decide (w + values.length ≤ 64)
  | .bar2Write _ data _ _ _ => decide (1 ≤ data.length) && decide (data.length ≤ 512)
  | .bar2Read _ len => decide (1 ≤ len) && decide (len ≤ 4096)
  | .sbWrite _ _ _ _ _ data _ => decide (data.length ≤ 256)
  | .supplySample _ _ remote near milliamps => word16 remote && word16 near && word16 milliamps
  | .dutSupplyDischarged _ us => decide (us ≤ 2000)
  | .dmSample _ vin vhold _ _ => word16 vin && word16 vhold
  | .holdupEstimate vin v _ => word16 vin && word16 v
  | .bootComplete population => populationOk population
  | .nvsOperationDone us _ _ _ _ _ => decide (us ≤ 50000)
  | .phaseRestoreDone _ _ us => decide (us ≤ 1000)
  | .lockLeaseExpiry start => decide (start < 2 ^ 34)
  | _ => true

end Sys2Proof
end

