-- ==== Sys2Proof/Safety.lean ====
section
/-! DEFINITION. The terms in which claims about the block are made: what a command finds and what it ends with, when a write is taken, when a tile's
instruction issues, when nothing falls due, and what is left unchanged. -/

namespace Sys2Proof.Machine

/-! Runs. -/

/-- The state a command's own effect finds: what the last command sent on the control links is gone. -/
def State.fresh (s : State) : State := { s with sent := [] }

/-- What a command ends with, when `e` is what its own effect leaves: reactions, deliveries and what falls due at once, with the queue of
waiting commands as it was. -/
def State.ends (s e : State) : State := { e.finish with pending := s.pending }

/-- Nothing falls due after an effect. -/
def State.Calm (e : State) : Prop := e.finish = e

/-- n steps, one after the other. -/
def stepsN : Nat → State → Host.Outcome State Fault Refusal
  | 0, s => .next s
  | n + 1, s => match step s with
    | .next t => stepsN n t
    | o => o

/-- A run is safe while every step answers a next state. -/
def safeRun (n : Nat) (s : State) : Bool := match stepsN n s with | .next _ => true | _ => false

/-! Writes at the dictionary port. -/

/-- The port takes a write at once: the path is up and no write is held (R78, R81); the write passes the checks of R696 and of its block; it is
neither queued in a batch (R73) nor held for the management core (R86). `r` is the object's row and `v` the value it takes. -/
structure State.Takes (s : State) (w : Wr) (r : Row) (v : Nat) : Prop where
  up : s.pathUp w.path = true
  heard : s.sidebandMute w = false
  free : s.port.held = []
  plain : w.key ≠ Obj.domainCommit ∨ w.path ≠ .pcie
  single : w.commits = false
  found : s.look w.path w.index w.sub = .found r
  value : s.wrValue r w = v
  admitted : s.portRefuses w = none
  unbatched : s.batchFor w = none
  alone : s.needsCore [w] = false
  fits : s.lateCheck (s.tentative r w.key v w.data) w.path r w.key v = none

/-- What the port makes of a write that it takes, when `f` is what the write does to its block, given the value that the object held before:
the write wakes the engine (R572) and renews the lease of the session's owner (R70), the object takes the value (R58 to R62), the block does
its part, the path is answered (R79), and the host queues that waited go on (R483). -/
def State.accepting (s : State) (w : Wr) (r : Row) (v : Nat) (f : Nat → State → State) : State :=
  let s := if w.key = Obj.pwrRequest ∧ v = 1 then s else s.writeWakes
  let s := if w.merges r then s.setObj Obj.highWrite 0 else s
  let s := if s.owns w.path then s.renewLease else s
  let s := s.beforeWrite w.key
  let t := f (s.obj w.key) (s.objectTakes r w.key v w.data)
  let t := if w.form = .commit then t.cmdDone Obj.domainCommit else t
  (t.answerTo w.path 0).pumpHosts

/-! The lock table. -/

/-- The locks are in order: no two have a common line, there are at most 64 and at most four of one requester, and each lies below MAP_TOP
(R184). -/
def State.locksFit (s : State) : Prop :=
  s.locks.Pairwise (fun l m => overlaps l.start l.range m.start m.range = false) ∧ s.locks.length ≤ 64 ∧
    (∀ q, (s.locks.filter fun l => l.holder == q).length ≤ 4) ∧ ∀ l ∈ s.locks, 0 < l.range ∧ (l.start + l.range) * 64 ≤ s.mapTop

/-! Instructions of the tiles. -/

/-- A tile issues a word next (R399): the context `i` at the clock `c`, its instruction word `w` being one that no rule of R400 to R402 forbids. -/
structure State.Issues (s : State) (t i c w : Nat) : Prop where
  turn : s.issuer t = some (i, c)
  fetched : ((s.ctx t i).mem.getD (s.ctx t i).pc 0).toNat = w
  legal : illegal w = false
  bound : ((operandsOf w).find? fun o => isEdge o && (s.edgeFor t i o).isNone) = none

/-- A router output has served an input queue on a clock: the flit is gone from the queue, and the round-robin position and the next free clock of the output
move on (R405). -/
def Tile.hopped (x : Tile) (out q c : Nat) : Tile :=
  { x with
    queues := x.queues.set q ((x.queues.getD q []).drop 1)
    turn := x.turn.set out ((q + 1) % 5)
    free := x.free.set out (c + 1) }

/-- The flit at the back of a router's input queue. -/
def Tile.enters (x : Tile) (q : Nat) (f : Flit) : Tile := { x with queues := x.queues.set q (x.queues.getD q [] ++ [f]) }

/-- The word at the back of an inbox. -/
def Ctx.gets (x : Ctx) (j : Nat) (w : InWord) : Ctx := { x with inboxes := x.inboxes.set j (x.inboxes.getD j [] ++ [w]) }

/-- The state at the clock of issue. -/
def State.issued (s : State) (t c : Nat) : State := (s.advanceCyc c).modTile t fun y => { y with next := c + 1 }

end Sys2Proof.Machine

namespace Sys2Proof

open Sys2Proof.Machine

/-- The path, object and value of a command that writes one object of the dictionary. -/
def Instr.writes : Instr → Option (Path × Nat × Nat)
  | .claim p => some (p, Obj.sessionCmd, 1)
  | .renew p => some (p, Obj.sessionCmd, 2)
  | .release p => some (p, Obj.sessionCmd, 3)
  | .batchBegin p => some (p, Obj.batchCmd, 1)
  | .batchCancel p => some (p, Obj.batchCmd, 3)
  | .domainSelect v => some (.pcie, Obj.domainSelect, v.toNat)
  | .domainDataWrite v => some (.pcie, Obj.domainData, v.toNat)
  | .decodeAddress p a => some (p, Obj.decodeAddress, a.toNat)
  | .opRequest p v => some (p, Obj.opRequest, v.toNat)
  | .shmooOffset p v => some (p, Obj.shmooOffset, v.toNat)
  | .pbCkMult p n v => some (p, (Obj.pb0CkMult + n), v.toNat)
  | .portEnable p port v => some (p, (Obj.portEnable port), v.toNat)
  | .retrain p port v => some (p, (Obj.retrain port), v.toNat)
  | .clientAbort p client v => some (p, (Obj.clientAbort client), v.toNat)
  | .portAbort p port v => some (p, (Obj.portAbort port), v.toNat)
  | .hqAbort p q v => some (p, (Obj.hqAbort q), v.toNat)
  | .fabAbortFg p v => some (p, Obj.fabAbortFg, v.toNat)
  | .fabAbortBg p v => some (p, Obj.fabAbortBg, v.toNat)
  | .clientEnable p client v => some (p, (Obj.clientEnable client), v.toNat)
  | .lockReleaseAll p v => some (p, Obj.lockReleaseAll, v.toNat)
  | .trainCmdSeeded p ch => some (p, (Obj.trainCmd ch), 1)
  | .trainCmdFull p ch => some (p, (Obj.trainCmd ch), 2)
  | .flipArm p ch v => some (p, (Obj.flipArm ch), v.toNat)
  | .peekAddress p ch v => some (p, (Obj.peekAddress ch), v.toNat)
  | .retireAdd p v => some (p, Obj.retireAdd, v.toNat)
  | .retireRemove p v => some (p, Obj.retireRemove, v.toNat)
  | .retireClear p v => some (p, Obj.retireClear, v.toNat)
  | .pbEnable p n v => some (p, (Obj.pbEnable n), v.toNat)
  | .pbCurlOutputs p n => some (p, (Obj.pbCurl n), 1)
  | .pbCurlDischarge p n => some (p, (Obj.pbCurl n), 2)
  | .mrWrite p n => some (p, (Obj.mrCmd n), 1)
  | .mrRead p n => some (p, (Obj.mrCmd n), 2)
  | .dutPowerDown p n => some (p, (Obj.dutPower n), 2)
  | .dutSetpoint p n k v => some (p, (Obj.setpoint n k), v.toNat)
  | .trackReset p n k v => some (p, (Obj.trackReset n k), v.toNat)
  | .calFull p n => some (p, (Obj.calCmd n), 1)
  | .calTrack p n => some (p, (Obj.calCmd n), 2)
  | .failClear p n v => some (p, (Obj.failClear n), v.toNat)
  | .ffArm p n site v => some (p, (Obj.ffArm n site), v.toNat)
  | .ctxStart p i => some (p, (Obj.ctxCmd i), 1)
  | .ctxStop p i => some (p, (Obj.ctxCmd i), 2)
  | .ctxUnload p i => some (p, (Obj.ctxCmd i), 3)
  | .ctxSwap p => some (p, Obj.swap, 1)
  | .loadFg p => some (p, Obj.imageCmd, 1)
  | .loadBg p => some (p, Obj.imageCmd, 2)
  | .scanOut p => some (p, Obj.scanCmd, 1)
  | .scanIn p => some (p, Obj.scanCmd, 2)
  | .scanExchange p => some (p, Obj.scanCmd, 3)
  | .frameSave p f => some (p, (Obj.frameMove f), 1)
  | .frameFetch p f => some (p, (Obj.frameMove f), 2)
  | .frameRelease p f => some (p, (Obj.frameMove f), 3)
  | .frameClear p f => some (p, (Obj.frameMove f), 4)
  | .msgGo p m => some (p, (Obj.msgGo m), 1)
  | .msgRelease p m => some (p, (Obj.msgRelease m), 1)
  | .msgEnable p m v => some (p, (Obj.msgEnable m), v.toNat)
  | .hqWindowBase p q v => some (p, (Obj.hqWindowBase q), v.toNat)
  | .hqEnable p q v => some (p, (Obj.hqEnable q), v.toNat)
  | .nvsStore p profile i => some (p, (saveKey profile false i), saveWord)
  | .nvsRestore p profile i => some (p, (saveKey profile true i), loadWord)
  | .areaWrite p v => some (p, Obj.areaWrite, v.toNat)
  | .areaErase p v => some (p, Obj.areaErase, v.toNat)
  | .hhRequest p => some (p, Obj.hhRequest, 1)
  | .fltResume p => some (p, Obj.fltResume, 1)
  | .ftwClear p v => some (p, Obj.ftw, v.toNat)
  | .requestRun p => some (p, Obj.pwrRequest, 0)
  | .requestDoze p => some (p, Obj.pwrRequest, 1)
  | .requestDormouse p => some (p, Obj.pwrRequest, 2)
  | .requestRetain p => some (p, Obj.pwrRequest, 3)
  | .requestWatch p => some (p, Obj.pwrRequest, 4)
  | .padRelease p => some (p, Obj.padRelease, 1)
  | .vcoreTrim p op v => some (p, (Obj.vcoreTrimOp op), v.toNat)
  | .phaseRestore p => some (p, Obj.phaseRestore, 1)
  | .dutPhaseRestore p n => some (p, (Obj.dutPhaseRestore n), 1)
  | .resetCmdWarm p => some (p, Obj.resetCmd, 1)
  | .resetCmdCold p => some (p, Obj.resetCmd, 2)
  | _ => none

/-- What a command that writes one object does to the object's block, by the command's own rule; `old` is the value that the object held. -/
def Instr.effect (c : Instr) (old : Nat) (s : State) : State :=
  match c with
  | .claim p => s.sessionCommand p 1
  | .renew p => s.sessionCommand p 2
  | .release p => s.sessionCommand p 3
  | .batchBegin _ => ({ s with session := { s.session with batch := some [] } }).cmdDone Obj.batchCmd
  | .batchCancel _ => ({ s with session := { s.session with batch := none } }).cmdDone Obj.batchCmd
  | .domainSelect _ => s.setObj Obj.domainOffset 0
  | .domainDataWrite v =>
    ({ s with staging := putBytes s.staging (s.obj Obj.domainOffset) (leBytes 4 v.toNat) }).setObj Obj.domainOffset (s.obj Obj.domainOffset + 4)
  | .decodeAddress _ a => s.setObj Obj.decodeResult (s.decodeResult a.toNat)
  | .opRequest _ v => s.opRequested v.toNat
  | .shmooOffset _ _ => s.shmooWritten
  | .portEnable _ port v => if old = v.toNat then s else if v = 1 then s.enablePort port else s.portOff port
  | .retrain _ port _ => s.retrainPort port
  | .clientAbort _ client _ => s.abortCommand (.client client)
  | .portAbort _ port _ => s.abortCommand (.port port)
  | .hqAbort _ q _ => s.abortCommand (.host q)
  | .fabAbortFg _ _ => s.abortCommand (.ctx 0)
  | .fabAbortBg _ _ => s.abortCommand (.ctx 1)
  | .clientEnable _ client v =>
    let s := s.unshedShown client
    if old = v.toNat then s else if v = 1 then s.clientOn client else s.startAbort (.client client) 1 true
  | .lockReleaseAll _ _ => (s.orphanLocks (fun _ => true) 4).cmdDone Obj.lockReleaseAll
  | .trainCmdSeeded _ ch => s.trainCommand ch 1
  | .trainCmdFull _ ch => s.trainCommand ch 2
  | .flipArm _ ch v =>
    (s.setObj (Obj.flipStatus ch) v.toNat).cmdDone (Obj.flipArm ch)
  | .peekAddress _ ch v => (s.setObj (Obj.peekAddress ch) 1).startPeek ch v.toNat
  | .retireAdd _ v => (s.retirePage v.toNat).cmdDone Obj.retireAdd
  | .retireRemove _ v => (s.unretirePage v.toNat).cmdDone Obj.retireRemove
  | .retireClear _ _ => (s.setFence []).cmdDone Obj.retireClear
  | .pbEnable _ n _ => s.pbEnableEffect n
  | .pbCurlOutputs _ n => s.pbCurlCmd n 1
  | .pbCurlDischarge _ n => s.pbCurlCmd n 2
  | .mrWrite _ n => s.mrStart n 1
  | .mrRead _ n => s.mrStart n 2
  | .dutPowerDown _ n => s.dutDown n
  | .dutSetpoint _ n k _ => s.newSetpoint n k
  | .trackReset _ n k _ => (s.modSupply n k fun y => { y with trackArm := true }).cmdDone (Obj.trackReset n k)
  | .calFull _ n => s.calStart n true true
  | .calTrack _ n => s.calStart n false true
  | .failClear _ n _ => s.failClear n
  | .ffArm _ n site _ => s.armFirstFail n site
  | .ctxStart _ i => s.ctxCommand i 1
  | .ctxStop _ i => s.ctxCommand i 2
  | .ctxUnload _ i => s.ctxCommand i 3
  | .ctxSwap _ => s.swapCtxs
  | .loadFg _ => s.imageStart 0 (s.areaContent (s.obj Obj.imageAreaEntry))
  | .loadBg _ => s.imageStart 1 (s.areaContent (s.obj Obj.imageAreaEntry))
  | .scanOut _ => s.scanStart 1
  | .scanIn _ => s.scanStart 2
  | .scanExchange _ => s.scanStart 3
  | .frameSave _ f => s.moveStart f 1
  | .frameFetch _ f => s.moveStart f 2
  | .frameRelease _ f => s.moveStart f 3
  | .frameClear _ f => s.moveStart f 4
  | .msgGo p m => s.msgGoes m (partyOf p)
  | .msgRelease _ m => (s.msgConsume m).cmdDone (Obj.msgRelease m)
  | .msgEnable _ m _ => s.msgEnableEffect m
  | .hqEnable _ q v => if old = v.toNat then s else if v = 1 then s.fillBucket (0x100 + q) else s.startAbort (.host q) 1 false
  | .nvsStore _ _ i => s.nvsBegin false (i + 1)
  | .nvsRestore _ _ i => s.nvsBegin true (i + 1)
  | .areaWrite _ v => s.areaBegin Obj.areaWrite v.toNat (s.dom Obj.imageStaging)
  | .areaErase _ v => (s.areaErase v.toNat).cmdDone Obj.areaErase
  | .hhRequest _ => s.hhRequested
  | .fltResume _ => s.fltResumed
  | .requestRun _ => s.pwrRequested 0
  | .requestDoze _ => s.pwrRequested 1
  | .requestDormouse _ => s.pwrRequested 2
  | .requestRetain _ => s.pwrRequested 3
  | .requestWatch _ => s.pwrRequested 4
  | .padRelease _ => s.padReleases
  | .vcoreTrim _ op _ => if op.val = s.obj Obj.opCurrent then s.applySetpoint else s
  | .phaseRestore _ => s.restoreStart 0
  | .dutPhaseRestore _ n => s.restoreStart (1 + n)
  | .resetCmdWarm _ => s.warmDetected 5
  | .resetCmdCold _ => s.coldDetected 3
  | _ => s

/-- The tile, the parity input, the opcode and the function of an instruction of two operands (R402). -/
def Instr.binary : Instr → Option (Fin 256 × Bool × Nat × (Word → Word → Word))
  | .add t p => some (t, p, 0x01, fun a b => a + b)
  | .sub t p => some (t, p, 0x02, fun a b => a - b)
  | .andOp t p => some (t, p, 0x03, fun a b => a &&& b)
  | .orOp t p => some (t, p, 0x04, fun a b => a ||| b)
  | .xorOp t p => some (t, p, 0x05, fun a b => a ^^^ b)
  | .shl t p => some (t, p, 0x06, fun a b => a <<< (b.toNat % 32))
  | .shr t p => some (t, p, 0x07, fun a b => a >>> (b.toNat % 32))
  | .sar t p => some (t, p, 0x08, fun a b => a.sshiftRight (b.toNat % 32))
  | .rol t p => some (t, p, 0x09, fun a b => a.rotateLeft (b.toNat % 32))
  | .mul t p => some (t, p, 0x0A, fun a b => a * b)
  | .mulhu t p => some (t, p, 0x0B, fun a b => BitVec.ofNat 32 (a.toNat * b.toNat / 2 ^ 32))
  | .minu t p => some (t, p, 0x0C, fun a b => if a.toNat ≤ b.toNat then a else b)
  | .maxu t p => some (t, p, 0x0D, fun a b => if a.toNat ≤ b.toNat then b else a)
  | .sltu t p => some (t, p, 0x0E, fun a b => if a.toNat < b.toNat then 1 else 0)
  | .seqOp t p => some (t, p, 0x0F, fun a b => if a = b then 1 else 0)
  | .pext t p => some (t, p, 0x10, Machine.pext)
  | .pdep t p => some (t, p, 0x11, Machine.pdep)
  | .popc t p => some (t, p, 0x12, fun a b => Machine.popc (a &&& b))
  | .par t p => some (t, p, 0x13, fun a b => Machine.popc (a &&& b) &&& 1)
  | _ => none

/-- The same for an instruction of one operand and perhaps a 16-bit immediate (R402). -/
def Instr.unary : Instr → Option (Fin 256 × Bool × Nat × (Word → Nat → Word))
  | .brev t p => some (t, p, 0x14, fun a _ => Machine.brev a)
  | .clz t p => some (t, p, 0x15, fun a _ => Machine.clz a)
  | .addi t p => some (t, p, 0x20, fun a imm => a + (BitVec.ofNat 16 imm).signExtend 32)
  | .andi t p => some (t, p, 0x21, fun a imm => a &&& BitVec.ofNat 32 imm)
  | .ori t p => some (t, p, 0x22, fun a imm => a ||| BitVec.ofNat 32 imm)
  | .xori t p => some (t, p, 0x23, fun a imm => a ^^^ BitVec.ofNat 32 imm)
  | .shli t p => some (t, p, 0x24, fun a imm => a <<< (imm % 32))
  | .shri t p => some (t, p, 0x25, fun a imm => a >>> (imm % 32))
  | .sari t p => some (t, p, 0x26, fun a imm => a.sshiftRight (imm % 32))
  | .sltui t p => some (t, p, 0x28, fun a imm => if a.toNat < imm then 1 else 0)
  | _ => none

/-- The FE point and the kind of a command that the fabric pushes to it (R412). -/
def Instr.fe : Instr → Option (Fin 16 × ReqKind)
  | .feRead e => some (e, .read)
  | .feWrite e => some (e, .write)
  | .feWriteMasked e => some (e, .masked)
  | .feFence e => some (e, .fence)
  | .feLock e => some (e, .lock)
  | .feUnlock e => some (e, .unlock)
  | _ => none

end Sys2Proof
end

