-- ==== Sys2Proof/Certificates/Slice0/Obligations.lean ====
section
/-! DEFINITION. What is claimed of the block, for the provers. In a statement `s` is the state a command is given, `a` the state its own effect finds
(State.fresh), and `s.ends e` the next state when `e` is what its own effect leaves (State.ends). -/

open Sys2Proof Sys2Proof.Machine

/-- A step runs the command at the front of the queue on the state with the rest of the queue; with no command waiting one clock passes. -/
def Obligations.StepRunsFront : Prop :=
  ∀ (s : State) (c : Instr) (rest : List Instr),
    (s.pending = c :: rest → step s = exec c { s with pending := rest }) ∧ (s.pending = [] → step s = .next s.idle)

/-- The write commands of the dictionary, the clocks, the power states, the regulators, the faults, the settings store and the resets: CLAIM, RENEW, RELEASE, BEGIN, CANCEL,
DOMAIN_SELECT, DOMAIN_DATA_WRITE, OP_REQUEST, SHMOO_OFFSET, PB_CK_MULT, the stores and restores, AREA_WRITE, AREA_ERASE, HH_REQUEST, FLT_RESUME, FTW_CLEAR,
PWR_REQUEST with its five values, PAD_RELEASE, VCORE_TRIM, PHASE_RESTORE, DUT_PHASE_RESTORE and RESET_CMD: when the dictionary port takes the write at once, the command
completes: the object takes the value, the block does what the command's own rule says (Instr.effect), and the path is answered. -/
def Obligations.EngineWriteCommandsComplete : Prop :=
  ∀ (c : Instr) (p : Path) (k v0 v : Nat) (x r : Row) (w : Wr) (s a : State), a = s.fresh → c.writes = some (p, k, v0) → k / 0x100 < 0x3000 → rowOf k = some x →
    w = wrOf p k x.ty.size v0 → a.Takes w r v → exec c s = .next (s.ends (a.accepting w r v c.effect))

/-- The write commands of the store: TRAIN_CMD seeded and full, FLIP_ARM, PEEK_ADDRESS, DECODE_ADDRESS, LOCK_RELEASE_ALL, RETIRE_ADD, RETIRE_REMOVE and RETIRE_CLEAR: when the dictionary port takes the write at once, the command
completes: the object takes the value, the block does what the command's own rule says (Instr.effect), and the path is answered. -/
def Obligations.StoreWriteCommandsComplete : Prop :=
  ∀ (c : Instr) (p : Path) (k v0 v : Nat) (x r : Row) (w : Wr) (s a : State), a = s.fresh → c.writes = some (p, k, v0) → 0x3000 ≤ k / 0x100 → k / 0x100 < 0x3800 → rowOf k = some x →
    w = wrOf p k x.ty.size v0 → a.Takes w r v → exec c s = .next (s.ends (a.accepting w r v c.effect))

/-- The write commands of the probe channels and their supplies: PB_ENABLE, PB_CURL, MR_CMD, DUT_POWER DOWN, DUT_SETPOINT, TRACK_RESET, CAL_CMD, FAIL_CLEAR and FF_ARM: when the dictionary port takes the write at once, the command
completes: the object takes the value, the block does what the command's own rule says (Instr.effect), and the path is answered. -/
def Obligations.ProbeWriteCommandsComplete : Prop :=
  ∀ (c : Instr) (p : Path) (k v0 v : Nat) (x r : Row) (w : Wr) (s a : State), a = s.fresh → c.writes = some (p, k, v0) → 0x3800 ≤ k / 0x100 → k / 0x100 < 0x4000 → rowOf k = some x →
    w = wrOf p k x.ty.size v0 → a.Takes w r v → exec c s = .next (s.ends (a.accepting w r v c.effect))

/-- The write commands of the clients, ports, host queues, message channels and the fabric: CLIENT_ENABLE, CLIENT_ABORT, PORT_ENABLE, PORT_ABORT, RETRAIN, HQ_ABORT, HQ_ENABLE,
HQ_WINDOW_BASE, MSG_GO, MSG_RELEASE, MSG_ENABLE, FAB_ABORT, CTX_CMD, SWAP, IMAGE_CMD, SCAN_CMD and FRAME_MOVE: when the dictionary port takes the write at once, the command
completes: the object takes the value, the block does what the command's own rule says (Instr.effect), and the path is answered. -/
def Obligations.ClientWriteCommandsComplete : Prop :=
  ∀ (c : Instr) (p : Path) (k v0 v : Nat) (x r : Row) (w : Wr) (s a : State), a = s.fresh → c.writes = some (p, k, v0) → 0x4000 ≤ k / 0x100 → rowOf k = some x →
    w = wrOf p k x.ty.size v0 → a.Takes w r v → exec c s = .next (s.ends (a.accepting w r v c.effect))

/-- OBJECT_WRITE, HIGH_WRITE_MERGE, BATCH_COMMIT, DOMAIN_COMMIT and CROSS_OBJECT_CHECK_DONE: the write that the port takes is accepted, with what it does to
its block (R58 to R62); a 4-byte write of a 64-bit object takes its upper half from HIGH_WRITE (R76); a batch that passes is accepted whole, in order, and
BATCH_CMD reads DONE (R73); a DOMAIN_COMMIT writes the first bytes of the staging buffer to the selected object (R77); the write held for the
management core is accepted when its check ends and passes, the reads that waited for it are served, and the writes behind it go on (R78, R81). -/
def Obligations.PortWritesComplete : Prop :=
  ∀ s a : State, a = s.fresh →
    (∀ p index sub data aligned poisoned w r v,
      w = ({ path := p, index := index, sub := sub, data := data, aligned := aligned, poisoned := poisoned, form := .slot } : Wr) → a.Takes w r v →
      exec (.objectWrite p index sub data aligned poisoned) s =
        .next (s.ends (a.accepting w r v fun old t => t.blockWrite p w.key v old data))) ∧
    (∀ index sub low poisoned w r v x,
      w = ({ path := .pcie, index := index, sub := sub, data := leBytes 4 low.toNat, aligned := true, poisoned := poisoned, form := .slot } : Wr) →
      rowOf w.key = some x → x.ty.size = 8 → a.Takes w r v →
      exec (.highWriteMerge index sub low poisoned) s =
        .next (s.ends (a.accepting w r v fun old t => t.blockWrite .pcie w.key v old w.data)) ∧
      v = low.toNat + a.obj Obj.highWrite % 2 ^ 32 * 2 ^ 32) ∧
    (∀ p w ws t, w = wrOf p Obj.batchCmd 1 2 → a.pathUp p = true → a.port.held = [] → a.portRefuses w = none → a.batchFor w = none → a.needsCore [w] = false →
      a.session.batch = some ws → t = { a with session := { a.session with batch := none } } → t.groupFails (t.groupTentative ws) ws = none →
      exec (.batchCommit p) s = .next (s.ends ((((t.acceptAll ws).cmdDone Obj.batchCmd).renewLease).answerTo p 0).pumpHosts)) ∧
    (∀ count w r v, a.pathUp .pcie = true → a.port.held = [] → a.portRefuses (wrOf .pcie Obj.domainCommit 4 count.toNat) = none → count.toNat ≤ 65536 →
      w = a.commitTarget (wrOf .pcie Obj.domainCommit 4 count.toNat) → a.Takes w r v →
      exec (.domainCommit count) s = .next (s.ends (a.accepting w r v fun old t => t.blockWrite .pcie w.key v old w.data)) ∧
      w.key = a.obj Obj.domainSelect % 65536 * 0x100 + a.obj Obj.domainSelect / 65536 ∧
      w.data = (a.staging ++ zeros (count.toNat - a.staging.length)).take count.toNat) ∧
    (∀ us w t r v u, a.awake = true → a.mgUp = true → a.port.held = [w] → w.commits = false →
      t = { a.advanceTo (a.now + us.val * usTicks) with port := { a.port with held := [] } } → t.spelled w = some (r, v) →
      t.lateCheck (t.tentative r w.key v w.data) w.path r w.key v = none → u = (t.acceptWrite w r v).groupDone →
      exec (.crossObjectCheckDone us) s = .next (s.ends (u.drainPort u.port.queue.length).pumpHosts))

/-- Reads, refused reads and the session's ends: a 4-byte BAR0 read of a 64-bit object answers its low half and copies the high half to HIGH_READ
(R76); a read of DOMAIN_DATA answers four bytes and advances DOMAIN_OFFSET by 4 (R77); a refused read is recorded and changes nothing else (R79, R85);
any other read is answered in the form of its path (R57, R77, R78), and one over BAR0 behind a write of the host that is not decided waits for it (R78);
the lease of 500 ms runs out, or the owning path drops, and the session is free (R70, R71). -/
def Obligations.ReadsAndSessionComplete : Prop :=
  ∀ s a : State, a = s.fresh →
    (∀ index sub r v, a.canRead .pcie = true → a.look .pcie index sub = .found r → r.ty.size = 8 → r.bytes = false → r.acc ≠ .wo →
      v = a.view (index * 0x100 + sub) →
      exec (.highReadCopy index sub) s =
        .next (s.ends { a.setObj Obj.highRead (v / 2 ^ 32) with answer := { path := .pcie, reason := 0, data := leBytes 4 v } })) ∧
    (∀ r t o d, a.canRead .pcie = true → t = a.obj Obj.domainSelect → o = a.obj Obj.domainOffset → a.look .pcie (t % 65536) (t / 65536) = .found r →
      d = a.readBytes r (t % 65536 * 0x100 + t / 65536) →
      exec .domainDataRead s = .next (s.ends { a.setObj Obj.domainOffset ((o + 4) % 2 ^ 32) with
        answer := { path := .pcie, reason := 0, data := ((d.drop o).take 4 ++ zeros 4).take 4 } })) ∧
    (∀ p index sub n aligned e, a.canRead p = true → a.readRefused p index sub n aligned = some e →
      exec (.refusedRead p index sub n aligned) s = .next (s.ends { a.refuse p index sub e with answer := { path := p, reason := e, data := match p with
        | .pcie => List.replicate n 0xFF
        | .coe => leBytes 4 (sdoAbort e)
        | _ => [] } })) ∧
    (∀ p index sub n aligned r, a.canRead p = true → a.readRefused p index sub n aligned = none → a.look p index sub = .found r →
      exec (.refusedRead p index sub n aligned) s = .next (s.ends (a.giveRead p r index sub n))) ∧
    (∀ index sub n aligned, a.pathUp .pcie = true → a.pcieWaits = true →
      exec (.refusedRead .pcie index sub n aligned) s = .next (s.ends (a.waitRead index sub n aligned))) ∧
    (a.awake = true → a.session.owner ≠ 0 →
      exec .sessionLeaseExpiry s = .next (s.ends (({ a.advanceTo a.session.due with session := {} }).bump Obj.sessionExpiries))) ∧
    (∀ p, p ≠ .fabric → a.session.owner = pathCode p →
      exec (.sessionDrop p) s = .next (s.ends (({ a with session := {} }).bump Obj.sessionDrops)))

/-- A write that fails a check is refused whole: only the record of the refusal, the counters of refusals and the answer change (R79, R84, R85). -/
def Obligations.RefusedWriteChangesNothingElse : Prop :=
  ∀ (s a : State) (p : Path) (index sub : Nat) (data : List Byte) (aligned poisoned : Bool) (w : Wr) (e : Nat), a = s.fresh →
    w = ({ path := p, index := index, sub := sub, data := data, aligned := aligned, poisoned := poisoned, form := .slot } : Wr) →
    a.pathUp p = true → a.sidebandMute w = false → a.port.held = [] → (w.key ≠ Obj.domainCommit ∨ p ≠ .pcie) → a.portRefuses w = some e →
    exec (.objectWrite p index sub data aligned poisoned) s = .next (s.ends (a.rejectWrite w 0 e false).pumpHosts) ∧
    (∀ k, k ≠ Obj.refusalCount → k ≠ Obj.dictStatus → k ≠ Obj.lastRefusal → k ≠ Obj.lastRefusalTs → k ≠ Obj.pcieLastResult → e ≠ 8 → (poisoned = true → p ≠ .pcie) →
      ¬(0x4400 ≤ index ∧ index < 0x4420) → (a.rejectWrite w 0 e false).obj k = a.obj k) ∧
    (a.rejectWrite w 0 e false).shadows = a.shadows ∧ (a.rejectWrite w 0 e false).session = a.session ∧
    (a.rejectWrite w 0 e false).obj Obj.refusalCount = min (objMax Obj.refusalCount) (a.obj Obj.refusalCount + 1) ∧
    (a.rejectWrite w 0 e false).obj Obj.lastRefusal = index + sub * 2 ^ 16 + e * 2 ^ 24 + pathCode p * 2 ^ 28 ∧
    (a.rejectWrite w 0 e false).obj Obj.lastRefusalTs = a.ts

/-- The clocks, the wheel and the operating points: what each event does, at its own time (R31, R35, R40, R48 to R51, R63, R215, R238, R610 to R612). -/
def Obligations.ClockEventsComplete : Prop :=
  ∀ s a : State, a = s.fresh →
    (∀ t, a.awake = true → t = (a.advanceTo a.nextFrame).dropShadows (fun h => h.bound == .frame) → (a.shadows.any fun h => h.key == Obj.tsMode) = false →
      exec .frameBoundary s = .next (s.ends (
        if t.obj Obj.shmooActual = 0 ∧ !t.bit Obj.clockStatus 6 ∧ !t.bit Obj.clockStatus 4 then
          if t.clk.regrid then ({ t with frameBase := t.now, clk := { t.clk with regrid := false } }).setBit Obj.clockStatus 6 true
          else { t with phase := 0, clk := { t.clk with regrid := true } }
        else t))) ∧
    (∀ t, a.awake = true → t = (a.advanceTo a.nextFrame).dropShadows (fun h => h.bound == .frame) → (a.shadows.any fun h => h.key == Obj.tsMode) = true →
      exec .frameBoundary s = .next (s.ends t.tsModeActs.realign)) ∧
    (∀ t, a.awake = true → t = (a.advanceCyc a.nextWrap).wheelWraps →
      exec .wheelWrap s = .next (s.ends (t.each t.acceptedChans fun ch u => u.clampOffsets ch))) ∧
    (∀ (ch : Fin 4) t, a.awake = true → a.chanRuns ch.val = true → t = a.advanceCyc (a.wheelBase + ((a.cyc - a.wheelBase) / a.refD ch + 1) * a.refD ch) →
      exec (.refreshIntervalBoundary ch) s = .next (s.ends (((t.dropShadows fun h =>
        h.bound == .refreshInterval && h.key / 0x10000 == 0x30 + ch.val).multBoundary ch).kBoundary ch))) ∧
    (∀ op t, a.awake = true → a.clk.waiting = some op → a.clk.run = none → t = { a with clk := { a.clk with waiting := none } } →
      t.opFirstFail op false = none → exec .opRequestStart s = .next (s.ends (t.opBegin op))) ∧
    (∀ op t code reason, a.awake = true → a.clk.waiting = some op → a.clk.run = none → t = { a with clk := { a.clk with waiting := none } } →
      t.opFirstFail op false = some (code, reason) →
      exec .opRequestStart s = .next (s.ends ((t.opRefusal code).cmdFailed Obj.opRequest reason))) ∧
    (∀ us r t, a.awake = true → a.clk.run = some r → r.step = 4 → t = (a.advanceTo (r.retuneAt + min us 10 * usTicks)).setOp r.target →
      exec (.pllRelock us) s = .next (s.ends (if r.fromOp < r.target || r.forced then (t.opSlew r).opStep 5 else t.opResume r))) ∧
    (∀ r t, a.awake = true → a.clk.run = some r → r.step = 3 → t = a.regs.target →
      exec .vcoreSlewDone s = .next (s.ends ((a.advanceTo (a.vcoreReach (max (t - 100) (min t (vMin r.target))))).opRetune))) ∧
    (∀ r t, a.awake = true → a.clk.run = some r → r.step = 5 → t = a.regs.target →
      exec .vcoreSlewDone s = .next (s.ends ((a.advanceTo (a.vcoreReach (if t < a.regs.v0 then t + 100 else t - 100))).opResume r))) ∧
    (∀ t u, a.awake = true → a.shmooActual ≠ a.shmooTarget → a.bit Obj.clockStatus 4 = false → t = a.advanceTo (max (a.clk.slewAt + usTicks) a.now) →
      u = (({ t with clk := { t.clk with slewAt := t.now } }).setObj Obj.shmooActual
        (ofInt 16 (if a.shmooActual < a.shmooTarget then a.shmooActual + 1 else a.shmooActual - 1))).shmooShow →
      exec .shmooSlewStep s = .next (s.ends (u.each u.acceptedChans fun ch x => x.calcWdqs ch)))

/-- A clock failure and the recovery from it: the loss is counted, the clocks and the timestamp read unlocked, the line is raised, the probe channels are
curled, the store parks, the links go down and the fabric stops (R49); 1 ms after the reference is back everything returns, with VCORE raised before
CCLK, and at OP3 where the failure cut a forced move (R51, R612). -/
def Obligations.ClockFailureAndRecovery : Prop :=
  ∀ s a : State, a = s.fresh →
    (∀ (why : Fin 5) r b t u, a.awake = true → a.bit Obj.live 50 = false → (why.val = 4 → a.clk.run = some r ∧ r.step = 4) →
      b = (if why.val = 4 then a.advanceTo (r.retuneAt + 10 * usTicks) else a) → t = { b with clk := { b.clk with failedAt := b.now } } →
      u = (if why.val = 0 then (((t.setBit Obj.clockStatus 3 false).setBit Obj.clockStatus 1 false).setBit Obj.clockStatus 2 false).bump Obj.refLossCount
        else if why.val = 2 ∨ why.val = 3 then (t.setBit Obj.clockStatus (why.val - 1) false).bump Obj.unlockCount
        else t.bump Obj.unlockCount) →
      ∀ x, x = (((((u.setBit Obj.clockStatus 0 false).setBit Obj.clockStatus 4 true).setBit Obj.clockStatus 6
        false).stampsUnsure).opCut).beginCause 50 0 (sourceWord 0 0xFF) →
      exec (.clockFailure why) s = .next (s.ends (((x.each x.probeChans fun n y => y.curl n 4 false).parkStore).each
        (List.range 16) fun p y => y.linkGoesDown p 7).stopFabric)) ∧
    (∀ t at3, a.awake = true → a.bit Obj.live 50 = true → at3 = a.clk.recoverAt3 →
      t = ((((a.advanceTo (a.clk.failedAt + msTicks)).setBit Obj.clockStatus 0 true).setBit Obj.clockStatus 1 true).setBit Obj.clockStatus 2 true).setBit
        Obj.clockStatus 3 true →
      exec .clockRecovery s = .next (s.ends (
        let t := (t.zeroShmoo).setBit Obj.clockStatus 4 false
        let t := { t with clk := { t.clk with recoverAt3 := false } }
        let op := if at3 then 3 else t.obj Obj.opCurrent
        let t := (((t.llZero).raiseFirst op).setOp op).applySetpoint
        let t := if at3 then { t with regs := { t.regs with forcedEnd := some t.now } } else t
        let t := t.endCause 50 0
        let t := (if at3 then t.each t.acceptedChans fun ch x => x.placeFresh ch 3 else t).resumeParked (!at3)
        t.each ((List.range 16).filter fun p => t.obj (Obj.portEnable p) == 1) fun p x => x.startTraining p)))

/-- The timestamp: the alignment step at a frame boundary sets it from the system time; a slew omits or doubles one increment; an error beyond the window,
or an invalid system time, unlocks it (R40). -/
def Obligations.TimestampEventsComplete : Prop :=
  ∀ s a : State, a = s.fresh →
    (∀ ns t new, a.awake = true → a.clk.armed = true → a.obj Obj.tsMode = 1 → t = a.advanceTo a.nextFrame → new = tsOfNs ns →
      exec (.tsAlignStep ns) s = .next (s.ends (
        let u := { t with tsOff := (new + 2 ^ 64 - (t.now / 9) % 2 ^ 64) % 2 ^ 64,
                          clk := { t.clk with armed := false, adjustAt := t.now, unsure := t.bit Obj.clockStatus 4 } }
        let u := ((u.setObj Obj.tsLastStep ((new + 2 ^ 64 - t.ts) % 2 ^ 64)).setObj Obj.ectDcValid 1).setBit Obj.tsStatus 0 true
        (u.setBit Obj.tsStatus 1 true).showUnsure))) ∧
    (∀ double err t, a.awake = true → a.bit Obj.tsStatus 0 = true → t = a.advanceTo (max a.slewDue (a.now + 9)) →
      exec (.tsSlewAdjust double err) s = .next (s.ends ((({ t with
        tsOff := (if double then t.tsOff + 1 else t.tsOff + 2 ^ 64 - 1) % 2 ^ 64, clk := { t.clk with adjustAt := t.now } }).setObj Obj.tsDcError
        (ofInt 32 err)).setBit Obj.tsStatus 3 (!decide (a.slewDue ≤ a.now))))) ∧
    (∀ invalid err t, a.awake = true → t = (if invalid then a.setObj Obj.ectDcValid 0 else a) → t.bit Obj.tsStatus 0 = true →
      (invalid = true ∨ t.obj Obj.tsUnlockWindow < err.natAbs) →
      exec (.tsUnlock invalid err) s = .next (s.ends ((((t.setObj Obj.tsDcError (ofInt 32 err)).setBit Obj.tsStatus 0 false).setBit Obj.tsStatus 3
        false).bump Obj.tsUnlockCount)))

/-- The link layer of a stream port: training, its time-out and its retry, the loss of the link, packets, acknowledgements and replays, and what the
transmitter sends next (R104 to R108, R121, R122, R131, R132). -/
def Obligations.LinkEventsComplete : Prop :=
  ∀ (s a : State) (port : Fin 16), a = s.fresh → a.awake = true →
    (∀ (f : LinkFound) us t, (a.sp port).trainFrom = some t → 64 ≤ f.headers → f.align ≤ 65 → 16 ≤ f.seen → us ≤ 1000 → a.bit Obj.clockStatus 1 = true →
      a.bit Obj.live 50 = false →
      exec (.linkActive port f us) s = .next (s.ends ((a.advanceTo (t + us * usTicks)).linkComesUp port f.align us))) ∧
    (∀ t, (a.sp port).trainFrom = some t → exec (.trainTimeout port) s = .next (s.ends ((a.advanceTo (t + msTicks)).trainingFails port))) ∧
    (∀ t, (a.sp port).retryAt = some t → a.obj Obj.autoRetrain = 1 → a.obj (Obj.portEnable port) = 1 → a.obj (Obj.linkState port) = 3 →
      exec (.autoRetrainRetry port) s = .next (s.ends ((a.advanceTo t).startTraining port))) ∧
    (∀ frequency why t, a.linkActive port = true → why = (if frequency then 3 else 2) → t = (a.dropLink port).setObj (Obj.linkDownReason port) why →
      exec (.linkDown port frequency) s = .next (s.ends (((t.modSp port fun x => { x with trainFrom := none, retryAt := some t.now }).bump
        (Obj.linkDowns port)).beginCause 28 port (sourceWord port 0xFF)))) ∧
    (∀ seq, a.linkActive port = true → exec (.rxAck port seq) s =
      .next (s.ends (a.modSp port fun x => { x with unacked := dropAcked seq.toNat x.unacked }))) ∧
    (∀ seq t, a.linkActive port = true → t = a.modSp port (fun x => { x with unacked := dropAcked seq.toNat x.unacked }) →
      (t.sp port).unacked ≠ [] → (∀ u ∈ (t.sp port).unacked, u.waiting = true ∨ u.replays < 4) →
      exec (.rxNak port seq) s = .next (s.ends ((t.modSp port fun x => { x with unacked := x.unacked.map fun u : SentPacket =>
        { u with replays := u.replays + b2n (!u.waiting), waiting := true } }).bump (Obj.replays port)))) ∧
    (∀ t, 0 < (a.sp port).ackOwed →
      t = a.advanceTo (if 32 ≤ (a.sp port).ackOwed then (a.sp port).busyUntil else max (a.sp port).ackDue (a.sp port).busyUntil) →
      exec (.ackTimer port) s = .next (s.ends (if t.blocksFit port 1 then
        t.modSp port fun x => { x with ackOwed := 0, lane := [.ack x.lastGood], busyUntil := t.now + blockTime 1 } else t))) ∧
    (∀ u t, (a.sp port).unacked.find? (fun u => !u.waiting) = some u → a.linkActive port = true → t = a.advanceTo (u.sentAt + 4 * usTicks) →
      (∀ x ∈ (t.sp port).unacked, x.waiting = true ∨ x.replays < 4) → exec (.replayTimeout port) s =
        .next (s.ends ((t.modSp port fun x => { x with unacked := x.unacked.map fun u : SentPacket =>
          { u with replays := u.replays + b2n (!u.waiting), waiting := true } }).bump (Obj.replays port)))) ∧
    (∀ k b t, a.linkActive port = true → (a.sp port).unacked.find? (fun u => u.waiting) = none → (a.sp port).unacked.length < 256 →
      b = a.advanceTo (a.sp port).busyUntil →
      (t = b ∨ b.nextResponse port = none ∧ ∃ j rest, (a.sp port).txq = j :: rest ∧ t = b.advanceCyc j.depart) →
      t.nextResponse port = some k → t.laneRoom port k = true →
      exec (.txPacket port) s = .next (s.ends ((t.modSp port fun x => { x with txq := x.txq.erase k }).sendPacket port k))) ∧
    (∀ u t, a.linkActive port = true → (a.sp port).unacked.find? (fun u => u.waiting) = some u →
      t = a.advanceTo (a.sp port).busyUntil → (t.nextResponse port).any Packet.after = false → t.laneRoom port u.packet = true →
      exec (.txPacket port) s = .next (s.ends ((t.putPacket port u.packet u.seq true).modSp port fun x =>
        { x with unacked := x.unacked.map fun v : SentPacket => if v.seq = u.seq then { v with waiting := false, sentAt := t.now } else v }))) ∧
    (∀ (between : List (BitVec 8)) seq replayed blocks eop h0 t, a.ingressClosed = false → a.requestWakes.linkActive port = true →
      t = a.requestWakes.rxControls port (between.map BitVec.toNat) → seq = (t.sp port).rxSeq → seq < 4096 → blocks.length + 1 < 256 →
      eop.toNat = packetCrc (sopField seq 1 (blocks.length + 1) replayed) (h0.toNat :: blocks.map BitVec.toNat) →
      exec (.rxPacket port between seq 1 (blocks.length + 1) replayed true { blocks := h0 :: blocks, eop := eop }) s =
        .next (s.ends (((t.modSp port fun x => { x with rxSeq := (seq + 1) % 4096, discarding := false }).oweAck port).takeBlocks port
          (h0.toNat :: blocks.map BitVec.toNat) false))) ∧
    (∀ (between : List (BitVec 8)) seq kind len replayed intact blocks eop t, a.ingressClosed = false → a.requestWakes.linkActive port = true →
      t = a.requestWakes.rxControls port (between.map BitVec.toNat) →
      (intact = false ∨ blocks.length ≠ len % 256 ∨
        eop.toNat ≠ packetCrc (sopField (seq % 4096) (kind % 16) (len % 256) replayed) (blocks.map BitVec.toNat)) →
      exec (.rxPacket port between seq kind len replayed intact { blocks := blocks, eop := eop }) s = .next (s.ends ((t.badPacket port).nakPacket port)))

/-- A lockstep read leaves at its departure with LATE for every line that is not ready, and a client's watchdog answers its request TIMEOUT
(R120, R126, R220). -/
def Obligations.StreamDeadlinesComplete : Prop :=
  ∀ s a : State, a = s.fresh → a.awake = true →
    (∀ (port : Fin 16) r b d x t u, a.nextDeparture port = some r → b = (a.advanceCyc r.depart).slotArrivals →
      d = (if r.stage = .fabric then (b.bump (Obj.fabLate port)).pullFabric r else b) →
      t = d.each (d.ents.filter fun e => e.req == r.serial)
        (fun e y => if e.first.isSome then y.bump (y.lateCause e) else (y.bump (y.lateCause e)).dropEnt e.serial) →
      t.req? r.serial = some x → u = (if x.credited then { t with reqs := t.reqs.filter fun y : Req => y.serial != x.serial }
        else ({ t with reqs := t.reqs.filter fun y : Req => y.serial != x.serial }).giveCredit x.rq) →
      exec (.lockstepDeparture port) s = .next (s.ends (
        let z : Req := { x with status := x.status.map fun y : Option Nat => some (y.getD stLate) }
        let u := (u.countResponse z).modSp port fun y => { y with reserved := y.reserved.filter fun d => d.1 != x.depart }
        if !u.linkActive port then u
        else if 256 ≤ (u.sp port).unacked.length then u.linkGoesDown port 5
        else u.sendPacket port z.packet))) ∧
    (∀ (client : Fin 256) r d, a.nextWatchdog client = some (r, d) → exec (.clientWatchdogExpiry client) s =
      .next (s.ends ((((((a.advanceTo d).releaseDeparture r).pullFabric r).withdraw r stTimeout).bump (Obj.watchdogExpiries client)).raise 31 (sourceWord client 0xFF))))

/-- The requests of a stream port: when the packet is in shape, its tag free, its client enabled with a credit and room for an answer, the request
is taken with every field that the packet carries: opcode, sub-ID, tag, address, lines, flags, mask, range, lease and data (R109 to R114, R134). -/
def Obligations.StreamRequestsAreTaken : Prop :=
  ∀ (s a t : State) (port sub : Fin 16) (tag : BitVec 8), a = s.fresh → a.awake = true → a.ingressClosed = false → a.requestWakes.linkActive port = true →
    t = (a.requestWakes.modSp port fun x => { x with rxSeq := (x.rxSeq + 1) % 4096, discarding := false }).oweAck port →
    0 < t.credit (16 * port + sub) → t.clientServed (16 * port + sub) = true →
    ∀ free : Bool, free = (!((t.outstanding (16 * port + sub)).any fun r => r.tag == tag.toNat) && decide ((t.outstanding (16 * port + sub)).length < 64)) →
    (∀ (lines : Fin 4) (addr : BitVec 40) h0, free = true → addr.toNat % 64 = 0 → h0 = h0Of 1 sub tag.toNat false false false (lines + 1) addr.toNat →
      exec (.streamRead port sub tag lines addr) s = .next (s.ends (t.takeRequest { serial := 0, rq := 16 * port + sub, kind := .read, tag := tag.toNat, addr := addr.toNat, lines := lines + 1, words := [h0] }))) ∧
    (∀ (lines : Fin 4) (addr : BitVec 40) h0, free = true → addr.toNat % 64 = 0 → h0 = h0Of 1 sub tag.toNat false false true (lines + 1) addr.toNat →
      exec (.lockstepRead port sub tag lines addr) s = .next (s.ends (t.takeRequest { serial := 0, rq := 16 * port + sub, kind := .read, tag := tag.toNat, addr := addr.toNat, lines := lines + 1, lockstep := true, words := [h0] }))) ∧
    (∀ posted ordered (lines : Fin 4) (addr : BitVec 40) data openData h0 d, (posted = true ∨ free = true) → addr.toNat % 64 = 0 →
      h0 = h0Of 2 sub tag.toNat posted ordered false (lines + 1) addr.toNat → d = blocksOf (8 * (lines + 1)) data →
      exec (.streamWrite port sub tag posted ordered lines addr data openData) s = .next (s.ends (t.takeRequest { serial := 0, rq := 16 * port + sub, kind := .write, tag := tag.toNat, addr := addr.toNat, lines := lines + 1, posted := posted, ordered := ordered, data := (data ++ zeros (64 * (lines + 1))).take (64 * (lines + 1)), openData := openData, words := h0 :: d }))) ∧
    (∀ posted ordered (addr : BitVec 40) mask data openData h0 d, (posted = true ∨ free = true) → addr.toNat % 64 = 0 →
      h0 = h0Of 3 sub tag.toNat posted ordered false 1 addr.toNat → d = blocksOf 8 data →
      exec (.streamWriteMasked port sub tag posted ordered addr mask data openData) s = .next (s.ends (t.takeRequest { serial := 0, rq := 16 * port + sub, kind := .masked, tag := tag.toNat, addr := addr.toNat, posted := posted, ordered := ordered, data := (data ++ zeros 64).take 64, mask := mask.toNat, openData := openData, words := h0 :: mask.toNat :: d }))) ∧
    (∀ h0, free = true → h0 = h0Of 4 sub tag.toNat false false false 1 0 → exec (.streamFence port sub tag) s =
      .next (s.ends (t.takeRequest { serial := 0, rq := 16 * port + sub, kind := .fence, tag := tag.toNat, words := [h0] }))) ∧
    (∀ (addr : BitVec 40) range lease h0, free = true → addr.toNat % 64 = 0 → 1 ≤ range.toNat → 1 ≤ lease.toNat → lease.toNat ≤ 1000 →
      h0 = h0Of 5 sub tag.toNat false false false 1 addr.toNat →
      exec (.streamLock port sub tag addr range lease) s = .next (s.ends (t.takeRequest { serial := 0, rq := 16 * port + sub, kind := .lock, tag := tag.toNat, addr := addr.toNat, range := range.toNat, lease := lease.toNat, words := [h0, range.toNat + lease.toNat * 2 ^ 54] }))) ∧
    (∀ (addr : BitVec 40) h0, free = true → addr.toNat % 64 = 0 → h0 = h0Of 6 sub tag.toNat false false false 1 addr.toNat →
      exec (.streamUnlock port sub tag addr) s = .next (s.ends (t.takeRequest { serial := 0, rq := 16 * port + sub, kind := .unlock, tag := tag.toNat, addr := addr.toNat, words := [h0] })))


/-- A request packet spells its request: its header carries every field at every value the encoding admits (H0 of R111), its data blocks the bytes of its
lines, and a LOCK's second block its range and lease; reading the packet gives back each of them (R111, R112). -/
def Obligations.RequestPacketsSpellTheirRequests : Prop :=
  ∀ (opcode sub tag lines addr : Nat) (posted ordered lockstep : Bool), opcode < 16 → sub < 16 → tag < 256 → 1 ≤ lines → lines ≤ 4 → addr < 2 ^ 40 →
    ∀ h0 h, h0 = h0Of opcode sub tag posted ordered lockstep lines addr →
      h = ({ opcode := opcode, sub := sub, tag := tag, posted := posted, ordered := ordered, lockstep := lockstep, lines := lines, addr := addr } : Head) →
      h0 < 2 ^ 64 ∧ headOf h0 = h ∧
      (∀ c data, (reqOf c .write h (h0 :: blocksOf (8 * lines) data)).data = (data ++ zeros (64 * lines)).take (64 * lines)) ∧
      (∀ c mask data, mask < 2 ^ 64 → (reqOf c .masked h (h0 :: mask :: blocksOf 8 data)).mask = mask ∧
        (reqOf c .masked h (h0 :: mask :: blocksOf 8 data)).data = (data ++ zeros 64).take 64) ∧
      (∀ c range lease, range < 2 ^ 24 → lease < 2 ^ 10 → (reqOf c .lock h [h0, range + lease * 2 ^ 54]).range = range ∧
        (reqOf c .lock h [h0, range + lease * 2 ^ 54]).lease = lease)

/-- The request path: a request passes its regulator when it finds its tokens and room, leaves the crossbar when nothing holds it, its lines are granted
one a slot, but for one that tracking takes or a fill uses; quota windows, the guard, open writes, the arbitration watchdog, UNLOCK and FENCE; a lease that
runs out on the c of its UNLOCK or of a renewal loses to them (R142 to R160, R170, R178 to R191, R193, R275, R307). -/
def Obligations.RequestPathEventsComplete : Prop :=
  ∀ s a : State, a = s.fresh → a.clocked = true →
    (∀ (rq : Fin 290) r, (a.atStage rq .regulator).head? = some r → a.tokensFor r = true → a.roomFor r = true →
      exec (.regulatorPass rq) s = .next (s.ends (if rq.val < 0x100 then
        ((a.leaveRegulator r).giveCredit rq).modReq r.serial fun x => { x with credited := true } else a.leaveRegulator r))) ∧
    (∀ (rq : Fin 290) r, (a.atStage rq .crossbar).find? (fun x => x.kind != .fence && !a.heldAtCrossbar x && !a.lineBehind x) = some r →
      exec (.crossbarLeave rq) s = .next (s.ends (a.leaveCrossbar r))) ∧
    (∀ (ch : Fin 4) x y t u, x = (a.advanceCyc (max a.cyc (a.chan ch).grantAt)).slotArrivals → y = x.advanceCyc (max x.cyc (x.chan ch).grantAt) →
      t = y.takeFree ch y.cyc → u = t.modChan ch (fun c => { c with grantAt := t.cyc + 1 }) → t.chanGrants ch = true → t.ownerAt ch t.cyc = ownFree →
      (((t.chan ch).sub (t.wheelPos % 2)).took.contains t.cyc = true →
        exec (.lineGrant ch) s = .next (s.ends (u.bump (Obj.idleFreeSlots ch)))) ∧
      (((t.chan ch).sub (t.wheelPos % 2)).took.contains t.cyc = false →
        (∀ rq e, t.arbitrate ch (t.wheelPos % 2) = some rq → t.headLine ch rq = some e → exec (.lineGrant ch) s = .next (s.ends ((u.grant e).noteFs ch))) ∧
        (t.arbitrate ch (t.wheelPos % 2) = none → (t.obj (Obj.fillState ch) ≠ 1 ∨ t.released ch = true) →
          exec (.lineGrant ch) s = .next (s.ends ((u.bump (Obj.idleFreeSlots ch)).noteFs ch))) ∧
        (t.arbitrate ch (t.wheelPos % 2) = none → t.obj (Obj.fillState ch) = 1 → t.released ch = false → (t.chan ch).fillNext % 2 = t.wheelPos % 2 →
          64 * (t.chan ch).fillNext < t.capacity ch → (t.queue ch (t.wheelPos % 2) .writeQ).length < 64 →
          exec (.lineGrant ch) s = .next (s.ends ((u.fillLine ch).drainEnter ch (t.wheelPos % 2)))))) ∧
    (∀ (ch : Fin 4) (rq : Fin 290), a.cyc < a.quotaFirst ch rq → exec (.quotaWindowEnd ch rq) s = .next (s.ends (a.advanceCyc (a.quotaFirst ch rq)))) ∧
    (∀ (ch : Fin 4) (rq : Fin 290), a.quotaFirst ch rq ≤ a.cyc →
      exec (.quotaWindowEnd ch rq) s = .next (s.ends (a.advanceCyc (a.quotaWindow ch rq + a.quotaW rq)))) ∧
    (∀ (ch : Fin 4) t, ((a.noteFs ch).chan ch).fsWait = some t → (a.chan ch).guardFired = false → exec (.bgGuardFire ch) s =
      .next (s.ends ((a.advanceCyc (t + a.act (Obj.bgMaxWait ch))).modChan ch fun c => { c with guardFired := true }))) ∧
    (∀ (rq : Fin 290) r, rq.val < 0x100 → a.reqs.find? (fun x => x.rq == rq.val && x.openData) = some r →
      exec (.openWriteComplete rq) s = .next (s.ends (a.completeOpen r.serial))) ∧
    (∀ (rq : Fin 290), 0x110 ≤ rq.val → rq.val < 0x120 → exec (.openWriteComplete rq) s = .next (s.ends (a.feComplete (rq.val - 0x110)))) ∧
    (∀ (ch : Fin 4) n w t u, (a.chan ch).pathHolder = some n → a.ents.find? (fun e => e.serial == n) = some w →
      u = a.advanceCyc ((a.chan ch).pathSince + a.obj (Obj.arbWatchdog ch)) →
      t = (((u.lsHazards ch 0 u.cyc).lsHazards ch 1 u.cyc).discardOpen ch false).raise (32 + ch) (sourceWord ch 0xFF) →
      exec (.arbWatchdogBite ch) s = .next (s.ends (
        let t := if rqHasObjects w.rq then (t.bump (Obj.watchdogBites ch)).bump (rqKey w.rq 0x1D) else t.bump (Obj.watchdogBites ch)
        ((t.setObj (Obj.lastBiteHolder ch) w.rq).setObj (Obj.lastBiteTs ch) t.ts).abortHolder w))) ∧
    (∀ start l t, a.locks.find? (fun l => l.start == start) = some l → t = a.advanceTo (a.now + (l.since + 800 * l.lease - a.ts) * 9) →
      (∀ r, t.reqs.find? (fun r => r.rq == l.holder && t.unlockReady r && r.addr / 64 == l.start) = some r →
        exec (.lockLeaseExpiry start) s = .next (s.ends (t.finishUnlock r))) ∧
      (t.reqs.find? (fun r => r.rq == l.holder && t.unlockReady r && r.addr / 64 == l.start) = none → ∀ o, o = t.reqs.find? (fun r => r.rq == l.holder &&
        r.kind == .lock && r.stage == .crossbar && t.renews r && r.addr / 64 == l.start && !t.heldAtCrossbar r) →
        (∀ r, o = some r → exec (.lockLeaseExpiry start) s = .next (s.ends (t.takeLock r))) ∧
        (o = none → exec (.lockLeaseExpiry start) s = .next (s.ends (t.releaseLock l 2 0))))) ∧
    (∀ (rq : Fin 290) r l, a.reqs.find? (fun x => x.rq == rq.val && a.unlockReady x) = some r →
      a.locks.find? (fun x => x.holder == r.rq && x.start == r.addr / 64) = some l →
      exec (.unlockComplete rq) s = .next (s.ends ((a.releaseLock l 1 0).answerAll r stOk))) ∧
    (∀ (rq : Fin 290) r, a.reqs.find? (fun x => x.rq == rq.val && a.fenceReady x) = some r →
      exec (.fenceComplete rq) s = .next (s.ends (a.answerAll r stOk)))

/-- The store's schedulers: a command issues in the first CA slot in which one may; read data that passes its check completes its line, data that fails
is read once more and its second outcome decides; idle rows, the end of DRAIN and the scheduler's watchdog come due (R202 to R209, R225, R302). -/
def Obligations.SchedulerEventsComplete : Prop :=
  ∀ (s a : State) (ch : Fin 4) (sub : Fin 2), a = s.fresh →
    (∀ n h (f : Nat → State) t, a.awake = true → a.chanRuns ch = true →
      h = max (2 * a.cyc) (if sub.val = 0 then (a.chan ch).cmdA else (a.chan ch).cmdB) → n < 4096 → f 0 = a →
      (∀ m < n, (f m).trySlot ch sub (h + m) = (f (m + 1), false)) → (f n).trySlot ch sub (h + n) = (t, true) →
      exec (.dramCommandIssue ch sub) s = .next (s.ends (t.modChan ch fun q =>
        if sub.val = 0 then { q with cmdA := h + n + 1 } else { q with cmdB := h + n + 1 }))) ∧
    (∀ noise e t d k, a.clocked = true → a.inFlight ch sub = some e → t = a.advanceCyc (e.issued + readData (a.obj Obj.opCurrent)) →
      d = xorBytes e.got ((noise ++ zeros 80).take 80) → k = xorBytes e.check (((noise ++ zeros 80).take 80).drop 64) →
      (e.reread = true → exec (.readCheck ch sub noise) s = .next (s.ends ((t.bump (Obj.rereads ch)).modEnt e.serial fun y =>
        { y with stage := if 0 < y.pos then .replayQ else if y.first.isSome then .replayQ else .readQ, reread := false, redo := true }))) ∧
      (e.reread = false → t.isPeek e = true →
        exec (.readCheck ch sub noise) s = .next (s.ends ((t.dropEnt e.serial).lineDone e.req e.ix stOk (d ++ k)))) ∧
      (e.reread = false → t.isPeek e = false →
        (e.first = none → e.stage = .issued → failMask d k = 0 →
          exec (.readCheck ch sub noise) s = .next (s.ends ((t.dropEnt e.serial).lineDone e.req e.ix e.goodStatus d))) ∧
        (e.first = none → failMask d k ≠ 0 → exec (.readCheck ch sub noise) s = .next (s.ends (t.modEnt e.serial fun y =>
          { y with stage := .replayQ, first := some (d, k), firstMask := failMask d k, failTs := some t.ts }))) ∧
        (e.first.isSome = true → (e.pos = 0 ∨ t.cyc ≤ t.lsDeadline e) → exec (.readCheck ch sub noise) s = .next (s.ends (
          let u := if 0 < e.pos then t.bump (Obj.lsReplays ch) else t
          (((u.countOutcome e (failMask d k != 0) e.firstMask (failMask d k)).dropEnt e.serial).lineDone e.req e.ix
            (if failMask d k = 0 then e.goodStatus else stPoison) d)))) ∧
        (e.first.isSome = true → 0 < e.pos → t.lsDeadline e < t.cyc → exec (.readCheck ch sub noise) s = .next (s.ends (
          let u := t.countOutcome e (failMask d k != 0) e.firstMask (failMask d k)
          if (u.req? e.req).isNone then u.dropEnt e.serial else u.lateLine e (Obj.lateReplay ch)))))) ∧
    (∀ bank : Fin 128, ∀ row last, a.clocked = true → ((a.chan ch).sub sub).rowOf bank = some (row, last) →
      exec (.pageIdleExpiry ch sub bank) s = .next (s.ends (a.advanceCyc (last + a.act (Obj.pageIdle ch))))) ∧
    (∀ e l t u, a.clocked = true → a.queue ch sub .readQ = e :: l → ((a.chan ch).sub sub).drain = true → t = l.foldl (fun m x => min m x.granted) e.granted →
      u = a.advanceCyc (max t ((a.chan ch).sub sub).drainAt + ((a.chan ch).sub sub).dMax) →
      exec (.drainReadMaxExpiry ch sub) s = .next (s.ends ((u.modSub ch sub fun y => { y with drain := false, readUntil := u.cyc + 1 }).setBit
        (Obj.schedStatus ch) sub false))) ∧
    (∀ e d t, a.clocked = true → a.chanRuns ch = true → a.firstWatched ch = some (e, d) → t = a.advanceCyc (d + a.obj (Obj.schedWatchdog ch)) →
      exec (.schedWatchdogExpiry ch) s = .next (s.ends (({ t with ents := t.ents.map fun x : Ent =>
        if x.serial = e.serial then { x with watch := none } else x }.bump (Obj.schedWatchdogBites ch)).raise (4 * ch + 2) (sourceWord ch 0xFF))))

/-- Refresh and row disturbance: an MR4 read records its code and, once every rank has answered, sets the temperature state; a stale rank, an overdue bank
and the entropy source act on the refresh line of the channel (R237, R240, R252 to R255). -/
def Obligations.RefreshEventsComplete : Prop :=
  ∀ (s a : State) (ch : Fin 4), a = s.fresh →
    (∀ (rank : Fin 4) (sub : Fin 2) code, a.awake = true → a.chanRuns ch = true → rank.val < rankCount (a.chan ch).dimms →
      exec (.mr4Result ch rank sub code) s = .next (s.ends (a.mr4Read ch rank sub code))) ∧
    (∀ rank : Fin 4, a.awake = true → a.chanRuns ch = true → rank.val < rankCount (a.chan ch).dimms → exec (.mr4Stale ch rank) s =
      .next (s.ends ((a.advanceCyc (max (mapGet (fun _ => 0) (a.chan ch).mr4At (2 * rank)) (mapGet (fun _ => 0) (a.chan ch).mr4At (2 * rank + 1)) +
        65536)).mr4GoesStale ch rank))) ∧
    (∀ (sub : Fin 2) (rank bank : Fin 4) x, a.awake = true → a.chanRuns ch = true → rank.val < rankCount (a.chan ch).dimms →
      x = (a.chan ch).rank sub rank → bitOf x.overdue bank = false → (a.obj (Obj.refMode ch) ≠ 0 ∨ bank.val = 0) →
      exec (.refreshOverdue ch sub rank bank) s = .next (s.ends ((((a.advanceCyc (mapGet (fun _ => 0) x.lastAt bank + a.refBound ch (mapGet (fun _ => 0) x.lastAt bank) + 1)).modChan ch
        fun c => c.setRank sub rank { x with overdue := withBit x.overdue bank true }).bump (Obj.refOverdue ch)).beginRefresh ch 0))) ∧
    (a.awake = true → (a.chan ch).accepted = true → a.bit (Obj.nrStatus ch) 0 = true →
      exec (.entropyFail ch) s = .next (s.ends (((a.seedLfsr ch).setBit (Obj.nrStatus ch) 0 false).beginRefresh ch 2))) ∧
    (∀ samples t, a.awake = true → (a.chan ch).accepted = true → 1024 ≤ samples → t = a.modChan ch (fun c => { c with entropyUp := true }) →
      exec (.entropyRecover { ch := ch, samples := samples }) s =
        .next (s.ends (if t.bit (Obj.nrStatus ch) 0 then t else (t.setBit (Obj.nrStatus ch) 0 true).endCause (4 * ch + 3) 2)))

/-- Training of a channel and its tracking: training starts at the operating point in force, with every offset zero; it ends at the end of its last step, at that
of the step that fails, or at the time-out of the step that takes too long; a parked channel resumes when its pattern and lanes check, and trains where it does
not resume or they do not; a lane moves by at most one unit, when a measurement of it is due (R264 to R292). -/
def Obligations.TrainingEventsComplete : Prop :=
  ∀ (s a : State) (ch : Fin 4), a = s.fresh →
    (∀ times x t, a.awake = true → (a.chan ch).train = some x → x.running = false → a.queuesEmpty ch = true → x.ops.headD 3 = a.obj Obj.opCurrent →
      (x.command = true ∨ a.trainTarget = a.obj Obj.opCurrent) → t = a.dropShadows (fun h => h.bound == .training && h.key / 0x10000 == 0x30 + ch.val) →
      exec (.trainingStart { ch := ch, times := times }) s = .next (s.ends (
        let t := if (t.chan ch).selfRefresh || (t.chan ch).refresh.isEmpty then t.exitSelfRefresh ch else t
        ((((t.zeroOffsets ch).modChan ch fun c => { c with train := some { x with running := true, started := t.now, times := times, saved := false } }).setObj
          (Obj.trainState ch) 1).setObj (Obj.trainStep ch) 1).bump (Obj.trainings ch)))) ∧
    (∀ reason margins place body x us, a.awake = true → (a.chan ch).train = some x → x.running = true → a.marginFault ch margins.toNat place.toNat = none →
      x.stepStart (a.chan ch).dimms 11 = some us →
      (x.full = true ∨ a.storedSet ch (x.ops.headD 3) = false ∨
        nearSeed (a.chan ch).dimms ((a.setOf ch (x.ops.headD 3)).bytes.drop 64) (setBody (a.chan ch).dimms body) = true) →
      exec (.trainingComplete ch none reason margins place body) s =
        .next (s.ends (((a.advanceTo (x.started + us * usTicks)).trainSaves ch).trainingPassed ch margins.toNat body x))) ∧
    (∀ failed reason margins place body x w us, a.awake = true → (a.chan ch).train = some x → x.running = true →
      a.trainingWord ch failed reason margins.toNat place.toNat = some w → x.stepStart (a.chan ch).dimms (fld 0 4 w + 1) = some us →
      a.now ≤ x.started + us * usTicks → exec (.trainingComplete ch failed reason margins place body) s =
        .next (s.ends ((a.advanceTo (x.started + us * usTicks)).trainingFailed ch w x))) ∧
    (∀ (rank : Fin 4) (sub : Fin 2) (bit : Fin 64) x n, a.awake = true → (a.chan ch).train = some x → x.running = true → x.overruns (a.chan ch).dimms = some n →
      exec (.trainStepTimeout ch rank sub bit) s =
        .next (s.ends ((a.advanceTo (x.started + ((x.stepStart (a.chan ch).dimms n).getD 0 + stepMax (a.chan ch).dimms x.full n) * usTicks)).trainingFailed ch
          (n + rank.val * 2 ^ 6 + sub.val * 2 ^ 8 + bit.val * 2 ^ 9 + 5 * 2 ^ 16) x))) ∧
    (∀ pattern corrections t c, a.awake = true → (a.chan ch).resuming = true → c = (corrections ++ zeros 768).take 768 →
      t = (if (a.chan ch).keptOffsets then a else a.zeroOffsets ch).modChan ch (fun c => { c with keptOffsets := true }) →
      ((t.chan ch).opsLeft ≠ [] → exec (.channelResume ch pattern corrections) s = .next (s.ends (((t.planTraining ch (t.chan ch).opsLeft
        (!t.storedSet ch ((t.chan ch).opsLeft.headD 3)) false).modChan ch fun c => { c with opsLeft := [] }).nextTrainOp))) ∧
      ((t.chan ch).opsLeft = [] → t.resumes? ch = false → exec (.channelResume ch pattern corrections) s =
        .next (s.ends (t.planTraining ch [a.obj Obj.opCurrent] (!a.storedSet ch (a.obj Obj.opCurrent)) false))) ∧
      ((t.chan ch).opsLeft = [] → t.resumes? ch = true → ∀ u, u = ((t.bump (Obj.resumes ch)).setObj (Obj.lastWay ch) 1).exitSelfRefresh ch →
        (pattern = true → u.checkPasses ch c = true → exec (.channelResume ch pattern corrections) s = .next (s.ends (
          let v := u.each ((List.range 768).filter fun i => laneOffset c i != 0) fun i t =>
            t.setOffset ch i (laneOffset (t.dom (Obj.laneOffsets ch)) i + laneOffset c i)
          let v := v.modChan ch fun c => { c with resuming := false, caPassed := true }
          if v.bit Obj.channelsReady ch then v.setObj (Obj.trainState ch) 3 else v.enterService ch))) ∧
        ((pattern = false ∨ u.checkPasses ch c = false) → exec (.channelResume ch pattern corrections) s = .next (s.ends
          ((((u.bump (Obj.resumeCheckFails ch)).enterSelfRefresh ch).planTraining ch [a.obj Obj.opCurrent] false false).setBit Obj.channelsReady ch
            false))))) ∧
    (∀ (rank : Fin 4) (sub : Fin 2) (lane : Fin 96) up down base key due b t v step, a.awake = true → a.tracks ch = true → a.chanRuns ch = true →
      lane.val < 90 → ¬(80 ≤ lane.val ∧ lane.val < 85) → rank.val < rankCount (a.chan ch).dimms →
      base = 96 * (2 * ((rankNos (a.chan ch).dimms).getD rank 0) + sub.val) → key = base + (tracked lane).headD lane →
      a.laneDue ch (2 * rank + sub) lane key = some due → b = a.advanceCyc due →
      step = (if up && !down then (1 : Int) else if down && !up then -1 else 0) →
      t = b.each (tracked lane) (fun l t => t.setOffset ch (base + l) (laneOffset (t.dom (Obj.laneOffsets ch)) (base + l) + step)) →
      v = (t.bump (Obj.trackUpdates ch)).modChan ch (fun c =>
        { c with trackAt := mapSet (fun _ => 0) c.trackAt rank t.cyc, laneAt := mapSet (fun _ => 0) c.laneAt key t.cyc }) →
      exec (.trackUpdate ch rank sub lane up down) s = .next (s.ends (
        if bitOf (v.causesOf (4 * ch + 1)) (1 + rank) then
          let w := v.endCause (4 * ch + 1) (1 + rank)
          w.setBit (Obj.driftStatus ch) 3 ((List.range 4).any fun k => bitOf (w.causesOf (4 * ch + 1)) (1 + k))
        else v))) ∧
    (∀ rank : Fin 4, a.awake = true → a.released ch = true → a.act (Obj.trackEnable ch) = 1 → rank.val < rankCount (a.chan ch).dimms →
      bitOf (a.causesOf (4 * ch + 1)) (1 + rank) = false →
      exec (.trackStale ch rank) s = .next (s.ends (((((a.advanceCyc (mapGet (fun _ => 0) (a.chan ch).trackAt rank + 65536)).setBit
        (Obj.phyFaultCause ch) 2 true).setBit (Obj.driftStatus ch) 3 true).bump (Obj.trackStaleCount ch)).beginCause (4 * ch + 1) (1 + rank)
        (sourceWord ch 2))))

/-- Write CRC, the boot fill and the background reads: an alert retries or abandons every burst whose window is open, a window ends, the fill ends, the next
background read is entered, and the scrubber falls behind (R299, R300, R307, R310, R311). -/
def Obligations.StoreCareEventsComplete : Prop :=
  ∀ (s a : State) (ch : Fin 4) (sub : Fin 2), a = s.fresh → a.clocked = true →
    ((∀ e ∈ a.openWindows ch sub, e.attempts < 3) → exec (.writeCrcAlert ch sub) s = .next (s.ends (a.each (a.openWindows ch sub) fun e t =>
      let t := t.modEnt e.serial fun y => { y with stage := .retryQ, alerted := y.alerted + 1, failTs := some (y.failTs.getD t.ts) }
      { t with ents := t.ents.map fun y => y.markReread e }))) ∧
    (∀ e, a.openWindows ch sub = [e] → 3 ≤ e.attempts → exec (.writeCrcAlert ch sub) s = .next (s.ends (
      let t := (((a.bump (Obj.wcrcFailed ch)).plog e plogWrite 4 e.mask 3).raiseParity ch 2).dropEnt e.serial
      let free := openLine (mapGet (fun _ => 0) t.lost ch + 2 ^ 32 + e.serial) (dramKey ch e.line)
      t.setDram ch e.line (writeBurst (t.dramLine ch e.line) free.1 e.mask 0 (some free.2) none)))) ∧
    (∀ e, a.firstWindow ch sub = some e → exec (.crcWindowExpiry ch sub) s = .next (s.ends (
      ((if 1 < e.attempts then (a.advanceCyc (e.windowEnd + 1)).plog e plogWrite 3 e.mask e.attempts else a.advanceCyc (e.windowEnd + 1)).dropEnt
        e.serial)))) ∧
    (a.obj (Obj.fillState ch) = 1 → a.chanRuns ch = true → (a.chan ch).train = none → (a.chan ch).resuming = false →
      exec (.fillComplete ch) s = .next (s.ends (((a.fillRest ch).setObj (Obj.fillState ch) 2).releaseChan ch))) ∧
    (∀ l t, a.ingressClosed = false → a.obj (Obj.scrubEnable ch) = 1 → a.released ch = true → a.chanRuns ch = true →
      l = a.obj (Obj.scrubPosition ch) → t = a.advanceTo (a.scrubDue ch l) →
      exec (.scrubRead ch) s = .next (s.ends (
        let b := t.encodeAddr ch (64 * l)
        let t := if t.fenced b then t
          else t.enter { serial := 0, rq := rqFs, kind := .read, tag := 1, addr := b, lines := 1, ctx := ch }
        let t := t.setObj (Obj.scrubPosition ch) (l + 1)
        if t.lineCount ch ≤ l + 1 then t.scrubPassEnds ch else t))) ∧
    (a.obj (Obj.scrubEnable ch) = 1 → a.released ch = true → exec (.scrubBehind ch) s =
      .next (s.ends ((a.advanceTo ((a.chan ch).scrubSince + a.act (Obj.scrubPeriod ch) * 1000 * msTicks)).setBit (Obj.scrubStatus ch) 1 true)))

/-- The sequencer of a probe channel: a burst starts when the queue is ready; each instruction at the head takes effect at its own CK: COMMAND drives CA and
CS_n unless the guard blocks it, WAIT counts deselects, RESET_ASSERT, RESET_RELEASE, MARK, CK_STOP, CK_START and END act as R334 says; an empty queue at
the c of the next instruction is an underrun (R333 to R343). -/
def Obligations.SequencerInstructionsComplete : Prop :=
  ∀ (s a : State) (n : Fin 2), a = s.fresh → a.awake = true → a.part = .ft4216 →
    (∀ t, a.burstReady n = true → t = a.dropShadows (fun h => h.bound == .burst && probeKey n h.key) → exec (.burstStart n) s = .next (s.ends (
      let t := ((t.setObj (Obj.pbState n) pbRunning).setBit (Obj.seqStatus n) 0 true).bump (Obj.bursts n)
      let t := if t.offsetsFit true n then t else t.bump (Obj.edgeClamps n)
      t.modPb n fun x => { x with last := (t.cyc + pbPipe) * t.pbMult n - 1, late := false, calJust := false }))) ∧
    (∀ dataReady mrr w t ck cmds u k, a.seqHead n = some (.command, w) → a.seqTake n (fld 40 8 w) = (t, ck) →
      cmds = (t.sitesOf n (fld 48 8 w)).map (fun i => guardCmd (caClass (fld 0 14 w) (bitOf (t.pb n).lowPower i)) i (fld 0 14 w) ck) →
      t.guard n cmds ck (bitOf w 58) = (u, some k) → exec (.pbCommand n dataReady mrr) s = .next (s.ends
        (((((u.remember n cmds k).setLast n (k + fld 61 1 w)).bump (Obj.commands n)).modPb n fun x =>
          { x with driven := some (fld 0 14 w, fld 14 14 w, fld 48 8 w) }).dataBurst n w k false dataReady mrr))) ∧
    (∀ dataReady mrr w t ck cmds u, a.seqHead n = some (.command, w) → a.seqTake n (fld 40 8 w) = (t, ck) →
      cmds = (t.sitesOf n (fld 48 8 w)).map (fun i => guardCmd (caClass (fld 0 14 w) (bitOf (t.pb n).lowPower i)) i (fld 0 14 w) ck) →
      t.guard n cmds ck (bitOf w 58) = (u, none) → exec (.pbCommand n dataReady mrr) s = .next (s.ends
        ((u.setLast n (ck + fld 61 1 w)).dataBurst n w ck true dataReady mrr))) ∧
    (∀ w t ck, a.seqHead n = some (.wait, w) → a.seqTake n 0 = (t, ck) →
      exec (.pbWait n) s = .next (s.ends (t.setLast n (ck + fld 0 32 w - 1)))) ∧
    (∀ w t ck, a.seqHead n = some (.resetAssert, w) → a.seqTake n (fld 40 8 w) = (t, ck) →
      exec (.pbResetAssert n) s = .next (s.ends ((t.setLast n ck).modPb n fun x => { x with resetN := some false }))) ∧
    (∀ w t ck, a.seqHead n = some (.resetRelease, w) → a.seqTake n (fld 40 8 w) = (t, ck) →
      exec (.pbResetRelease n) s = .next (s.ends ((t.setLast n ck).modPb n fun x => { x with resetN := some true }))) ∧
    (∀ w t ck u, a.seqHead n = some (.mark, w) → a.seqTake n (fld 40 8 w) = (t, ck) → u = t.setLast n ck →
      exec (.pbMark n) s = .next (s.ends ((u.patchDom (Obj.markLog n) (16 * (u.obj (Obj.marksWritten n) % 16))
        (leBytes 8 (u.tsAt (u.ckTime n ck)) ++ leBytes 4 (fld 0 32 w) ++ leBytes 4 (u.obj (Obj.bursts n)))).wrapBump (Obj.marksWritten n)))) ∧
    (∀ w t ck, a.seqHead n = some (.fin, w) → a.seqTake n (fld 40 8 w) = (t, ck) →
      exec (.pbEnd n) s = .next (s.ends ((t.setLast n ck).burstEnds n ck))) ∧
    (∀ w t ck, a.seqHead n = some (.ckStop, w) → a.seqTake n (fld 40 8 w) = (t, ck) →
      exec (.pbCkStop n) s = .next (s.ends ((t.setLast n ck).setBit (Obj.seqStatus n) 1 true))) ∧
    (∀ w t ck, a.seqHead n = some (.ckStart, w) → a.seqTake n (fld 40 8 w) = (t, ck) →
      exec (.pbCkStart n) s = .next (s.ends ((t.setLast n ck).setBit (Obj.seqStatus n) 1 false))) ∧
    (∀ t, a.pbIs n pbRunning = true → (a.pb n).cal = none → (a.pb n).mr = none → (a.pb n).queue = [] →
      t = a.advanceCyc (((a.pb n).last + 1) / a.pbMult n - pbPipe + 1) → (t.pb n).late = false →
      exec (.pbUnderrun n) s = .next (s.ends (((t.modPb n fun x => { x with late := true }).bump (Obj.underruns n)).setBit (Obj.seqStatus n) 2 true)))

/-- The DUT supplies: the ramps up and down end, a sample gives MEAS_V, MEAS_I and SENSE_CORR, a fault curls its channel or moves the supply to local sense,
clamps and alerts are counted, MR_CMD completes (R344 to R356, R544). -/
def Obligations.SupplyEventsComplete : Prop :=
  ∀ (s a : State) (n : Fin 2), a = s.fresh → a.awake = true → a.part = .ft4216 →
    (∀ t u, a.powerIs n psUp = true → t = (a.advanceTo (a.rampNext n)).rampStage n → u = (t.advanceTo (t.rampNext n)).rampStage n →
      exec (.dutPowerGood n) s = .next (s.ends ((u.setObj (Obj.powerState n) (if u.obj Obj.runPhase == 1 then psHeld else psGood)).cmdDone
        (Obj.dutPower n)))) ∧
    (∀ us t, a.powerIs n psDown = true → t = (a.advanceTo (a.rampNext n)).rampStage n →
      exec (.dutSupplyDischarged n us) s = .next (s.ends ((t.advanceTo (t.rampNext n)).dutOff n))) ∧
    (∀ us, a.powerIs n psDischarge = true → exec (.dutSupplyDischarged n us) s =
      .next (s.ends ((a.advanceTo (((a.pb n).supply 0).t0 + min us 2000 * usTicks)).dutOff n))) ∧
    (∀ (k : Fin 3) v l i, ∃ e, exec (.supplySample n k v l i) s = .next (s.ends e) ∧
      e.obj (Obj.measV n k) = mean (pushSample (a.obj (Obj.measAvg n k)) v ((a.pb n).supply k).volts) ∧
      e.obj (Obj.measI n k) = mean (pushSample (a.obj (Obj.measAvg n k)) i ((a.pb n).supply k).amps) ∧
      e.obj (Obj.senseCorr n k) = (if ((a.pb n).supply k).onLocal then 0 else ofInt 16 (min ((l : Int) - v) (a.obj (Obj.senseMaxCorr n k))))) ∧
    (∀ (k : Fin 3) (kind : Fin 4) hard, a.supplyOn n = true → a.supplyFaultDue n k kind hard = true →
      bitOf (a.causesOf (supplyLine n)) (4 * k + kind) = false → exec (.supplyFault n k kind hard) s = .next (s.ends (
        if kind.val = 3 then ((a.supplyFaultAt n (4 * k + kind)).modSupply n k fun x => { x with onLocal := true, pinned := false }).setObj
          (Obj.senseCorr n k) 0
        else (a.supplyFaultAt n (4 * k + kind)).curl n 3 true))) ∧
    exec (.clampEvent n) s = .next (s.ends ((a.bump (Obj.clampEvents n)).beginCause (16 + 4 * n) 0 (sourceWord n 0xFF))) ∧
    exec (.clampConductionEnd n) s = .next (s.ends (a.endCause (16 + 4 * n) 0)) ∧
    (∀ site : Fin 8, exec (.probeAlert n site) s = .next (s.ends ((a.setBit (Obj.alertStatus n) site true).bump (Obj.alertCount n)))) ∧
    (∀ answers ns v t, (a.pb n).mr = some v → t = a.advanceTo ((a.pb n).calStart + min ns 2000 * 36 / 5) →
      exec (.mrCmdComplete n answers ns) s = .next (s.ends (
        let t := if v = 2 then t.mrrResult n (t.obj (Obj.mrSites n)) answers else t
        ((t.modPb n fun x => { x with mr := none }).setObj (Obj.pbState n) pbIdle).cmdDone (Obj.mrCmd n))))

/-- DUT_POWER UP: the port takes the write, the ramp of DUT_VPP begins, and the first one after a cold start shuts off the phases that fail their
self-test (R346, R624). -/
def Obligations.DutPowerUpCompletes : Prop :=
  ∀ (s a t : State) (p : Path) (n : Fin 2) (pass : Fin 64) (x r : Row) (w : Wr) (v : Nat), a = s.fresh → rowOf (Obj.dutPower n) = some x →
    w = wrOf p (Obj.dutPower n) x.ty.size 1 → a.Takes w r v → a.powerIs n psOff = true → t = a.accepting w r v (fun _ u => u.dutUp n) →
    exec (.dutPowerUp p n pass) s = .next (s.ends (if t.powerIs n psUp then t.dutSelfTest n pass else t))

/-- Calibration, compare and fail capture: a calibration passes, falls back to FULL or fails; the replica is measured; expected entries, strobed bursts and
capture words move; FAIL_HOLD ends; two words pair into an instruction (R373 to R389, R411). -/
def Obligations.CompareEventsComplete : Prop :=
  ∀ (s a : State) (n : Fin 2), a = s.fresh → a.awake = true → a.part = .ft4216 →
    (∀ asked worst temp us full t, (a.pb n).cal = some (full, asked) →
      t = (a.advanceTo ((a.pb n).calStart + min us (if full then 20000 else 1000) * usTicks)).bump (Obj.calibrations n) →
      exec (.calComplete n true worst temp us) s = .next (s.ends (
        let u := t.modObj (Obj.calStatus n) fun v => withBit (clearBits v 0x2E) 0 true
        let u := ((u.setObj (Obj.calTemp n) temp).setObj (Obj.calVddq n) (u.obj (Obj.setpoint n 1))).setObj (Obj.calWorst n) worst
        let u := (u.setObj (Obj.calDrift n) 0).endDrift n
        let u := ((u.modPb n fun x => { x with cal := none, calJust := true }).setBit (Obj.calStatus n) 4 false).setObj (Obj.pbState n) pbIdle
        if asked then u.cmdDone (Obj.calCmd n) else u))) ∧
    (∀ asked worst temp us t, (a.pb n).cal = some (false, asked) →
      t = (a.advanceTo ((a.pb n).calStart + min us 1000 * usTicks)).bump (Obj.calibrations n) →
      exec (.calComplete n false worst temp us) s = .next (s.ends (t.modPb n fun x => { x with cal := some (true, asked), calStart := t.now }))) ∧
    (∀ asked worst temp us t, (a.pb n).cal = some (true, asked) →
      t = (((a.advanceTo ((a.pb n).calStart + min us 20000 * usTicks)).bump (Obj.calibrations n)).setBit (Obj.calStatus n) 5 true).setBit
        (Obj.calFaultCause n) 2 true →
      exec (.calComplete n false worst temp us) s = .next (s.ends (
        let u := t.raise (18 + 4 * n) (sourceWord n 2)
        let u := ((u.modPb n fun x => { x with cal := none, calJust := true }).setBit (Obj.calStatus n) 4 false).setObj (Obj.pbState n) pbIdle
        if asked then u.cmdDone (Obj.calCmd n) else u))) ∧
    (∀ drift temp t, a.pbOn n = true → t = a.advanceTo (a.pb n).replicaAt → t.bit (Obj.calStatus n) 0 = false →
      exec (.replicaMeasure n drift temp) s = .next (s.ends
        ((t.modPb n fun x => { x with replicaAt := t.now + msTicks }).setObj (Obj.calDrift n) drift.toNat))) ∧
    (∀ drift temp, a.pbOn n = true → ∃ e, exec (.replicaMeasure n drift temp) s = .next (s.ends e) ∧ e.obj (Obj.calDrift n) = drift.toNat ∧
      (e.pb n).replicaAt = max a.now (a.pb n).replicaAt + msTicks) ∧
    (∀ full, a.calWanted n = some full → exec (.calAutoStart n) s = .next (s.ends
      (((a.modPb n fun x => { x with cal := some (full, false), calStart := a.now, calOwed := false }).setObj (Obj.pbState n) pbRunning).setBit
        (Obj.calStatus n) 4 true))) ∧
    (((a.pb n).expAt ≠ a.cyc ∨ a.cyc = 0) → exec (.expectedEntry n) s = .next (s.ends ((a.takeExpected n 4).dropLate n 1024))) ∧
    (∀ samples second d l on t, (a.pb n).due = d :: l → on = sites8.filter (fun i => bitOf d.sites i) →
      t = (a.advanceCyc ((on.flatMap fun i => (List.range (4 * 2 ^ a.siteWidth n i)).map fun dq => (a.strobeAt n d.ck i dq ((match d.bl with | 0 => 16 | 1 => 8 | _ => 32) - 1)
        (a.act (Obj.windowWidth n))).1).foldl max 0 + 6)).modPb n (fun x => { x with due := l }) →
      exec (.dburstCompare n samples second) s = .next (s.ends (
        let u := t.each on fun i v => v.compareSite n i d (v.failBytes n i d.bl ((samples.drop (32 * i)).take 32) ((second.drop (32 * i)).take 32)
          (v.setBytesOf n i d))
        u.flushDue n (u.pb n).due.length))) ∧
    (∀ (site : Fin 8) w l q t h, 0 < a.edgeSpace (capPort n site) → a.capPartOf n site = [] → a.capOf n site = (w :: l) :: q →
      t = (a.advanceCyc (mapGet (fun _ => 0) (a.pb n).capAt site)) → h = w + b2n (t.bit (Obj.siteStatus n site) 2) * 2 ^ 24 →
      exec (.captureDeliver n site) s = .next (s.ends (
        let u := (t.modPb n fun x => { x with capAt := mapSet (fun _ => 0) x.capAt site (t.cyc + 1) }).setBit (Obj.siteStatus n site) 2 false
        ((((u.setCap n site q).setCapPart n site l).enterEdge (capPort n site) { data := BitVec.ofNat 32 h }).capNote n site).capRefill n site 4))) ∧
    (∀ (site : Fin 8) w l t, 0 < a.edgeSpace (capPort n site) → a.capPartOf n site = w :: l →
      t = (a.advanceCyc (mapGet (fun _ => 0) (a.pb n).capAt site)) →
      exec (.captureDeliver n site) s = .next (s.ends (
        let u := t.modPb n fun x => { x with capAt := mapSet (fun _ => 0) x.capAt site (t.cyc + 1) }
        (((u.setCapPart n site l).enterEdge (capPort n site) { data := BitVec.ofNat 32 w }).capNote n site).capRefill n site 4))) ∧
    ((a.pb n).failHigh = true → a.obj (Obj.failMode n) = 0 →
      exec (.failHoldExpiry n) s = .next (s.ends ((a.advanceTo (a.pb n).failUntil).modPb n fun x => { x with failHigh := false }))) ∧
    (∀ h hq l lq t, a.clocked = true → a.edgeOutQ (if n.val = 0 then 32 else 48) = h :: hq → a.edgeOutQ ((if n.val = 0 then 32 else 48) + 1) = l :: lq →
      t = a.advanceCyc (max (max h.ready l.ready) (a.pb n).pairAt) → t.pbOn n = true → (t.pb n).queue.length < 64 →
      exec (.seqPair n) s = .next (s.ends (((t.setEdgeOut (if n.val = 0 then 32 else 48) hq).setEdgeOut ((if n.val = 0 then 32 else 48) + 1) lq).modPb n
        fun x => { x with queue := x.queue ++ [h.data.toNat * 2 ^ 32 + l.data.toNat], pairAt := t.cyc + 1 }))) ∧
    (∀ h hq l lq t, a.clocked = true → a.edgeOutQ (if n.val = 0 then 32 else 48) = h :: hq → a.edgeOutQ ((if n.val = 0 then 32 else 48) + 1) = l :: lq →
      t = a.advanceCyc (max (max h.ready l.ready) (a.pb n).pairAt) → t.pbOn n = false →
      exec (.seqPair n) s = .next (s.ends ((t.setEdgeOut (if n.val = 0 then 32 else 48) hq).setEdgeOut ((if n.val = 0 then 32 else 48) + 1) lq)))

/-- The instructions of two operands: each operand may be a register, an inbox, an edge port or one of the values CTX, XY, CYC and TSL, and the result goes to
any operand that can be written; it is poisoned when an operand is (R399 to R403). They are ADD, SUB, AND, OR, XOR, SHL, SHR, SAR, ROL, MUL, MULHU, MINU,
MAXU, SLTU, SEQ, PEXT, PDEP, POPC and PAR, with the function of Instr.binary. -/
def Obligations.TwoOperandInstructions : Prop :=
  ∀ (c : Instr) (t : Fin 256) (op : Nat) (f : Word → Word → Word) (s a : State) (i clk w : Nat) (s1 s2 : State) (x y : Val), c.binary = some (t, false, op, f) →
    a = s.fresh → a.clocked = true → a.Issues t i clk w → iOp w = op → (a.issued t clk).readOp t i (iA w) = (s1, x) → s1.readOp t i (iB w) = (s2, y) →
    exec c s = .next (s.ends ((a.issued t clk).finishWrite s2 t i (iD w) ⟨f x.v y.v, false, x.poison || y.poison⟩))

/-- The instructions of one operand and perhaps an immediate: BREV, CLZ, ADDI, ANDI, ORI, XORI, SHLI, SHRI, SARI and SLTUI, with the function of Instr.unary
(R399 to R403). -/
def Obligations.OneOperandInstructions : Prop :=
  ∀ (c : Instr) (t : Fin 256) (op : Nat) (f : Word → Nat → Word) (s a : State) (i clk w : Nat) (s1 : State) (x : Val), c.unary = some (t, false, op, f) →
    a = s.fresh → a.clocked = true → a.Issues t i clk w → iOp w = op → (a.issued t clk).readOp t i (iA w) = (s1, x) →
    exec c s = .next (s.ends ((a.issued t clk).finishWrite s1 t i (iD w) ⟨f x.v (iImm w), false, x.poison⟩))

/-- An instruction of two operands on registers: the destination holds the result, g0 discards it, the poison bit is the operands', the PC moves on; no other
register, context or tile changes, and no queue, object or stored line (R398, R401 to R403, R421). -/
def Obligations.RegisterInstructionsChangeOneRegister : Prop :=
  ∀ (c : Instr) (t : Fin 256) (op : Nat) (f : Word → Word → Word) (s a : State) (i clk w : Nat) (x y : Word), c.binary = some (t, false, op, f) →
    a = s.fresh → a.clocked = true → a.Issues t i clk w → i < 2 → iOp w = op → iA w < 16 → iB w < 16 → iD w < 16 → (a.ctx t i).pc ≠ 63 →
    x = (if iA w = 0 then 0 else mapGet (fun _ => 0) (a.ctx t i).regs (iA w)) → y = (if iB w = 0 then 0 else mapGet (fun _ => 0) (a.ctx t i).regs (iB w)) →
    ∃ e, exec c s = .next (s.ends e) ∧
      (e.ctx t i).pc = (a.ctx t i).pc + 1 ∧
      (iD w ≠ 0 → mapGet (fun _ => 0) (e.ctx t i).regs (iD w) = f x y ∧ bitOf (e.ctx t i).poison (iD w) =
        ((iA w != 0 && bitOf (a.ctx t i).poison (iA w)) || (iB w != 0 && bitOf (a.ctx t i).poison (iB w)))) ∧
      (iD w = 0 → (e.ctx t i).regs = (a.ctx t i).regs ∧ (e.ctx t i).poison = (a.ctx t i).poison) ∧
      (∀ r, r ≠ iD w → mapGet (fun _ => 0) (e.ctx t i).regs r = mapGet (fun _ => 0) (a.ctx t i).regs r ∧
        bitOf (e.ctx t i).poison r = bitOf (a.ctx t i).poison r) ∧
      (e.ctx t i).mem = (a.ctx t i).mem ∧ (e.ctx t i).routes = (a.ctx t i).routes ∧ (e.ctx t i).inboxes = (a.ctx t i).inboxes ∧
      (e.ctx t i).run = (a.ctx t i).run ∧ (e.ctx t i).flags = (a.ctx t i).flags ∧
      (∀ u j, u ≠ t.val → e.ctx u j = a.ctx u j) ∧ (∀ j, j < 2 → j ≠ i → e.ctx t j = a.ctx t j) ∧
      (∀ u, (e.tile u).queues = (a.tile u).queues) ∧ e.edgeIn = a.edgeIn ∧ e.edgeOut = a.edgeOut ∧ (∀ k, e.obj k = a.obj k) ∧ e.doms = a.doms ∧
      (∀ ch l, e.dramLine ch l = a.dramLine ch l) ∧ e.reqs = a.reqs ∧ e.ents = a.ents ∧ e.raised = a.raised ∧ e.cyc = max a.cyc clk

/-- The other instructions of a tile: NOP, LUI, RFLG, the branches, JMP, DBNZ, WAITC and the end of its count, HALT, TRAP, SENDF, SETRT and SETRTR
(R402, R403). -/
def Obligations.OtherInstructionsComplete : Prop :=
  ∀ (s a u : State) (t : Fin 256) (i clk w : Nat), a = s.fresh → a.clocked = true → a.Issues t i clk w → u = a.issued t clk →
    (iOp w = 0x00 → exec (.nop t false) s = .next (s.ends (u.pcNext t i))) ∧
    (iOp w = 0x27 → exec (.lui t false) s = .next (s.ends (u.finishWrite u t i (iD w) ⟨BitVec.ofNat 32 (iImm w * 2 ^ 16), false, false⟩))) ∧
    (iOp w = 0x38 → exec (.rflg t false) s =
      .next (s.ends (u.finishWrite u t i (iD w) ⟨BitVec.ofNat 32 ((u.ctx t i).popped (fld 0 5 w)), false, false⟩))) ∧
    (∀ u1 x, iOp w = 0x30 → u.readOp t i (iA w) = (u1, x) → x.poison = false →
      exec (.beqz t false) s = .next (s.ends (if x.v = 0 then u1.modCtx t i fun y => { y with pc := fld 0 6 w } else u1.pcNext t i))) ∧
    (∀ u1 x, iOp w = 0x31 → u.readOp t i (iA w) = (u1, x) → x.poison = false →
      exec (.bnez t false) s = .next (s.ends (if x.v ≠ 0 then u1.modCtx t i fun y => { y with pc := fld 0 6 w } else u1.pcNext t i))) ∧
    (iOp w = 0x32 → exec (.jmp t false) s = .next (s.ends (u.modCtx t i fun y => { y with pc := fld 0 6 w }))) ∧
    (∀ v u1, iOp w = 0x33 → bitOf (u.ctx t i).poison (iD w) = false → v = mapGet (fun _ => 0) (u.ctx t i).regs (iD w) - 1 →
      u1 = u.modCtx t i (fun y => { y with regs := mapSet (fun _ => 0) y.regs (iD w) v }) →
      exec (.dbnz t false) s = .next (s.ends (if v ≠ 0 then u1.modCtx t i fun y => { y with pc := fld 0 6 w } else u1.pcNext t i))) ∧
    (iOp w = 0x34 → exec (.waitc t false) s = .next (s.ends ((u.modCtx t i fun y => { y with wait := u.cyc + 1 + iImm w }).pcNext t i))) ∧
    (iOp w = 0x35 → exec (.halt t false) s = .next (s.ends (u.modCtx t i fun y => { y with run := 2, wait := 0 }))) ∧
    (iOp w = 0x36 → exec (.trap t false) s = .next (s.ends (u.trap t i 2 (iImm w) 0 (u.ctx t i).pc))) ∧
    (∀ u1 x, iOp w = 0x37 → u.readOp t i (iA w) = (u1, x) →
      exec (.sendf t false) s = .next (s.ends (u.finishWrite u1 t i (iD w) ⟨x.v, bitOf w 0, x.poison || bitOf w 1⟩))) ∧
    (iOp w = 0x39 → exec (.setrt t false) s = .next (s.ends ((u.modCtx t i fun y => { y with routes := y.routes.set (iD w - 20) (iImm w) }).pcNext t i))) ∧
    (∀ u1 x, iOp w = 0x3A → u.readOp t i (iA w) = (u1, x) → x.poison = false → exec (.setrtr t false) s =
      .next (s.ends ((u1.modCtx t i fun y => { y with routes := y.routes.set (iD w - 20) (x.v.toNat % 65536) }).pcNext t i)))

/-- The count of a WAITC runs out at its c, and nothing else changes (R402). -/
def Obligations.WaitcCountEnds : Prop :=
  ∀ (s a : State) (t : Fin 256) (i : Fin 2), a = s.fresh → a.clocked = true → (a.ctx t i).run = 1 → a.cyc < (a.ctx t i).wait →
    exec (.waitcExpiry t i) s = .next (s.ends (a.advanceCyc (a.ctx t i).wait))

/-- Traps of a tile: a parity error traps CHECK, a word that breaks the forms traps ILLEGAL, a poisoned value traps a branch, DBNZ and SETRTR, each with
the operand and the PC; the instruction has no other effect (R402, R421, R428). -/
def Obligations.TileTraps : Prop :=
  ∀ (s a u : State) (t : Fin 256) (i clk w : Nat), a = s.fresh → a.clocked = true → u = a.issued t clk → a.issuer t = some (i, clk) →
    ((a.ctx t i).mem.getD (a.ctx t i).pc 0).toNat = w →
    (∀ c op f, c.binary = some (t, true, op, f) → iOp w = op → exec c s = .next (s.ends (u.trap t i 0x10 0 0 (a.ctx t i).pc))) ∧
    (∀ c op f, c.unary = some (t, true, op, f) → iOp w = op → exec c s = .next (s.ends (u.trap t i 0x10 0 0 (a.ctx t i).pc))) ∧
    (∀ c op f, c.binary = some (t, false, op, f) → iOp w = op → illegal w = true → exec c s = .next (s.ends (u.trap t i 1 0 0 (a.ctx t i).pc))) ∧
    (∀ c op f, c.unary = some (t, false, op, f) → iOp w = op → illegal w = true → exec c s = .next (s.ends (u.trap t i 1 0 0 (a.ctx t i).pc))) ∧
    (formOf (iOp w) = .reserved → exec (.trap t false) s = .next (s.ends (u.trap t i 1 0 0 (a.ctx t i).pc))) ∧
    (∀ u1 x, illegal w = false → iA w < 16 → u.readOp t i (iA w) = (u1, x) → x.poison = true →
      (iOp w = 0x30 → exec (.beqz t false) s = .next (s.ends (u.trap t i 5 0 (iA w) (a.ctx t i).pc))) ∧
      (iOp w = 0x31 → exec (.bnez t false) s = .next (s.ends (u.trap t i 5 0 (iA w) (a.ctx t i).pc))) ∧
      (iOp w = 0x3A → exec (.setrtr t false) s = .next (s.ends (u.trap t i 5 0 (iA w) (a.ctx t i).pc))))

/-- What the bit instructions compute, bit by bit (R402): PEXT and PDEP undo each other on the ones of b, POPC counts, PAR is its parity, BREV mirrors, CLZ counts
the leading zeros. -/
def Obligations.BitInstructionsAgree : Prop :=
  ∀ a b : Word,
    Machine.pdep (Machine.pext a b) b = a &&& b ∧
    (∀ i < 32, (Machine.pdep a b).getLsbD i = (b.getLsbD i && a.getLsbD ((List.range i).countP fun j => b.getLsbD j))) ∧
    (∀ n < 32, (Machine.pext a b).getLsbD n =
      (match (List.range 32).find? fun i => b.getLsbD i && (List.range i).countP (fun j => b.getLsbD j) == n with | some i => a.getLsbD i | none => false)) ∧
    (Machine.popc (a &&& b)).toNat = (List.range 32).countP (fun i => a.getLsbD i && b.getLsbD i) ∧
    (∀ i < 32, (Machine.brev a).getLsbD i = a.getLsbD (31 - i)) ∧
    (∀ n < 32, (Machine.clz a).toNat = n ↔ a.getLsbD (31 - n) = true ∧ ∀ j < n, a.getLsbD (31 - j) = false) ∧
    ((Machine.clz a).toNat = 32 ↔ a = 0)

/-- The mesh and the watch over its queues: a router output moves the flit it serves to the next router, or delivers it to its inbox, keeping data, flags and
destination; a queue that stays full stalls (R405, R406, R422). -/
def Obligations.MeshEventsComplete : Prop :=
  ∀ (s a : State) (t : Fin 256), a = s.fresh → a.clocked = true →
    (∀ (out : Fin 5) q f u v, out.val ≠ 4 → a.served t out = some (q, f) → a.meshScan = false →
      u = a.advanceCyc (max f.ready ((a.tile t).free.getD out 0)) → v = (u.modTile t fun x => x.hopped out q u.cyc).headMoves t q →
      exec (.flitHop t out) s = .next (s.ends (v.modTile (beyond t out).1 fun x => x.enters (beyond t out).2 { f with ready := v.cyc + 1 }))) ∧
    (∀ q f u v, a.served t 4 = some (q, f) → a.meshScan = false →
      u = a.advanceCyc (max f.ready ((a.tile t).free.getD 4 0)) → v = (u.modTile t fun x => x.hopped 4 q u.cyc).headMoves t q →
      exec (.flitHop t 4) s = .next (s.ends (v.modCtx t (fld 10 1 f.dest) fun x =>
        x.gets (fld 8 2 f.dest) { data := f.data, last := f.last, poison := f.poison, ready := v.cyc + 1 }))) ∧
    (∀ (q : Fin 16) x u, a.stalled t q = some x → bitOf (a.causesOf 25) x.key = false → u = a.advanceCyc (x.from' + a.obj Obj.stallLimit) →
      exec (.stallWatchdog t q) s = .next (s.ends (((((u.bump Obj.stalls).setObj Obj.stallAt (t % 16 + t / 16 * 16 + q * 256)).setBit Obj.fabFaultCause 1
        true).beginCause 25 x.key (sourceWord t 1)).autoDrain x.ctx 2)))

/-- The FE points and the service of stream ports: READ, WRITE, WRITE_MASKED, FENCE, LOCK and UNLOCK whose words are all at the port are presented with the
fields that the words carry; a write whose data is still to come is presented open; a response of the fabric is matched to its request (R411 to R417). -/
def Obligations.FabricRequestsComplete : Prop :=
  ∀ s a : State, a = s.fresh → a.clocked = true →
    (∀ c (e : Fin 16) kind l head need t r d, c.fe = some (e, kind) → a.ingressClosed = false → l = a.feWords e → head = feHead l → need = feNeed l →
      l ≠ [] → head ≤ l.length → need ≤ l.length → feOp (wordAt l 0) = kind.opcode → mapGet (fun _ => none) a.feOpen e = none →
      r = feReq e (if a.bindOf e = 3 then 1 else 0) kind l → (kind = .read → a.returnUse e + r.lines ≤ 8) →
      t = a.advanceCyc ((l.take head).foldl (fun c x => max c x.ready) a.cyc) → (∀ x ∈ (l.take need).drop head, x.ready ≤ t.cyc) →
      d = (if kind = .masked then spreadWords r.mask 16 ((l.take need).drop head) else (l.take need).drop head) →
      exec c s = .next (s.ends ((t.setEdgeOut e ((t.edgeOutQ e).drop need)).feEnter e { r with
        data := if kind.isWrite then wordBytes d else [], poison := if kind.isWrite then poisonOf d else 0 }))) ∧
    (∀ c (e : Fin 16) kind l head t r, c.fe = some (e, kind) → a.ingressClosed = false → l = a.feWords e → head = feHead l → l ≠ [] →
      head ≤ l.length → l.length < feNeed l → feOp (wordAt l 0) = kind.opcode → kind ≠ .read → mapGet (fun _ => none) a.feOpen e = none →
      r = feReq e (if a.bindOf e = 3 then 1 else 0) kind l → t = a.advanceCyc ((l.take head).foldl (fun c x => max c x.ready) a.cyc) →
      t.obj (Obj.feEnable e) = 1 → exec c s = .next (s.ends ({ t.setEdgeOut e ((t.edgeOutQ e).drop head) with
        feOpen := mapSet (fun _ => none) (t.setEdgeOut e ((t.edgeOutQ e).drop head)).feOpen e (some (t.serial, feNeed l - head)) }.feEnter e
          { r with openData := true }))) ∧
    (∀ (port : Fin 16) l h r need t bytes, l = a.edgeOutQ (16 + port) → h = wordAt l 0 * 2 ^ 32 + wordAt l 1 → need = respNeed l → 2 ≤ l.length →
      need ≤ l.length → a.reqs.find? (fun r => r.rq == 16 * port + fld 56 4 h && r.stage == .fabric && r.tag == fld 48 8 h) = some r →
      r.kind.opcode = fld 60 4 h → r.lines = fld 42 2 h + 1 → r.lockstep = false →
      t = (a.advanceCyc ((l.take need).foldl (fun c x => max c x.ready) a.cyc)).setEdgeOut (16 + port) (l.drop need) →
      bytes = (List.range (((l.take need).drop 2).length / 2)).flatMap (fun j =>
        leBytes 4 (wordAt ((l.take need).drop 2) (2 * j + 1)) ++ leBytes 4 (wordAt ((l.take need).drop 2) (2 * j))) →
      exec (.fabResponse port) s = .next (s.ends (t.close { r with
        status := (List.range r.lines).map fun i => some (fld (16 + 4 * i) 4 h), back := (List.range r.lines).map fun i => (bytes.drop (64 * i)).take 64 })))

/-- The ends of what the configuration unit runs: an image load, a scan, a frame move and a fault drain (R431, R433, R440 to R444). -/
def Obligations.ConfigurationEndsComplete : Prop :=
  ∀ s a : State, a = s.fresh → a.awake = true →
    (∀ j t, a.imageJob = some j → j.reading = false → ({ a with imageJob := none }).loadImage j.ctx j.bytes (!j.bad) = (t, true) →
      exec .imageLoadDone s = .next (s.ends (t.cmdDone Obj.imageCmd).foeLoaded)) ∧
    (∀ j t, a.imageJob = some j → j.reading = false → ({ a with imageJob := none }).loadImage j.ctx j.bytes (!j.bad) = (t, false) →
      exec .imageLoadDone s = .next (s.ends (t.cmdFailed Obj.imageCmd 0xB).foeLoaded)) ∧
    (∀ j t u v, a.scan = some j → t = { (a.advanceCyc j.ends).setObj Obj.lastScanC (scanC j.target) with scan := none } →
      u = (if j.op = 1 then t
        else
          let u := t.each (targetCtxs j.target) fun i x => x.inCtx (frameFor j.target j.inn i) i (bitOf j.flags 0)
          if targetMesh j.target then u.inMesh (frameFor j.target j.inn 2) else u) →
      v = (if j.op = 2 then u
        else
          let v := u.each (targetCtxs j.target) fun i x =>
            x.outFrame (frameFor j.target j.out i) (numbered 128 fun k => t.ctxRecord k i) (1 + 4 * i) (t.obj (Obj.imageId i))
          if targetMesh j.target then v.outFrame (frameFor j.target j.out 2) (numbered 64 fun k => meshRecord (t.tile k)) 2 0 else v) →
      exec (.scanDone false) s = .next (s.ends (
        let x := v.releaseEdges.setBit Obj.scanStatus 1 false
        let x := if bitOf j.flags 1 then x.each (targetCtxs j.target) fun i y => y.startCtx i else x
        x.cmdDone Obj.scanCmd))) ∧
    (∀ j t, a.scan = some j → t = { (a.advanceCyc j.ends).setObj Obj.lastScanC (scanC j.target) with scan := none } →
      exec (.scanDone true) s = .next (s.ends (((((t.scanOut t j).scanError j).releaseEdges.setBit Obj.scanStatus 1 true).setBit Obj.scanStatus 2 true).cmdFailed
        Obj.scanCmd 9))) ∧
    (∀ j, a.moveJob = some j → j.waiting = false → j.bad = false → j.op = 1 →
      exec .frameMoveDone s = .next (s.ends (({ a with moveJob := none }).cmdDone (Obj.frameMove j.frame)))) ∧
    (∀ j, a.moveJob = some j → j.waiting = false → j.bad = true →
      exec .frameMoveDone s = .next (s.ends (({ a with moveJob := none }).cmdFailed (Obj.frameMove j.frame) 6))) ∧
    (∀ j t, a.moveJob = some j → j.waiting = false → j.bad = false → j.op ≠ 1 → t = ({ a with moveJob := none }).setFrame j.frame j.words →
      exec .frameMoveDone s = .next (s.ends (
        let ok := leNat (j.tail.take 4) == 0x4D524643 && leNat ((j.tail.drop 24).take 4) == t.frameCrc j.frame
        let kind := (byteAt j.tail 4).toNat
        let u := t.setObj (Obj.frameKind j.frame) (withBit (kind % 64) 3 (bitOf kind 3 || !ok))
        ((u.setObj (Obj.frameTs j.frame) (leNat ((j.tail.drop 8).take 8))).setObj (Obj.frameImageId j.frame) (leNat ((j.tail.drop 16).take 8))).cmdDone
          (Obj.frameMove j.frame)))) ∧
    (∀ (i : Fin 2) j t, a.drain = some j → j.target = i.val → t = { (a.advanceCyc j.ends).setObj Obj.lastScanC (scanC i) with drain := none } →
      exec (.faultDrain i) s = .next (s.ends (((((t.outCtx j.out i).setBit (Obj.frameKind j.out) 4 true).bump (Obj.drains i)).releaseEdges).setBit
        Obj.scanStatus 1 false)))

/-- Message channels and MB ports: a register write fills the message, a read by the receiver that takes in the last register consumes it, time-outs and
expired fills empty the channel, a pending doorbell is sent, and a RELEASE word consumes (R455 to R470). -/
def Obligations.MessageEventsComplete : Prop :=
  ∀ (s a : State) (m : Fin 32), a = s.fresh →
    (∀ p (w : Fin 64) (v : BitVec 32) r x, p ≠ .fabric → w.val < 16 → x = wrOf p (Obj.msgReg m w) 4 v.toNat → a.Takes x r v.toNat →
      exec (.msgRegWrite p m w [v] true false) s = .next (s.ends (a.accepting x r v.toNat fun _ t => t.msgFill m w (partyOf p)))) ∧
    (∀ p (b : Fin 256) (n : Nat) t, a.canRead p = true → a.obj (Obj.msgState m) = mcFull → a.mcEmptyIrq m = false →
      a.obj (Obj.msgReceiver m) = partyOf p → b + n ≤ 64 → (pageSubs b n).contains (a.mcWidth m) = true → (p = .pcie → 4 ≤ n) →
      t = a.msgLeaves m 3 → exec (.msgConsumingRead p { m := m, b := b, n := n }) s = .next (s.ends
        { (if t.mcEmptyIrq m then t.notify m false else t) with answer := { path := p, data := ((a.pageBytes m).drop b).take n } })) ∧
    (a.awake = true → a.obj (Obj.msgState m) = mcFull → a.mcWaits m = false → exec (.msgTimeoutExpiry m) s = .next (s.ends
      ((((((((a.advanceTo (a.mc m).due).msgWithdraw m).msgLeaves m 0x89).setBit (Obj.msgFlags m) 0 true).bump (Obj.msgTimeouts m)).raise 46
        (sourceWord 0 0xFF)).notify m true)))) ∧
    (a.awake = true → a.obj (Obj.msgState m) = mcFilling → a.partyDown (a.mc m).filler = false → exec (.fillExpiry m) s = .next (s.ends
      (((a.advanceTo ((a.mc m).fillAt + 100 * msTicks)).fillDrops m).setBit (Obj.msgFlags m) 4 true))) ∧
    (a.awake = true → a.obj (Obj.msgState m) = mcFilling → a.partyDown (a.mc m).filler = true → exec (.fillExpiry m) s = .next (s.ends
      ((a.fillDrops m).setBit (Obj.msgFlags m) 4 true))) ∧
    (a.awake = true → a.bit (Obj.msgFlags m) 2 = true → a.obj (Obj.msgState m) = mcFull → a.partyDown (a.obj (Obj.msgReceiver m)) = false →
      exec (.doorbellPendingSend m) s = .next (s.ends (a.doorbell m))) ∧
    (∀ (q : Fin 4) w t, a.clocked = true → a.port.held = [] → a.edgeOutQ (mbPort q) = [w] → (a.mb q).drop = false → (a.mb q).chan = some m.val →
      a.obj (Obj.msgState m) ≠ mcDisabled → a.obj (Obj.msgState m) ≠ mcFull → (a.mcIs m mcFilling = true → (a.mc m).filler = fabricParty (a.mbCtx q) q) →
      t = (a.advanceCyc w.ready).setEdgeOut (mbPort q) [] →
      exec (.mbSend q) s = .next (s.ends (t.mbData q m w))) ∧
    (∀ (q : Fin 4) w t, a.clocked = true → a.port.held = [] → a.edgeOutQ (mbPort q) = [w] → (a.mb q).drop = false → (a.mb q).chan = none →
      w.data.toNat = 2 ^ 28 + m.val * 2 ^ 16 → w.last = false → a.obj (Obj.msgState m) = mcEmpty → a.obj (Obj.msgState m) ≠ mcDisabled →
      t = ((a.advanceCyc w.ready).setEdgeOut (mbPort q) []).setMb q { chan := some m.val } →
      exec (.mbSend q) s = .next (s.ends (t.msgFill m 0 (fabricParty (a.mbCtx q) q)))) ∧
    (∀ (q : Fin 4) w l t, a.clocked = true → a.port.held = [] → a.edgeOutQ (mbPort q) = w :: l → (a.mb q).drop = false → (a.mb q).chan = none →
      w.data.toNat = 2 * 2 ^ 28 + m.val * 2 ^ 16 → w.last = true → t = (a.advanceCyc w.ready).setEdgeOut (mbPort q) l →
      t.msgReleaseRefused m (fabricParty (t.mbCtx q) q) = none → exec (.mbRelease q) s = .next (s.ends (t.msgConsume m)))

/-- The PCI Express port: TLPs to the host queues, merge waits, commands of a page, resets and errors of the function, its link, its configuration space
and the masks of its vectors (R480 to R492, R513, R515, R632). -/
def Obligations.HostPortEventsComplete : Prop :=
  ∀ s a : State, a = s.fresh →
    (∀ off data enables relaxed t, a.awake = true → a.ingressClosed = false → t = a.requestWakes → t.bit Obj.pcieLink 9 = true →
      tlpOk off.toNat data.length 512 = true →
      exec (.bar2Write off data enables relaxed false) s =
        .next (s.ends (t.hostArrive (off.toNat / 2 ^ 34) (.write off.toNat data enables relaxed false)))) ∧
    (∀ off data enables relaxed t, a.awake = true → a.ingressClosed = false → t = a.requestWakes → t.bit Obj.pcieLink 9 = true →
      tlpOk off.toNat data.length 512 = true →
      exec (.bar2Write off data enables relaxed true) s =
        .next (s.ends (t.poisonedTlp.hostArrive (off.toNat / 2 ^ 34) (.write off.toNat data enables relaxed true)))) ∧
    (∀ off len t, a.awake = true → a.ingressClosed = false → t = a.requestWakes → t.bit Obj.pcieLink 9 = true → tlpOk off.toNat len 4096 = true →
      exec (.bar2Read off len) s = .next (s.ends (t.hostArrive (off.toNat / 2 ^ 34) (.read off.toNat len)))) ∧
    (∀ (q : Fin 4) o, a.clocked = true → (a.hq q).openLine = some o → exec (.hqMergeWaitExpiry q) s =
      .next (s.ends ((a.advanceCyc o.due).closeHostLine q))) ∧
    (∀ (q : Fin 4) t x l, a.awake = true → a.ingressClosed = false → t = a.requestWakes → t.bit Obj.pcieLink 9 = true → (t.hq q).waiting = false →
      x = t.hq q → l = x.addr - x.addr % 64 → exec (.hqFence q) s = .next (s.ends (((t.modHq q fun h =>
        { h with addr := l, range := x.range, lease := x.lease }).modHq q fun h => { h with waiting := true }).hostArrive q
          (.command 4 l x.range x.lease)))) ∧
    (∀ (q : Fin 4) (addr : BitVec 40) (range : BitVec 24) (lease : BitVec 10) t l, a.awake = true → a.ingressClosed = false → t = a.requestWakes →
      t.bit Obj.pcieLink 9 = true → (t.hq q).waiting = false → l = addr.toNat - addr.toNat % 64 →
      exec (.hqLock q addr range lease) s = .next (s.ends (((t.modHq q fun h =>
        { h with addr := l, range := range.toNat, lease := lease.toNat }).modHq q fun h => { h with waiting := true }).hostArrive q
          (.command 5 l range.toNat lease.toNat)))) ∧
    (∀ (q : Fin 4) (addr : BitVec 40) t x l, a.awake = true → a.ingressClosed = false → t = a.requestWakes → t.bit Obj.pcieLink 9 = true →
      (t.hq q).waiting = false → x = t.hq q → l = addr.toNat - addr.toNat % 64 →
      exec (.hqUnlock q addr) s = .next (s.ends (((t.modHq q fun h => { h with addr := l, range := x.range, lease := x.lease }).modHq q fun h =>
        { h with waiting := true }).hostArrive q (.command 6 l x.range x.lease)))) ∧
    (a.bit Obj.pcieLink 9 = true → exec (.pcieFunctionReset 0) s = .next (s.ends ((a.bump Obj.pcieFlrs).dropSession .pcie).functionReset)) ∧
    (a.bit Obj.pcieLink 9 = true → exec (.pcieFunctionReset 1) s = .next (s.ends ((a.dropSession .pcie).setObj Obj.pcieLink 0).functionReset)) ∧
    (a.bit Obj.pcieLink 9 = true → exec (.pcieFunctionReset 2) s =
      .next (s.ends (((a.bump Obj.pcieLinkDowns).dropSession .pcie).setObj Obj.pcieLink 0).functionReset)) ∧
    exec (.pcieFunctionReset 3) s = .next (s.ends ((((a.dropSession .pcie).modPcie fun x => { x with perst := true }).setObj Obj.pcieLink 0).functionReset)) ∧
    (∀ e, a.awake = true → a.bit Obj.pcieLink 9 = true →
      exec (.pcieError e) s = .next (s.ends (if e = .poisoned then a.poisonedTlp else a.pcieError (aerBit e)))) ∧
    (a.pcie.perst = true → exec .pciePerstNDeassert s = .next (s.ends (a.modPcie fun x => { x with perst := false, crsUntil := a.now + 1000 * msTicks }))) ∧
    (∀ (speed : Fin 6) (width : Fin 17) t, a.awake = true → a.bit Obj.pcieLink 9 = false → a.pcie.perst = false → a.bit Obj.clockStatus 2 = true →
      linkWidths.contains width.val = true → t = a.dropShadows (fun h => h.bound == .linkRetrain && blockOf h.key == 8) → exec (.pcieLinkUp speed width) s = .next (s.ends
        ((t.setObj Obj.pcieLink (max 1 (min speed.val (t.obj Obj.pcieMaxSpeed)) + width.val * 16 + 512)).flushMsix))) ∧
    (∀ d3 bme msixEnable msixMask severity t, a.awake = true → a.bit Obj.pcieLink 9 = true → (a.obj Obj.runPhase ≠ 1 ∨ a.pcie.crsUntil ≤ a.now) →
      t = a.modPcie (fun x => { x with dState := if d3 then 3 else 0, bme := bme, msixEnable := msixEnable, msixFnMask := msixMask, severity := severity.toNat }) →
      exec (.pcieConfigRequest d3 bme msixEnable msixMask severity) s =
        .next (s.ends ({ t with answer := { path := .pcie, data := t.configIdentity } }.flushMsix))) ∧
    (∀ d3 bme msixEnable msixMask severity, a.awake = true → a.bit Obj.pcieLink 9 = true → a.obj Obj.runPhase = 1 → a.now < a.pcie.crsUntil →
      exec (.pcieConfigRequest d3 bme msixEnable msixMask severity) s = .next (s.ends { a with answer := { path := .pcie, reason := 0xFF } })) ∧
    (∀ (vector : Fin 64) masked, a.awake = true → a.bit Obj.pcieLink 9 = true → exec (.msixMaskWrite vector masked) s =
      .next (s.ends (a.modPcie fun x => { x with msixMask := withBit x.msixMask vector masked }).flushMsix)) ∧
    (∀ p (speed : Fin 6) x r w t u, rowOf Obj.pcieRetrain = some x → w = wrOf p Obj.pcieRetrain x.ty.size 1 → a.Takes w r 1 →
      t = a.accepting w r 1 (fun _ y => if y.bit Obj.pcieLink 9 then y.setObj Obj.pcieRetrain 1 else (y.bump Obj.pcieRetrains).cmdDone Obj.pcieRetrain) →
      t.obj Obj.pcieRetrain = 1 → u = t.cmdDone Obj.pcieRetrain → u.bit Obj.pcieLink 9 = true → exec (.pcieRetrain p speed) s =
        .next (s.ends ((u.pcieLinkUp speed (fld 4 5 (u.obj Obj.pcieLink))).bump Obj.pcieRetrains)))

/-- The EtherCAT slave: a state that the master may enter is entered and one it may not is answered with its status code; SDO transfers, the SM3
buffer and its watchdog, files, and the E-Bus links (R493 to R500, R509, R510, R531). -/
def Obligations.FieldbusEventsComplete : Prop :=
  ∀ s a : State, a = s.fresh →
    (∀ (new : Fin 16) m t, a.awake = true → a.obj Obj.runPhase ≠ 1 → t = a.modEct (fun e => { e with set := m }) → t.alRefusal new = 0 → new.val ≠ 1 →
      exec (.alStateRequest new m) s = .next (s.ends (((((t.setObj Obj.ectAlStatusCode 0).modEct fun e => { e with errInd := false }).setObj Obj.ectAlState
        new).pdRestart).sendEmcy))) ∧
    (∀ (new : Fin 16) m t, a.awake = true → a.obj Obj.runPhase ≠ 1 → t = a.modEct (fun e => { e with set := m }) → t.alRefusal new ≠ 0 →
      exec (.alStateRequest new m) s = .next (s.ends ((t.setObj Obj.ectAlStatusCode (t.alRefusal new)).modEct fun e => { e with errInd := true }))) ∧
    (∀ (new : Fin 16) m, a.awake = true → a.obj Obj.runPhase = 1 → exec (.alStateRequest new m) s =
      .next (s.ends ((a.modEct fun e => { e with set := m }).modEct fun e => { e with heldRequest := some new.val }))) ∧
    (∀ index parts l, a.pathUp .coe = true → l = mergeParts (a.stagedParts index) parts → exec (.sdoDownload index parts true) s =
      .next (s.ends (((a.setTransfer none).submitGroup (l.map fun x =>
        ({ path := .coe, index := index, sub := x.1, data := x.2, aligned := true, poisoned := false, form := .slot } : Wr))).pumpHosts))) ∧
    (∀ index parts, a.pathUp .coe = true → exec (.sdoDownload index parts false) s = .next (s.ends
      ((a.setTransfer (some { kind := 0, key := index, parts := mergeParts (a.stagedParts index) parts })).coeAnswers []))) ∧
    (∀ index sub complete subs, a.canRead .coe = true → subs = a.uploadSubs index sub complete →
      (∀ b ∈ subs, a.readRefused .coe index b 0 true = none) → exec (.sdoUpload index sub complete) s =
        .next (s.ends ((a.registersRead .coe index subs).coeAnswers (subs.flatMap fun b => a.uploadBytes index b complete)))) ∧
    (∀ index sub, a.canRead .coe = true → exec (.sdoInformation 0 index sub) s =
      .next (s.ends (a.coeAnswers (((List.range 0x6000).filter fun x => a.indexOn .coe x).flatMap (leBytes 2))))) ∧
    (∀ index sub r, a.canRead .coe = true → a.look .coe index sub = .found r → exec (.sdoInformation 2 index sub) s = .next (s.ends (a.coeAnswers
      (leBytes 2 index ++ leBytes 1 sub ++ leBytes 2 r.ty.code ++ leBytes 2 (8 * (a.readBytes r (index * 0x100 + sub)).length) ++ leBytes 2 r.acc.rights)))) ∧
    (a.awake = true → a.obj Obj.ectAlState ≠ 1 → exec .mailboxUnsupported s =
      .next (s.ends { a with answer := { path := .coe, reason := 0, data := leBytes 2 1 ++ leBytes 2 2 } })) ∧
    (∀ taken t, a.awake = true → (a.obj Obj.ectAlState = 4 ∨ a.obj Obj.ectAlState = 8) → t = a.modEct (fun e => { e with pdo := a.pdoBytes }) →
      exec (.pdoSample taken) s = .next (s.ends (if taken || t.obj (Obj.sm3Parameters 1) != 2 then t.pdRestart else t))) ∧
    (∀ password data, a.foeUp = true → a.foeRefused password.toNat = none → (a.stagedFile 1 0 ++ data).length ≤ 98304 →
      (a.setObj Obj.imageSource 0).loadRefused 0 = none →
      exec (.foeFabricFg password data true) s = .next (s.ends ((({ (a.putDom Obj.imageStaging (a.stagedFile 1 0 ++ data)).renewLease with
        imageJob := some { ctx := 0, bytes := a.stagedFile 1 0 ++ data } }).setObj Obj.imageCmd 1).setTransfer (some { kind := 1, key := 1 })))) ∧
    (∀ password data, a.foeUp = true → a.foeRefused password.toNat = none → (a.stagedFile 2 0 ++ data).length ≤ 98304 →
      (a.setObj Obj.imageSource 0).loadRefused 1 = none →
      exec (.foeFabricBg password data true) s = .next (s.ends ((({ (a.putDom Obj.imageStaging (a.stagedFile 2 0 ++ data)).renewLease with
        imageJob := some { ctx := 1, bytes := a.stagedFile 2 0 ++ data } }).setObj Obj.imageCmd 1).setTransfer (some { kind := 2, key := 1 })))) ∧
    (∀ (n : Nat) password data file, n < 100 → a.foeUp = true → a.foeRefused password.toNat = none → file = a.stagedFile 3 n ++ data → file.length ≤ 98304 →
      a.nvsRefused false = none → a.areaFits file.length = true → (a.pastA0 && a.entryForbids Obj.areaWrite n) = false →
      exec (.areaFileWrite n password data true) s = .next (s.ends ((((a.areaBegin Obj.areaWrite n file).renewLease).setTransfer none).coeAnswers []))) ∧
    (∀ password data, a.foeUp = true → a.obj Obj.ectAlState = 3 → password = 0 → exec (.foeFirmware password data true true) s =
      .next (s.ends (((a.setTransfer none).placeFirmware).coeAnswers []))) ∧
    (∀ t, a.awake = true → a.ect.set.pdWatchdogUs ≠ 0 → a.obj Obj.ectAlState = 8 →
      t = (((a.advanceTo a.ect.pdDue).pdRestart).bump Obj.ectWatchdogBites).raise 48 (sourceWord 0 0xFF) →
      exec .pdWatchdog s = .next (s.ends (((t.setObj Obj.ectAlState 4).setObj Obj.ectAlStatusCode 0x1B).modEct fun e => { e with errInd := true }))) ∧
    (a.awake = true → a.ect.set.pdWatchdogUs ≠ 0 → a.obj Obj.ectAlState = 4 → exec .pdWatchdog s =
      .next (s.ends ((((a.advanceTo a.ect.pdDue).pdRestart).bump Obj.ectWatchdogBites).raise 48 (sourceWord 0 0xFF)))) ∧
    (∀ (port : Fin 2) up t u, t = a.modEct (fun e => if port.val = 0 then { e with link0 := up } else { e with link1 := up }) →
      u = t.setObj Obj.ectPorts t.ect.ports →
      exec (.ebusLinkChange port up) s = .next (s.ends (if !u.ect.link0 && !u.ect.link1 then u.dropSession .coe else u)))

/-- The sideband target: a WRITE of a numeric object goes to the dictionary, bytes of a string or domain are staged, a READ answers status, count and data,
STATUS answers four bytes, and a bus held low is released (R501 to R505). -/
def Obligations.SidebandTransfersComplete : Prop :=
  ∀ s a : State, a = s.fresh → a.reachable = true →
    (∀ index sub data t r, data.length ≤ 32 → t = a.bump Obj.sbTransfers → t.look .sideband index.toNat sub.toNat = .found r → r.bytes = false →
      exec (.sbWrite 0x10 index sub 0 (BitVec.ofNat 8 data.length) data (some true)) s = .next (s.ends (t.submit (sbWr index.toNat sub.toNat data)))) ∧
    (∀ index sub (off : BitVec 32) data t r, 0 < data.length → data.length ≤ 32 → t = a.bump Obj.sbTransfers →
      t.look .sideband index.toNat sub.toNat = .found r → r.bytes = true → off.toNat + data.length ≤ 65536 →
      exec (.sbWrite 0x10 index sub off (BitVec.ofNat 8 data.length) data (some true)) s =
        .next (s.ends (({ t with sb := { t.sb with staging := putBytes t.sb.staging off.toNat data } }).answerTo .sideband 0))) ∧
    (∀ index sub (off : BitVec 32) (n : BitVec 8) t r d, t = a.bump Obj.sbTransfers → t.readRefused .sideband index.toNat sub.toNat n.toNat (off.toNat == 0) = none →
      t.look .sideband index.toNat sub.toNat = .found r → (r.bytes = false ∨ (t.pwr.mode ≠ 2 ∧ t.mgUp = true)) →
      d = ((t.readBytes r (index.toNat * 0x100 + sub.toNat)).drop off.toNat).take n.toNat →
      exec (.sbRead index sub off n) s = .next (s.ends
        { t.registersRead .sideband index.toNat [sub.toNat] with answer := { path := .sideband, data := leBytes 1 0 ++ leBytes 1 d.length ++ d } })) ∧
    (∀ t d, t = a.bump Obj.sbTransfers →
      d = leBytes 1 t.sb.result ++ leBytes 1 (t.view Obj.runPhase) ++ leBytes 1 (t.view Obj.bcnNow) ++ leBytes 1 (t.view Obj.sessionOwner) →
      exec .sbStatus s = .next (s.ends { t with answer := { path := .sideband, data := d } })) ∧
    exec (.sbBusTimeout false) s = .next (s.ends (a.bump Obj.sbTimeouts)) ∧
    exec (.sbBusTimeout true) s = .next (s.ends ((a.bump Obj.sbTimeouts).dropSession .sideband))


/-- The settings store's operation ends (R528, R532), lines are raised by events (R544, R545), the die's temperature sets lines 42 and 43
(R546, R693), and the management core's watchdog, restart and heartbeat (R547, R507). -/
def Obligations.SettingsAndFaultEventsComplete : Prop :=
  ∀ s a : State, a = s.fresh →
    (∀ us ok ok2 bad bad2 o x t, a.nvs.op = some o → o.entry = none → o.bank = none → o.slot = some x →
      t = a.advanceTo (o.started + min us o.mostUs * usTicks) →
      exec (.nvsOperationDone us true ok ok2 bad bad2) s = .next (s.ends (t.slotTries o x.2 [ok, ok2] (some x.1)))) ∧
    (∀ us ok ok2 bad bad2 o b t, a.nvs.op = some o → o.entry = none → o.bank = some b → t = a.advanceTo (o.started + min us o.mostUs * usTicks) →
      exec (.nvsOperationDone us false ok ok2 bad bad2) s =
        .next (s.ends ((t.spoilPages ((bad.filter fun p => decide (p < 18)).map (18 * b.1 + ·))).nvsFails o))) ∧
    (∀ us bankOk ok ok2 bad bad2 o e t, a.nvs.op = some o → o.entry = some e → t = a.advanceTo (o.started + min us o.mostUs * usTicks) →
      exec (.nvsOperationDone us bankOk ok ok2 bad bad2) s = .next (s.ends (t.entryTries o e [bad, bad2]))) ∧
    (∀ line inst bit, a.awake = true →
      exec (.errorLineRaise line inst bit) s = .next (s.ends (a.raise line.val (sourceWord inst.val bit.val)))) ∧
    (∀ (temp : Int) t u, a.awake = true → t = (a.advanceTo ((a.now / (10 * usTicks) + 1) * (10 * usTicks))).setObj Obj.dieTemp (ofInt 16 temp) →
      toInt 16 (t.obj Obj.maxDieTemp) < temp → 1100 ≤ temp → u = t.setObj Obj.maxDieTemp (ofInt 16 temp) → 10 * (u.obj Obj.thermWarn : Int) ≤ temp →
      exec (.dieTempSample temp) s = .next (s.ends ((u.setCause 42 0 (sourceWord 0xFF 0xFF) true).setCause 43 0 (sourceWord 0 0xFF) true))) ∧
    (∀ (temp : Int) t, a.awake = true → t = (a.advanceTo ((a.now / (10 * usTicks) + 1) * (10 * usTicks))).setObj Obj.dieTemp (ofInt 16 temp) →
      temp ≤ toInt 16 (t.obj Obj.maxDieTemp) → temp ≤ 1050 → temp ≤ 10 * (t.obj Obj.thermWarn : Int) - 50 →
      exec (.dieTempSample temp) s = .next (s.ends ((t.setCause 42 0 (sourceWord 0xFF 0xFF) false).setCause 43 0 (sourceWord 0 0xFF) false))) ∧
    (a.awake = true → exec .mgWatchdog s = .next (s.ends (a.beginCause 49 0 (sourceWord 0 0xFF)))) ∧
    (a.awake = true → a.mgUp = false → exec .mgRestartDone s = .next (s.ends (a.endCause 49 0).sendEmcy)) ∧
    (∀ t, a.awake = true → t = a.advanceTo ((a.now / (500 * msTicks) + 1) * (500 * msTicks)) → t.mgUp = true →
      exec .bcnHeartbeat s = .next (s.ends (t.setBit Obj.bcnNow 6 (!t.bit Obj.bcnNow 6))))

/-- The entry handshake: replies, a repeated ASK, a participant that does not answer and one that delays too long; the abort points, the bound of a
step, and the end of a storm's holdoff (R574 to R579, R595, R596). -/
def Obligations.EntryEventsComplete : Prop :=
  ∀ s a : State, a = s.fresh → a.awake = true →
    (∀ ps e, a.pwr.entry = some e → e.point = none →
      exec (.handshakeReply ps) s = .next (s.ends (a.replies e ((e.asked.filter fun p => ps.contains p).map fun p => (p, a.askReply p))))) ∧
    (∀ e, a.pwr.entry = some e → e.point = none → e.delaying.isEmpty = true → e.asked.isEmpty = true →
      exec (.handshakeReply []) s = .next (s.ends ((a.modPwr fun p => { p with entry := some { e with asked := [], delaying := [] } }).handshakeDone))) ∧
    (∀ e t, a.pwr.entry = some e → e.point = none → e.delaying ≠ [] → t = a.advanceTo (e.askedAt + 10 * usTicks) →
      exec .reaskTimer s = .next (s.ends (t.modPwr fun p => { p with entry := some { e with asked := (e.asked ++ e.delaying.map fun d => d.1).eraseDups, askedAt := t.now } }))) ∧
    (∀ q e, a.pwr.entry = some e → e.point = none → q ∈ e.asked →
      exec (.askTimeout q) s = .next (s.ends ((a.advanceTo (e.askedAt + 2 * usTicks)).replies e [(q, a.silentReply q)]))) ∧
    (∀ e x l t, a.pwr.entry = some e → e.point = none → e.delaying.mergeSort (fun a b => decide (a.1 ≤ b.1)) = x :: l →
      t = (a.advanceTo (e.began + a.obj Obj.entryDelayMax * usTicks)).bump Obj.delayExpiries →
      exec .entryDelayExpiry s = .next (s.ends (t.partRefuses x.1 x.2.1).entryGone)) ∧
    (∀ e, a.pwr.entry = some e → e.point = some 0 → e.abandon = false →
      exec .abortPointReached s = .next (s.ends (a.stepA1.modPwr fun p => { p with entry := some { e with point := some 1 }, lastPoint := 1 }))) ∧
    (∀ e, a.pwr.entry = some e → e.point = some 1 → e.abandon = false → a.ents = [] →
      exec .abortPointReached s = .next (s.ends (a.stepA2.modPwr fun p => { p with entry := some { e with point := some 2 }, lastPoint := 2 }))) ∧
    (∀ e, a.pwr.entry = some e → e.point = some 2 → e.abandon = false →
      exec .abortPointReached s = .next (s.ends (a.stepA3.modPwr fun p => { p with entry := some { e with point := some 3 }, lastPoint := 3 }))) ∧
    (∀ e, a.pwr.entry = some e → e.point = some 3 → e.abandon = false →
      exec .abortPointReached s = .next (s.ends ((a.stepA4 e.target).modPwr fun p => { p with entry := some { e with point := some 4 }, lastPoint := 4 }))) ∧
    (∀ e, a.pwr.entry = some e → e.point = some 4 → e.abandon = false →
      exec .abortPointReached s = .next (s.ends ((a.stepA5 e.target).modPwr fun p => { p with entry := some { e with point := some 5 }, lastPoint := 5 }))) ∧
    (∀ e, a.pwr.entry = some e → e.point = some 5 → exec .abortPointReached s = .next (s.ends (a.noReturn e))) ∧
    (∀ e t e', a.pwr.entry = some e → e.point = some 2 → e.abandon = true → e' = { e with point := some 3 } →
      t = a.stepA3.modPwr (fun p => { p with entry := some e', lastPoint := 3 }) →
      exec .abortPointReached s = .next (s.ends ((((t.bump (Obj.abortedA 3)).undo e').stormCheck).entryGone))) ∧
    (∀ e k, a.pwr.entry = some e → e.point = some k →
      exec .stepOverrun s = .next (s.ends ((a.bump Obj.stepOverruns).abandonAt e (min 5 (k + 1))))) ∧
    (a.pwr.holdoff ≠ 0 → exec .stormHoldoffEnd s = .next (s.ends ((a.advanceTo a.pwr.holdoff).modPwr fun p => { p with holdoff := 0 })))

/-- Wakes: the end of a wake from DOZE, WAKE_N, an address that Owl knows and the release of the bus, the end of a wake from DORMOUSE and RETAIN, and the
DORMOUSE sampler (R572, R582, R583, R587 to R589). -/
def Obligations.WakeEventsComplete : Prop :=
  ∀ s a : State, a = s.fresh →
    (∀ t, a.awake = true → t = a.requestWakes → t.pwr.mode = 1 → t.pwr.waking = true →
      exec .dozeWake s = .next (s.ends ((t.modPwr fun p => { p with mode := 0, waking := false }).bump Obj.wakes).powerDownExit)) ∧
    exec (.wakeN true) s = .next (s.ends ((a.modPwr fun p => { p with wakeLow := true }).wakeEvent (some (1, 0)))) ∧
    exec (.wakeN false) s = .next (s.ends (a.modPwr fun p => { p with wakeLow := false })) ∧
    (∀ (address : BitVec 7) rw, a.pwr.owlArmed = true → 3 ≤ a.pwr.mode → a.pwr.owlAt = none → address.toNat = a.pwr.record.address →
      exec (.owlMatch address rw) s = .next (s.ends ((a.modPwr fun p => { p with owlAt := some a.now }).wakeEvent (some (2, b2n rw))))) ∧
    (∀ (address : BitVec 7) rw, address.toNat ≠ a.pwr.record.address → exec (.owlMatch address rw) s = .next (s.ends a)) ∧
    (∀ x, a.pwr.owlAt = some x →
      exec .owlRelease s = .next (s.ends ((a.advanceTo (x + 30 * msTicks)).modPwr fun p => { p with owlAt := none }))) ∧
    (a.pwr.waking = true → a.pwr.mode = 2 → a.pwr.sampling = true → exec .wakeComplete s = .next (s.ends (a.setOp a.pwr.sleptOp).linksOn.wakeEnds)) ∧
    (a.pwr.waking = true → a.pwr.mode = 2 → a.pwr.sampling = false → a.vinOn = true → a.obj Obj.phasesInService ≠ 0 →
      exec .wakeComplete s = .next (s.ends ((((a.vcoreOn a.pwr.sleptOp).setOp a.pwr.sleptOp).linksOn).wakeEnds))) ∧
    (a.pwr.waking = true → a.pwr.mode = 3 → a.vinOn = true → a.obj Obj.phasesInService ≠ 0 →
      exec .wakeComplete s = .next (s.ends (((((a.vcoreOn a.pwr.sleptOp).setOp a.pwr.sleptOp).monitorStart).linksOn).wakeEnds))) ∧
    (∀ temp vin vhold sensors us t, a.pwr.mode = 2 → a.pwr.waking = false → a.pwr.sampling = false → t = (a.advanceTo a.pwr.sampleAt).vcoreOn a.pwr.sleptOp →
      exec (.dmSample temp vin vhold sensors us) s = .next (s.ends
        (t.modPwr fun p => { p with sampling := true, sampleAt := t.now + t.obj Obj.dmPeriod * msTicks }))) ∧
    (∀ temp vin vhold sensors us t, a.pwr.mode = 2 → a.pwr.waking = false → a.pwr.sampling = true →
      t = a.advanceTo (a.now + min us (321 + 125 * popCount 8 (a.obj Obj.dmEnableMask / 256)) * usTicks) →
      t.dmItems temp (min 0xFFFF vin) (min 0xFFFF vhold) sensors = [] → t.now ≤ t.pwr.sampleAt →
      exec (.dmSample temp vin vhold sensors us) s = .next (s.ends (((t.bump Obj.dmSamples).vcoreOff).modPwr fun p => { p with sampling := false }))) ∧
    (∀ temp vin vhold sensors us t item off r v lo hi l, a.pwr.mode = 2 → a.pwr.waking = false → a.pwr.sampling = true →
      t = a.advanceTo (a.now + min us (321 + 125 * popCount 8 (a.obj Obj.dmEnableMask / 256)) * usTicks) →
      t.dmItems temp (min 0xFFFF vin) (min 0xFFFF vhold) sensors = (item, off, some r, v, lo, hi) :: l → hi < v → lo ≤ hi →
      ((t.dmNote off r).violation item r true false).pwr.sampling = true →
      exec (.dmSample temp vin vhold sensors us) s = .next (s.ends ((t.dmNote off r).violation item r true false)))

/-- The regulators: a step of the load line, an alarm, an open phase, a cross-check that passes, foldback from entry to shutdown, and the self-tests
that return phases to service (R604 to R609, R622). -/
def Obligations.RegulatorEventsComplete : Prop :=
  ∀ s a : State, a = s.fresh →
    (∀ high low t, a.awake = true → t = a.advanceTo ((a.now / (100 * usTicks) + 1) * (100 * usTicks)) →
      exec (.loadlineStep high low) s = .next (s.ends (t.llMove (if low then 25 else if high then -25 else 0)))) ∧
    (a.awake = true → exec .marginAlarm s = .next (s.ends (a.llMove 250))) ∧
    (∀ (u : Fin 5) (phase : Fin 6), a.supplyExists u = true → a.supplyRuns u = true → phase.val ∈ phasesOf u →
      exec (.phaseOpen u phase) s = .next (s.ends (a.shutPhase u phase false))) ∧
    (∀ (u : Fin 5) readings expected t l, a.supplyExists u = true → a.supplyRuns u = true →
      t = a.advanceTo ((a.now / (10 * usTicks) + 1) * (10 * usTicks)) →
      l = ((phasesOf u).zipIdx.map fun x => (x.1, readings.getD x.2 0)).filter (fun x => (t.phasesIn u).contains x.1) →
      senseBad u (l.map (·.2)).sum expected = false →
      ∀ v, v = (t.showCurrents u l).setChecks u 0 → exec (.senseCheck u readings expected) s = .next (s.ends
        (v.setBit Obj.vcoreStatus 5 ((List.range 5).any fun w => v.checksOf w == 5)))) ∧
    (∀ t, a.regs.on = true → a.regs.fold = false → t = { a with regs := { a.regs with fold := true, forcedEnd := none } } →
      exec (.foldbackEntry 0) s = .next (s.ends ((((t.bump Obj.foldbacks).setBit Obj.regFaultCause 2 true).beginCause 39 0
        (sourceWord 0xFF 2)).forcedMove true))) ∧
    (∀ (n k : Fin 2) (u : Fin 5) t, u.val = 1 + 2 * n.val + k.val → a.part = .ft4216 → a.supplyOn n = true → ((a.pb n).supply k).fold = false →
      t = (a.bump Obj.foldbacks).modSupply n k (fun x => { x with fold := true }) →
      exec (.foldbackEntry u) s = .next (s.ends ((((t.setBit Obj.regFaultCause 2 true).beginCause 39 (foldCause n k)
        (sourceWord (16 * n.val + k.val) 12)).supplyFaultAt n 12).curl n 3 true))) ∧
    (a.regs.fold = true → exec (.foldbackExit 0) s = .next (s.ends (({ a with regs := { a.regs with fold := false } }).endCause 39 0))) ∧
    (∀ (n k : Fin 2) (u : Fin 5) t, u.val = 1 + 2 * n.val + k.val → ((a.pb n).supply k).fold = true →
      t = (a.modSupply n k fun x => { x with fold := false }).endCause 39 (foldCause n k) →
      exec (.foldbackExit u) s = .next (s.ends (if (List.range 2).any fun j => ((t.pb n).supply j).fold then t else t.endCause (supplyLine n) 12))) ∧
    (∀ t, a.awake = true → a.mustShutDown = true →
      t = a.advanceTo (if a.obj Obj.phasesInService = 0 then a.now else a.regs.forcedEnd.getD a.now + 100 * usTicks) →
      exec .foldbackShutdown s = .next (s.ends (t.setBit Obj.regFaultCause 4 true).shutDown)) ∧
    (∀ (pass : Fin 64) us f t u, f = mapGet (fun _ => 0) a.regs.restoreFrom 0 → f ≠ 0 → t = a.advanceTo (f - 1 + min us 1000 * usTicks) →
      u = t.setObj Obj.phasesInService (t.obj Obj.phasesInService ||| pass.val) →
      exec (.phaseRestoreDone 0 pass us) s = .next (s.ends (((({ u with regs := { u.regs with restoreFrom := mapErase u.regs.restoreFrom 0, senseOff := clearBits u.regs.senseOff pass.val } } : State).phaseLines 0 0).cmdDone Obj.phaseRestore)))) ∧
    (∀ (n : Fin 2) (i : Fin 3) (pass : Fin 64) us f t u, i.val = n.val + 1 → f = mapGet (fun _ => 0) a.regs.restoreFrom i → f ≠ 0 →
      t = a.advanceTo (f - 1 + min us 1000 * usTicks) →
      u = t.setObj (Obj.dutPhasesInService n) (t.obj (Obj.dutPhasesInService n) ||| pass.val) →
      exec (.phaseRestoreDone i pass us) s = .next (s.ends (((({ u with regs := { u.regs with restoreFrom := mapErase u.regs.restoreFrom i, dutSense := clearBits u.regs.dutSense (pass.val <<< (8 * n.val)) } } : State).phaseLines 0 0).cmdDone (Obj.dutPhaseRestore n)))))

/-- VIN and the hold-up bank: the loss of VIN in RUN and its return, the sleep on the bank, a full-charge point, a charge that fails, the estimates, and the
bank test from its start to its result (R614 to R619, R641 to R645). -/
def Obligations.SupplyInputEventsComplete : Prop :=
  ∀ s a : State, a = s.fresh →
    (a.vinOn = true → a.pwr.mode = 0 → a.rst.wait = 0 → exec .vinLoss s = .next (s.ends a.vinLostRunning)) ∧
    (a.vinOn = true → (a.pwr.mode = 3 ∨ a.pwr.mode = 4) → a.rst.wait = 0 →
      exec .vinLoss s = .next (s.ends ((a.setBit Obj.vinStatus 0 false).setBit Obj.vinStatus 1 true))) ∧
    (a.vinOn = false → a.pwr.mode ≠ 5 → a.pwr.mode ≠ 4 → a.rst.wait = 0 → a.vinBack.rst.vinParked = true →
      exec .vinReturn s = .next (s.ends a.vinBack.vinResumes)) ∧
    (∀ t, a.vinOn = false → a.pwr.mode = 4 → a.rst.wait = 0 → t = (a.setBit Obj.vinStatus 0 true).setBit Obj.vinStatus 1 false →
      exec .vinReturn s = .next (s.ends (if t.rst.vinParked then t.wakeEvent (some (0, 0)) else t))) ∧
    (a.rst.vinParked = true → a.awake = true → a.vinSleepDue = true →
      exec .vinSleep s = .next (s.ends (a.nvsAbandon.bump Obj.vinSleeps).sleepWatch)) ∧
    (∀ t u, a.vinOn = true → a.regs.testFrom = none → a.bit Obj.holdupStatus 1 = true →
      t = (a.setObj Obj.holdupQ (chargeAt a.cEff (a.obj Obj.holdupV))).bump Obj.holdupRecals →
      u = (((((({ t with regs := { t.regs with chargeFrom := none } } : State).setBit Obj.holdupStatus 0 true).setBit Obj.holdupStatus 1 false).setBit
        Obj.holdupStatus 3 false).setBit Obj.holdupStatus 6 false).setBit Obj.holdupStatus 7 false).estimate →
      exec .fullChargePoint s = .next (s.ends (if u.regs.firstTest || u.periodDue then u.testStart else u))) ∧
    (∀ x, a.regs.chargeFrom = some x → a.vinOn = true → a.bit Obj.holdupStatus 1 = true → exec .chargeFail s =
      .next (s.ends (((a.advanceTo (x + 2000 * msTicks)).setBit Obj.holdupStatus 6 true).setBit Obj.regFaultCause 5 true).line40)) ∧
    (∀ vin v flow t u, a.pwr.mode < 3 → t = a.advanceTo ((a.now / (10 * usTicks) + 1) * (10 * usTicks)) →
      u = ((t.setObj Obj.vinMeas (min 0xFFFF vin)).setObj Obj.holdupV (min 0xFFFF v)) → u.bit Obj.holdupStatus 7 = false → 13800 ≤ v →
      a.vinOn = true → (u.setObj Obj.holdupQ (clampQ u.cEff ((u.obj Obj.holdupQ : Int) + flow))).estimate.vinOn = true →
      exec (.holdupEstimate vin v flow) s =
        .next (s.ends (u.setObj Obj.holdupQ (clampQ u.cEff ((u.obj Obj.holdupQ : Int) + flow))).estimate)) ∧
    (∀ p r x w, rowOf Obj.holdupTest = some x → w = wrOf p Obj.holdupTest x.ty.size 1 → a.Takes w r 1 →
      exec (.holdupTest (some p)) s = .next (s.ends (a.accepting w r 1 fun _ t => t.testStart.setObj Obj.holdupTest 1))) ∧
    (∀ x t, a.regs.testDue = some x → t = a.advanceTo x → t.testRefused = none → exec (.holdupTest none) s = .next (s.ends t.testStart)) ∧
    (∀ fall x t c u, a.regs.testFrom = some x → t = a.advanceTo (x + 20 * msTicks) → 0 < fall → c = 2000000 / fall → c ≤ 0xFFFF →
      u = (((t.drew 0).setObj Obj.holdupCMeas c).setObj Obj.holdupCEff (min 3300 c)).setBit Obj.holdupStatus 5 false →
      u.obj Obj.holdupTestPeriod = 0 → 2640 ≤ c → u.cmdRunning Obj.holdupTest = false →
      exec (.holdupTestDone fall) s = .next (s.ends
        (((({ u with regs := { u.regs with testFrom := none, testDue := none } } : State).setBit Obj.holdupStatus 2 false).chargeStart).line40)))

/-- Start-up, resets and shutdowns: power on, the steps to BOOT and its end, cold and warm reset and their release, the loss of VAUX, a collapse of the rail,
and the thermal shutdown with its hold (R52, R94, R629 to R651, R692, R693). -/
def Obligations.ResetEventsComplete : Prop :=
  ∀ s a : State, a = s.fresh →
    (∀ vin, a.pwr.mode = 5 → exec (.powerOn vin) s = .next (s.ends (a.powerOn vin)) ∧ (a.powerOn vin).pwr.mode = 0) ∧
    (∀ (pass : Fin 64) newFw running t, (a.rst.wait = 3 ∨ a.rst.wait = 4) → t = (if a.rst.wait = 3 ∧ (a.rst.follow = 0 ∨ a.rst.shutdown = true) then a.testPhases pass.val else a) →
      t.obj Obj.phasesInService ≠ 0 → (running = true ∨ (newFw = true ∧ t.nvs.fwIdle.isSome = true)) →
      exec (.refClkValid pass newFw running) s = .next (s.ends (t.lockAndBoot newFw))) ∧
    (∀ (pass : Fin 64) newFw running t, a.rst.wait = 3 → a.rst.follow = 0 → t = a.testPhases pass.val → t.obj Obj.phasesInService = 0 →
      exec (.refClkValid pass newFw running) s = .next (s.ends (t.startFails true))) ∧
    (∀ population t x u u' v, a.obj Obj.runPhase = 1 → a.rst.wait = 0 → a.regs.on = true → a.rst.coldLow = false → a.rst.warmLow = false →
      a.nvs.op = none → a.rst.follow = 0 → a.chooseSlot = (t, x) →
      u = (((t.systemRecords x).appliedEffects.scanArea).each channels4 (fun ch t => t.modChan ch fun c => { c with shed := [] })).populate population →
      u' = u.each u.acceptedChans (fun ch t => t.careStarts ch true) → v = (((u'.setObj Obj.lastStart u'.rst.start).setObj Obj.lastStartTs u'.ts).setObj Obj.runPhase 4).freeSession.bootImages →
      ∀ y z, y = (v.each v.probeChans fun n t => if t.powerIs n psHeld then t.setObj (Obj.powerState n) psGood else t) →
        z = (y.each ((List.range 16).filter fun p => y.obj (Obj.portEnable p) == 1 && !y.bit Obj.live 50) fun p t => t.startTraining p) →
        exec (.bootComplete population) s =
          .next (s.ends (((z.modRst fun r => { r with step6 := true }).trySix).alHeld.modRst fun r => { r with shutdown := false }))) ∧
    (a.rst.coldLow = false → a.pwr.mode ≠ 5 → exec .coldReset s = .next (s.ends ((a.coldActs 2).modRst fun r => { r with coldLow := true }))) ∧
    (∀ t, a.rst.coldLow = true → t = a.modRst (fun r => { r with coldLow := false }) → t.rst.wait = 2 → t.vinOn = true → t.pwr.hotHold = false →
      exec .coldResetRelease s = .next (s.ends (((t.advanceTo t.rst.rampsUntil).modRst fun r => { r with wait := 3, began := if r.start = 2 ∨ r.start = 3 then r.began else t.now }).chargeStart))) ∧
    (∀ t, a.rst.coldLow = false → a.rst.warmLow = false → (a.pwr.mode = 0 ∨ a.pwr.mode = 1) → a.rst.wait = 0 → t = a.modRst (fun r => { r with warmLow := true }) →
      exec .warmReset s = .next (s.ends (t.warmActs 4))) ∧
    (∀ t, a.rst.coldLow = false → a.rst.warmLow = false → a.pwr.mode = 4 → a.rst.wait = 0 → t = a.modRst (fun r => { r with warmLow := true }) →
      exec .warmReset s = .next (s.ends ((t.sleepError.dieReset true).startWaits 2 4))) ∧
    (∀ newFw t, a.rst.warmLow = true → t = a.modRst (fun r => { r with warmLow := false }) → t.rst.follow = 1 → t.obj Obj.runPhase = 1 →
      exec (.warmResetRelease newFw) s = .next (s.ends ((({ t with dict := t.dict.filter fun e => t.warmKeeps e.1, doms := t.doms.filter fun e => t.warmKeeps e.1 } : State).endCause 49 0).bootFirmware newFw))) ∧
    (a.pwr.mode ≠ 5 → exec .vauxLoss s = .next (s.ends a.vauxLoss) ∧ a.vauxLoss.pwr.mode = 5) ∧
    (∀ u t, a.regs.on = true → u = (a.each a.openChans fun ch t => t.loseDram ch) →
      t = (u.setObj Obj.padStatus (u.obj Obj.padStatus ||| u.latchMask)).modRst (fun r => { r with coldErase := false }) →
      exec .railCollapse s = .next (s.ends (t.coldActs 7).startVin)) ∧
    (a.pwr.mode ≠ 5 → exec .thermalShutdown s = .next (s.ends ((a.modPwr fun p => { p with hotHold := true }).shutDown))) ∧
    (exec .thermalWakeRelease s = .next (s.ends ((a.modPwr fun p => { p with hotHold := false }).startVin))) ∧
    (∀ (pass : Fin 64) t, a.rst.wait = 5 → t = (a.advanceTo (a.now + 1000 * msTicks)).testPhases pass.val → t.obj Obj.phasesInService ≠ 0 →
      exec (.selftestRetry pass true) s = .next (s.ends (t.modRst fun r => { r with wait := 4 })))

/-- What reset leaves: no command waits, no write is held, no session is open, no value waits for a boundary, no request, line or lock exists, nothing is
listed in the store; every object reads its default, but for VIN_STATUS, whose bit 0 says that VIN is present (R614, R632), and that one value and
the hidden state's reset values are the model's (log entries 1 and 2). -/
def Obligations.ResetLeaves : Prop :=
  (∀ k, k ≠ Obj.vinStatus → State.reset.obj k = objDefault k) ∧ State.reset.bit Obj.vinStatus 0 = true ∧ State.reset.pending = [] ∧
  State.reset.port = { held := [], queue := [] } ∧ State.reset.session.owner = 0 ∧ State.reset.session.batch = none ∧ State.reset.shadows = [] ∧
  State.reset.reqs = [] ∧ State.reset.ents = [] ∧ State.reset.locks = [] ∧ State.reset.fence = [] ∧ State.reset.dram = [] ∧ State.reset.pwr.mode = 0 ∧
  State.reset.ts = 0 ∧ State.reset.raised = [] ∧ State.reset.answers = []

/-- The canonical forms hold at reset: of the objects, of the strings and domains, of the store, and of the lock table. -/
def Obligations.ResetIsCanonical : Prop :=
  mapWf objDefault State.reset.dict = true ∧ State.reset.storeWf = true ∧ State.reset.locksFit

/-- On the FT-4016 the objects of the probe channels and of their supplies do not exist: every path sees each of them as it sees any object that does not exist,
a write is refused with reason NO_OBJECT, and so is a read (R23). -/
def Obligations.FusedOffObjectsDoNotExist : Prop :=
  ∀ (s a : State) (p : Path) (index sub : Nat), a = s.fresh → s.part = .ft4016 →
    ((0x3800 ≤ index ∧ index ≤ 0x39FF) ∨ (0x3A00 ≤ index ∧ index ≤ 0x3A7F)) →
    a.look p index sub = .gone 1 ∧ (∀ other, indexExists other = false → a.look p index sub = a.look p other sub) ∧
    (∀ data aligned poisoned w, w = ({ path := p, index := index, sub := sub, data := data, aligned := aligned, poisoned := poisoned, form := .slot } : Wr) →
      a.pathUp p = true → a.port.held = [] → sub < 256 →
      exec (.objectWrite p index sub data aligned poisoned) s = .next (s.ends (a.rejectWrite w 0 1 false).pumpHosts)) ∧
    (∀ n aligned, a.canRead p = true → exec (.refusedRead p index sub n aligned) s = .next (s.ends (a.rejectRead p index sub n 1)))

/-- Counters and trackers: a count saturates at the maximum of the object's type and changes no other object, a tracker keeps the largest value, a write of 0
clears the object, and any other value that comes so far is refused with reason RANGE; the objects the rule names are of this class, and the
RO objects it names are not (R695). -/
def Obligations.CountersFollowTheRule : Prop :=
  (∀ (s : State) k n, (s.addTo k n).obj k = min (objMax k) (s.obj k + n) ∧ (∀ j, j ≠ k → (s.addTo k n).obj j = s.obj j) ∧ s.bump k = s.addTo k 1) ∧
  (∀ (s : State) k v, v ≤ objMax k → (s.track k v).obj k = max (s.obj k) v ∧ (∀ j, j ≠ k → (s.track k v).obj j = s.obj j)) ∧
  (∀ k r, rowOf k = some r → objMax k = 2 ^ (8 * r.ty.size) - 1) ∧
  (∀ (s : State) (w : Wr) r, s.look w.path w.index w.sub = .found r → r.acc = .ctr → w.lengthBad r = false → s.obj Obj.runPhase ≠ 1 →
    s.rst.warmLow = false → s.pwr.mode ≠ 2 → w.poisoned = false → s.wrValue r w ≠ 0 → s.portRefuses w = some 6) ∧
  (∀ (s : State) r k d, r.acc = .ctr → k ≠ Obj.refusalCount → k ≠ Obj.quiescentRefusals →
    (s.objectTakes r k 0 d).obj k = 0 ∧ ∀ j, j ≠ k → (s.objectTakes r k 0 d).obj j = s.obj j) ∧
  (∀ k ∈ [Obj.tsUnlockCount, Obj.swaps, Obj.parkMaxNs, Obj.maxDieTemp, Obj.refusalCount, Obj.driftMax 0, Obj.maxRegWait 0],
    accOf k = some .ctr) ∧
  (∀ k ∈ [Obj.plogWritten, Obj.logWritten], accOf k = some .ro)

/-- SESSION_CMD: CLAIM grants the session if it is free; CLAIM or RENEW from the owning path restarts the lease; RELEASE from the owning path frees the
session; CLAIM from another path while the session is held, and RENEW and RELEASE from a path that does not own it, are refused with reason
NOT_OWNER. The owner is the path, whoever sends on it (R68). -/
def Obligations.SessionCommandsDecide : Prop :=
  ∀ (s a : State) (p : Path), a = s.fresh → p ≠ .fabric →
    (∀ v, v = 1 ∨ v = 2 ∨ v = 3 → a.sessionRefused p v =
      if a.session.owner = pathCode p ∨ (v = 1 ∧ a.session.owner = 0) then none else some 7) ∧
    (a.session.owner = 0 → 
      (a.sessionCommand p 1).session = { owner := pathCode p, due := a.now + leaseTicks, batch := none } ∧
      (a.sessionCommand p 1).obj Obj.sessionGrants = min (objMax Obj.sessionGrants) (a.obj Obj.sessionGrants + 1)) ∧
    (∀ v, v = 1 ∨ v = 2 → a.session.owner = pathCode p → (a.sessionCommand p v).session = { a.session with due := a.now + leaseTicks }) ∧
    (a.session.owner = pathCode p → (a.sessionCommand p 3).session = {}) ∧
    (∀ v w r c, (c, v) ∈ [(Instr.claim p, 1), (Instr.renew p, 2), (Instr.release p, 3)] → w = wrOf p Obj.sessionCmd 1 v → a.pathUp p = true →
      a.port.held = [] → a.look p w.index w.sub = .found r → a.portRefuses w = none → a.batchFor w = none → a.session.owner ≠ pathCode p →
      (v = 1 → a.session.owner ≠ 0) → a.pastA0 = false → exec c s = .next (s.ends (a.rejectWrite w v 7 true).pumpHosts))

/-- When an episode closes, the record of 0x2203 is copied to 0x2204 with EP_CLOSED_TS set, EP_STATE of 0x2203 is closed, and the other fields of 0x2203 keep
their values; the write of FTW that clears its last bit closes the episode (R552). -/
def Obligations.ClosingAnEpisodeCopiesIt : Prop :=
  ∀ s : State,
    (∀ k ∈ [Obj.epNumber, Obj.epFirstLine, Obj.epFirstTs, Obj.epFirstSource, Obj.epFirstReaction, Obj.epLines, Obj.epMerged, Obj.epLastTs],
      s.closeEpisode.obj (k + 0x100) = s.obj k ∧ s.closeEpisode.obj k = s.obj k) ∧
    s.closeEpisode.obj Obj.epState = 0 ∧ s.closeEpisode.obj (Obj.epState + 0x100) = 0 ∧ s.closeEpisode.obj (Obj.epClosedTs + 0x100) = s.ts ∧
    (∀ v, s.obj Obj.ftw ≠ 0 → v &&& s.obj Obj.ftw = s.obj Obj.ftw → (∀ n < 52, s.bit Obj.live n = false) → s.obj Obj.ftw < 2 ^ 64 →
      s.ftwCleared v = (s.setObj Obj.ftw 0).closeEpisode)

/-- A malformed instruction at the head of a sequencer's queue is executed as END, whichever command asks for it: MALFORMED is incremented, bit 3 of SEQ_STATUS is
set, the instructions behind it are discarded and the burst ends (R340). -/
def Obligations.MalformedInstructionsEnd : Prop :=
  ∀ (s a : State) (n : Fin 2) (w : Nat) (t : State) (ck : Nat) (c : Instr) (dataReady : Bool) (mrr : List Byte), a = s.fresh → a.awake = true →
    a.part = .ft4216 → a.seqHead n = some (.malformed, w) → a.seqTake n 0 = (t, ck) →
    c ∈ [Instr.pbCommand n dataReady mrr, .pbWait n, .pbResetAssert n, .pbResetRelease n, .pbMark n, .pbEnd n, .pbCkStop n, .pbCkStart n] →
    exec c s = .next (s.ends ((((t.modPb n fun x => { x with queue := [] }).bump (Obj.malformed n)).setBit (Obj.seqStatus n) 3 true).burstEnds n ck))

/-- A participant that does not reply to ASK is treated as delaying with its first delay code, and one without a delay code as refusing with its first code; a
step that passes its bound abandons the entry at the abort point concerned, and STEP_OVERRUNS is incremented (R595). -/
def Obligations.SilentParticipantsAndSlowSteps : Prop :=
  ∀ (s a : State) (e : Entry), a = s.fresh → a.awake = true → a.pwr.entry = some e →
    (∀ q x y l, e.point = none → q ∈ e.asked → a.partConds q = x :: l → y = ((x :: l).find? fun z => z.2.1 == 2).elim (1, x.1) (fun z => (2, z.1)) →
      exec (.askTimeout q) s = .next (s.ends ((a.advanceTo (e.askedAt + 2 * usTicks)).replies e [(q, y)]))) ∧
    (∀ k, e.point = some k → k < 5 →
      exec .stepOverrun s = .next (s.ends (((((a.bump Obj.stepOverruns).bump (Obj.abortedA (k + 1))).undo e).stormCheck).entryGone)))

/-- The engine address map is one to one: with the channels' populations accepted and the grain in its range, every channel-local address below the channel's capacity has an
engine address below MAP_TOP that decodes to it, every engine address below MAP_TOP decodes to a local address of an accepted channel
whose engine address it is, and none above does (R166, R167). -/
def Obligations.AddressMapIsOneToOne : Prop :=
  ∀ s : State, s.mapped = true → 6 ≤ s.obj Obj.interleaveGrain → s.obj Obj.interleaveGrain ≤ 20 →
    (∀ ch loc, ch < 4 → (s.chan ch).accepted = true → loc < s.capacity ch →
      s.encodeAddr ch loc < s.mapTop ∧ s.decodeAddr (s.encodeAddr ch loc) = some (ch, loc)) ∧
    (∀ a, a < s.mapTop → ∃ ch loc, ch < 4 ∧ (s.chan ch).accepted = true ∧ loc < s.capacity ch ∧ s.decodeAddr a = some (ch, loc) ∧
      s.encodeAddr ch loc = a) ∧
    (∀ a, s.mapTop ≤ a → s.decodeAddr a = none)

/-- The lock table stays in order: a LOCK that leaves the crossbar, not waiting for another requester's lock, keeps the locks pairwise without a common line, at most
64 in all and at most four of one requester, each below MAP_TOP (R184, R185). -/
def Obligations.LockTableStaysInOrder : Prop :=
  ∀ (s : State) (r : Req), r.kind = .lock → s.lockWaits r = false → s.locksFit → (s.leaveCrossbar r).locksFit

/-- What a burst leaves is read as it was written: an enabled byte and its check bits are those of the burst, so the byte passes its check unless it is
poisoned, and fails it when it is; a disabled byte and its check bits are exactly as they were (R297, R301, R306). With a flip, an enabled byte that is not
poisoned fails exactly when the parity of its flipped data bits differs from the flip of one of its two check bits (R301, R312). -/
def Obligations.BurstsAreReadAsWritten : Prop :=
  ∀ (old : List Byte × List Byte) (data : List Byte) (mask poison i : Nat), i < 64 →
    (∀ new, new = writeBurst old data mask poison none none →
      byteAt new.1 i = (if bitOf mask i then byteAt data i else byteAt old.1 i) ∧
      byteFails new.1 new.2 i = (if bitOf mask i then bitOf poison i else byteFails old.1 old.2 i)) ∧
    (∀ m beats new, new = writeBurst old data mask poison none (some (m, beats)) → bitOf mask i = true → bitOf poison i = false →
      byteFails new.1 new.2 i = (bitOf beats (i / 4) &&
        ((popCount 8 (fld (8 * (i % 4)) 8 m) % 2 == 1) != bitOf m (32 + i % 4) || (popCount 8 (fld (8 * (i % 4)) 8 m) % 2 == 1) != bitOf m (36 + i % 4))))

/-- A burst stores to the line of its entry and to no other: that line holds what the burst leaves, every other line of every channel reads as before,
and the store keeps its canonical form (R297). -/
def Obligations.BurstWritesOneLine : Prop :=
  ∀ (s : State) (e : Ent), e.line < 2 ^ 40 →
    (s.burst e).dramLine e.ch e.line = writeBurst (s.dramLine e.ch e.line) e.data e.mask e.poison (s.splitFor e) (s.flipFor e) ∧
    (∀ ch l, l < 2 ^ 40 → (ch ≠ e.ch ∨ l ≠ e.line) → (s.burst e).dramLine ch l = s.dramLine ch l) ∧
    (s.storeWf = true → (s.burst e).storeWf = true) ∧ (s.burst e).reqs = s.reqs ∧ (s.burst e).ents = s.ents ∧ (s.burst e).locks = s.locks

/-- Every command runs, in every state: exec answers a next state, which is what the command's own effect leaves once what it sets off has settled, with the
queue of waiting commands as it was. -/
def Obligations.EveryCommandAnswers : Prop :=
  ∀ (c : Instr) (s : State), ∃ e, exec c s = .next (s.ends e) ∧ (s.ends e).pending = s.pending

/-- A run never stops, and takes the waiting commands in order: after n steps from any state the commands left are those behind the first n. -/
def Obligations.RunsNeverStop : Prop :=
  ∀ (n : Nat) (s : State), safeRun n s = true ∧ ∃ t, stepsN n s = .next t ∧ t.pending = s.pending.drop n

/-- An invariant that every step keeps: the commands that wait are well formed. -/
def Obligations.WaitingCommandsStayWellFormed : Prop :=
  ∀ s t : State, (∀ c ∈ s.pending, c.wf = true) → step s = .next t →
    (∀ c ∈ t.pending, c.wf = true) ∧ t.pending = s.pending.tail

/-- A write of an object that no block acts on changes that object and the records of the access, and nothing else: every other object but those of the
session's lease, the answer and the host queues' progress reads as before, when nothing falls due. The object reads the value written, with the bits of a
REACTION object that always read 1 (R58, R61, R553). -/
def Obligations.PlainWriteChangesOneObject : Prop :=
  ∀ (s a t : State) (p : Path) (index sub : Nat) (data : List Byte) (w : Wr) (r : Row) (v : Nat), a = s.fresh →
    w = ({ path := p, index := index, sub := sub, data := data, aligned := true, poisoned := false, form := .slot } : Wr) →
    a.Takes w r v → (r.acc = .rw ∨ r.acc = .wo) → r.live = .imm → r.bytes = false → a.pwr.mode = 0 → w.merges r = false → rqOfKey w.key = none →
    (∀ (x : State) old, x.blockWrite p w.key v old data = x) → (∀ q, (a.hq q).items = []) →
    t = a.accepting w r v (fun _ x => x) → t.Calm →
    exec (.objectWrite p index sub data true false) s = .next t ∧ t.obj w.key = (v ||| alwaysSet w.key) ∧
    (∀ k, k ≠ w.key → k ≠ Obj.pcieLastResult → t.obj k = s.obj k) ∧ t.dram = s.dram ∧ t.reqs = s.reqs ∧ t.ents = s.ents ∧ t.locks = s.locks ∧
    t.chans = s.chans ∧ t.probes = s.probes ∧ t.tiles = s.tiles ∧ t.nvs = s.nvs ∧ t.pwr = s.pwr ∧ t.regs = s.regs ∧ t.now = s.now
end

