-- ==== Sys2Proof/Laws/Assoc.lean ====
section
/-! SUPPORT. The sparse maps: what a write changes, and that writes and erasures keep the canonical form. -/

namespace Sys2Proof.Machine

variable {α : Type}

theorem mapGet_mapErase_self (d : Nat → α) (m : SMap α) (k : Nat) : mapGet d (mapErase m k) k = d k := by
  induction m with
  | nil => rfl
  | cons e t ih =>
    by_cases h : e.1 = k
    · simpa [mapErase, h] using ih
    · simpa [mapErase, h, mapGet] using ih

theorem mapGet_mapErase_ne (d : Nat → α) (m : SMap α) {k j : Nat} (h : j ≠ k) : mapGet d (mapErase m k) j = mapGet d m j := by
  induction m with
  | nil => rfl
  | cons e t ih =>
    obtain ⟨i, v⟩ := e
    simp only [mapErase] at ih ⊢
    by_cases hi : i = k
    · subst hi
      simp [mapGet, Ne.symm h, ih]
    · simp [hi, mapGet, ih]

theorem mapGet_mapInsert_self (d : Nat → α) (m : SMap α) (k : Nat) (v : α) : mapGet d (mapInsert m k v) k = v := by
  induction m with
  | nil => simp [mapInsert, mapGet]
  | cons e t ih =>
    obtain ⟨i, w⟩ := e
    simp only [mapInsert]
    split
    · simp [mapGet]
    · split
      · simp [mapGet]
      · have : i ≠ k := by omega
        simp [mapGet, this, ih]

theorem mapGet_mapInsert_ne (d : Nat → α) (m : SMap α) {k j : Nat} (v : α) (h : j ≠ k) : mapGet d (mapInsert m k v) j = mapGet d m j := by
  induction m with
  | nil => simp [mapInsert, mapGet, Ne.symm h]
  | cons e t ih =>
    obtain ⟨i, w⟩ := e
    simp only [mapInsert]
    split
    · simp [mapGet, Ne.symm h]
    · split
      · subst k; simp [mapGet, Ne.symm h]
      · simp [mapGet, ih]

/-- A key reads what was written to it. -/
theorem mapGet_mapSet_self [DecidableEq α] (d : Nat → α) (m : SMap α) (k : Nat) (v : α) : mapGet d (mapSet d m k v) k = v := by
  unfold mapSet
  split
  · next h => rw [mapGet_mapErase_self, h]
  · exact mapGet_mapInsert_self d m k v

/-- Every other key reads as before. -/
theorem mapGet_mapSet_ne [DecidableEq α] (d : Nat → α) (m : SMap α) {k j : Nat} (v : α) (h : j ≠ k) : mapGet d (mapSet d m k v) j = mapGet d m j := by
  unfold mapSet
  split
  · exact mapGet_mapErase_ne d m h
  · exact mapGet_mapInsert_ne d m v h

theorem keysRise_cons {a : Nat × α} {t : SMap α} : keysRise (a :: t) = true ↔ (∀ e ∈ t, a.1 < e.1) ∧ keysRise t = true := by
  induction t generalizing a with
  | nil => simp [keysRise]
  | cons b t ih =>
    rw [keysRise]
    simp only [Bool.and_eq_true, decide_eq_true_eq, List.mem_cons, forall_eq_or_imp]
    constructor
    · rintro ⟨h1, h2⟩
      exact ⟨⟨h1, fun e he => Nat.lt_trans h1 ((ih.1 h2).1 e he)⟩, h2⟩
    · rintro ⟨⟨h1, -⟩, h2⟩
      exact ⟨h1, h2⟩

/-- Leaving entries out keeps the keys rising. -/
theorem keysRise_filter {m : SMap α} (p : Nat × α → Bool) (h : keysRise m = true) : keysRise (m.filter p) = true := by
  induction m with
  | nil => rfl
  | cons a t ih =>
    rw [keysRise_cons] at h
    simp only [List.filter_cons]
    split
    · rw [keysRise_cons]
      exact ⟨fun e he => h.1 e (List.mem_filter.1 he).1, ih h.2⟩
    · exact ih h.2

theorem mem_mapInsert {m : SMap α} {k : Nat} {v : α} {e : Nat × α} (h : e ∈ mapInsert m k v) : e = (k, v) ∨ e ∈ m := by
  induction m with
  | nil => simpa [mapInsert] using h
  | cons a t ih =>
    obtain ⟨i, w⟩ := a
    simp only [mapInsert] at h
    split at h
    · simpa using h
    · split at h
      · rcases List.mem_cons.1 h with h | h
        · exact Or.inl h
        · exact Or.inr (List.mem_cons_of_mem _ h)
      · rcases List.mem_cons.1 h with h | h
        · exact Or.inr (h ▸ List.mem_cons_self ..)
        · rcases ih h with h | h
          · exact Or.inl h
          · exact Or.inr (List.mem_cons_of_mem _ h)

theorem keysRise_mapInsert {m : SMap α} (k : Nat) (v : α) (h : keysRise m = true) : keysRise (mapInsert m k v) = true := by
  induction m with
  | nil => rfl
  | cons a t ih =>
    obtain ⟨i, w⟩ := a
    rw [keysRise_cons] at h
    simp only [mapInsert]
    split
    · next hk =>
      rw [keysRise_cons]
      refine ⟨?_, keysRise_cons.2 h⟩
      intro e he
      rcases List.mem_cons.1 he with he | he
      · simpa [he] using hk
      · exact Nat.lt_trans hk (h.1 e he)
    · split
      · next hk =>
        subst hk
        exact keysRise_cons.2 h
      · next h1 h2 =>
        rw [keysRise_cons]
        refine ⟨?_, ih h.2⟩
        intro e he
        rcases mem_mapInsert he with he | he
        · simp only [he]; omega
        · exact h.1 e he

theorem mapWf_filter [DecidableEq α] {d : Nat → α} {m : SMap α} (p : Nat × α → Bool) (h : mapWf d m = true) : mapWf d (m.filter p) = true := by
  simp only [mapWf, Bool.and_eq_true, List.all_eq_true] at h ⊢
  exact ⟨keysRise_filter p h.1, fun e he => h.2 e (List.mem_filter.1 he).1⟩

/-- Writing keeps the canonical form: writing a key's default removes its entry. -/
theorem mapWf_mapSet [DecidableEq α] {d : Nat → α} {m : SMap α} (k : Nat) (v : α) (h : mapWf d m = true) : mapWf d (mapSet d m k v) = true := by
  unfold mapSet
  split
  · exact mapWf_filter _ h
  · next hv =>
    simp only [mapWf, Bool.and_eq_true, List.all_eq_true] at h ⊢
    refine ⟨keysRise_mapInsert k v h.1, fun e he => ?_⟩
    rcases mem_mapInsert he with he | he
    · simpa [he] using hv
    · exact h.2 e he

/-- A key below every listed one reads its default. -/
theorem mapGet_of_lt {d : Nat → α} {m : SMap α} {k : Nat} (h : ∀ e ∈ m, k < e.1) : mapGet d m k = d k := by
  induction m with
  | nil => rfl
  | cons a t ih =>
    obtain ⟨i, w⟩ := a
    have hi : i ≠ k := by have := h (i, w) (List.mem_cons_self ..); simp only at this; omega
    simp only [mapGet, hi, if_false]
    exact ih fun e he => h e (List.mem_cons_of_mem _ he)

end Sys2Proof.Machine
end

