-- ==== Sys2Proof/Laws/Lane.lean ====
section
/-! SUPPORT. The scrambler of a stream-port lane and its receiver. -/

namespace Sys2Proof.Machine

/-- A receiver that has seen the same bits before gives back what was scrambled (R99). -/
theorem descramble_scramble (h l : List Bool) : descrambleBits h (scrambleBits h l) = l := by
  induction l generalizing h with
  | nil => rfl
  | cons b t ih => simp [scrambleBits, descrambleBits, ih]

@[simp] theorem length_scrambleBits (h l : List Bool) : (scrambleBits h l).length = l.length := by
  induction l generalizing h with
  | nil => rfl
  | cons b t ih => simp [scrambleBits, ih]

end Sys2Proof.Machine
end

