-- ==== Sys2Proof/Laws/State.lean ====
section
/-! SUPPORT. What each named update of the state leaves alone: one lemma for each field and update, so that no proof unfolds a record. -/

namespace Sys2Proof.Machine

variable (s : State)

@[simp] theorem State.setObj_pending (k v : Nat) : (s.setObj k v).pending = s.pending := rfl
@[simp] theorem State.setObj_part (k v : Nat) : (s.setObj k v).part = s.part := rfl
@[simp] theorem State.setObj_now (k v : Nat) : (s.setObj k v).now = s.now := rfl
@[simp] theorem State.setObj_cyc (k v : Nat) : (s.setObj k v).cyc = s.cyc := rfl
@[simp] theorem State.setObj_phase (k v : Nat) : (s.setObj k v).phase = s.phase := rfl
@[simp] theorem State.setObj_tsOff (k v : Nat) : (s.setObj k v).tsOff = s.tsOff := rfl
@[simp] theorem State.setObj_doms (k v : Nat) : (s.setObj k v).doms = s.doms := rfl
@[simp] theorem State.setObj_shadows (k v : Nat) : (s.setObj k v).shadows = s.shadows := rfl
@[simp] theorem State.setObj_session (k v : Nat) : (s.setObj k v).session = s.session := rfl
@[simp] theorem State.setObj_port (k v : Nat) : (s.setObj k v).port = s.port := rfl
@[simp] theorem State.setObj_staging (k v : Nat) : (s.setObj k v).staging = s.staging := rfl
@[simp] theorem State.setObj_answer (k v : Nat) : (s.setObj k v).answer = s.answer := rfl
@[simp] theorem State.setObj_raised (k v : Nat) : (s.setObj k v).raised = s.raised := rfl
@[simp] theorem State.setObj_drawn (k v : Nat) : (s.setObj k v).drawn = s.drawn := rfl
@[simp] theorem State.setObj_sent (k v : Nat) : (s.setObj k v).sent = s.sent := rfl
@[simp] theorem State.setObj_pcie (k v : Nat) : (s.setObj k v).pcie = s.pcie := rfl
@[simp] theorem State.setObj_ect (k v : Nat) : (s.setObj k v).ect = s.ect := rfl
@[simp] theorem State.setObj_sb (k v : Nat) : (s.setObj k v).sb = s.sb := rfl
@[simp] theorem State.setObj_causes (k v : Nat) : (s.setObj k v).causes = s.causes := rfl
@[simp] theorem State.setObj_deferred (k v : Nat) : (s.setObj k v).deferred = s.deferred := rfl
@[simp] theorem State.setObj_serial (k v : Nat) : (s.setObj k v).serial = s.serial := rfl
@[simp] theorem State.setObj_reqs (k v : Nat) : (s.setObj k v).reqs = s.reqs := rfl
@[simp] theorem State.setObj_ents (k v : Nat) : (s.setObj k v).ents = s.ents := rfl
@[simp] theorem State.setObj_answers (k v : Nat) : (s.setObj k v).answers = s.answers := rfl
@[simp] theorem State.setObj_chans (k v : Nat) : (s.setObj k v).chans = s.chans := rfl
@[simp] theorem State.setObj_dram (k v : Nat) : (s.setObj k v).dram = s.dram := rfl
@[simp] theorem State.setObj_lost (k v : Nat) : (s.setObj k v).lost = s.lost := rfl
@[simp] theorem State.setObj_mapped (k v : Nat) : (s.setObj k v).mapped = s.mapped := rfl
@[simp] theorem State.setObj_wheelBase (k v : Nat) : (s.setObj k v).wheelBase = s.wheelBase := rfl
@[simp] theorem State.setObj_frameBase (k v : Nat) : (s.setObj k v).frameBase = s.frameBase := rfl
@[simp] theorem State.setObj_locks (k v : Nat) : (s.setObj k v).locks = s.locks := rfl
@[simp] theorem State.setObj_ports (k v : Nat) : (s.setObj k v).ports = s.ports := rfl
@[simp] theorem State.setObj_credits (k v : Nat) : (s.setObj k v).credits = s.credits := rfl
@[simp] theorem State.setObj_aborts (k v : Nat) : (s.setObj k v).aborts = s.aborts := rfl
@[simp] theorem State.setObj_buckets (k v : Nat) : (s.setObj k v).buckets = s.buckets := rfl
@[simp] theorem State.setObj_fence (k v : Nat) : (s.setObj k v).fence = s.fence := rfl
@[simp] theorem State.setObj_edgeIn (k v : Nat) : (s.setObj k v).edgeIn = s.edgeIn := rfl
@[simp] theorem State.setObj_edgeOut (k v : Nat) : (s.setObj k v).edgeOut = s.edgeOut := rfl
@[simp] theorem State.setObj_edgeWait (k v : Nat) : (s.setObj k v).edgeWait = s.edgeWait := rfl
@[simp] theorem State.setObj_hqs (k v : Nat) : (s.setObj k v).hqs = s.hqs := rfl
@[simp] theorem State.setObj_probes (k v : Nat) : (s.setObj k v).probes = s.probes := rfl
@[simp] theorem State.setObj_tiles (k v : Nat) : (s.setObj k v).tiles = s.tiles := rfl
@[simp] theorem State.setObj_bind (k v : Nat) : (s.setObj k v).bind = s.bind := rfl
@[simp] theorem State.setObj_portBad (k v : Nat) : (s.setObj k v).portBad = s.portBad := rfl
@[simp] theorem State.setObj_feOpen (k v : Nat) : (s.setObj k v).feOpen = s.feOpen := rfl
@[simp] theorem State.setObj_edgeHeld (k v : Nat) : (s.setObj k v).edgeHeld = s.edgeHeld := rfl
@[simp] theorem State.setObj_headMoved (k v : Nat) : (s.setObj k v).headMoved = s.headMoved := rfl
@[simp] theorem State.setObj_frames (k v : Nat) : (s.setObj k v).frames = s.frames := rfl
@[simp] theorem State.setObj_scan (k v : Nat) : (s.setObj k v).scan = s.scan := rfl
@[simp] theorem State.setObj_imageJob (k v : Nat) : (s.setObj k v).imageJob = s.imageJob := rfl
@[simp] theorem State.setObj_moveJob (k v : Nat) : (s.setObj k v).moveJob = s.moveJob := rfl
@[simp] theorem State.setObj_drainWait (k v : Nat) : (s.setObj k v).drainWait = s.drainWait := rfl
@[simp] theorem State.setObj_drain (k v : Nat) : (s.setObj k v).drain = s.drain := rfl
@[simp] theorem State.setObj_msgs (k v : Nat) : (s.setObj k v).msgs = s.msgs := rfl
@[simp] theorem State.setObj_mbPops (k v : Nat) : (s.setObj k v).mbPops = s.mbPops := rfl
@[simp] theorem State.setObj_mbs (k v : Nat) : (s.setObj k v).mbs = s.mbs := rfl
@[simp] theorem State.setObj_nvs (k v : Nat) : (s.setObj k v).nvs = s.nvs := rfl
@[simp] theorem State.setObj_clk (k v : Nat) : (s.setObj k v).clk = s.clk := rfl
@[simp] theorem State.setObj_regs (k v : Nat) : (s.setObj k v).regs = s.regs := rfl
@[simp] theorem State.setObj_pwr (k v : Nat) : (s.setObj k v).pwr = s.pwr := rfl
@[simp] theorem State.setObj_rst (k v : Nat) : (s.setObj k v).rst = s.rst := rfl

@[simp] theorem State.modObj_pending (k : Nat) (f : Nat → Nat) : (s.modObj k f).pending = s.pending := rfl
@[simp] theorem State.modObj_part (k : Nat) (f : Nat → Nat) : (s.modObj k f).part = s.part := rfl
@[simp] theorem State.modObj_now (k : Nat) (f : Nat → Nat) : (s.modObj k f).now = s.now := rfl
@[simp] theorem State.modObj_cyc (k : Nat) (f : Nat → Nat) : (s.modObj k f).cyc = s.cyc := rfl
@[simp] theorem State.modObj_phase (k : Nat) (f : Nat → Nat) : (s.modObj k f).phase = s.phase := rfl
@[simp] theorem State.modObj_tsOff (k : Nat) (f : Nat → Nat) : (s.modObj k f).tsOff = s.tsOff := rfl
@[simp] theorem State.modObj_doms (k : Nat) (f : Nat → Nat) : (s.modObj k f).doms = s.doms := rfl
@[simp] theorem State.modObj_shadows (k : Nat) (f : Nat → Nat) : (s.modObj k f).shadows = s.shadows := rfl
@[simp] theorem State.modObj_session (k : Nat) (f : Nat → Nat) : (s.modObj k f).session = s.session := rfl
@[simp] theorem State.modObj_port (k : Nat) (f : Nat → Nat) : (s.modObj k f).port = s.port := rfl
@[simp] theorem State.modObj_staging (k : Nat) (f : Nat → Nat) : (s.modObj k f).staging = s.staging := rfl
@[simp] theorem State.modObj_answer (k : Nat) (f : Nat → Nat) : (s.modObj k f).answer = s.answer := rfl
@[simp] theorem State.modObj_raised (k : Nat) (f : Nat → Nat) : (s.modObj k f).raised = s.raised := rfl
@[simp] theorem State.modObj_drawn (k : Nat) (f : Nat → Nat) : (s.modObj k f).drawn = s.drawn := rfl
@[simp] theorem State.modObj_sent (k : Nat) (f : Nat → Nat) : (s.modObj k f).sent = s.sent := rfl
@[simp] theorem State.modObj_pcie (k : Nat) (f : Nat → Nat) : (s.modObj k f).pcie = s.pcie := rfl
@[simp] theorem State.modObj_ect (k : Nat) (f : Nat → Nat) : (s.modObj k f).ect = s.ect := rfl
@[simp] theorem State.modObj_sb (k : Nat) (f : Nat → Nat) : (s.modObj k f).sb = s.sb := rfl
@[simp] theorem State.modObj_causes (k : Nat) (f : Nat → Nat) : (s.modObj k f).causes = s.causes := rfl
@[simp] theorem State.modObj_deferred (k : Nat) (f : Nat → Nat) : (s.modObj k f).deferred = s.deferred := rfl
@[simp] theorem State.modObj_serial (k : Nat) (f : Nat → Nat) : (s.modObj k f).serial = s.serial := rfl
@[simp] theorem State.modObj_reqs (k : Nat) (f : Nat → Nat) : (s.modObj k f).reqs = s.reqs := rfl
@[simp] theorem State.modObj_ents (k : Nat) (f : Nat → Nat) : (s.modObj k f).ents = s.ents := rfl
@[simp] theorem State.modObj_answers (k : Nat) (f : Nat → Nat) : (s.modObj k f).answers = s.answers := rfl
@[simp] theorem State.modObj_chans (k : Nat) (f : Nat → Nat) : (s.modObj k f).chans = s.chans := rfl
@[simp] theorem State.modObj_dram (k : Nat) (f : Nat → Nat) : (s.modObj k f).dram = s.dram := rfl
@[simp] theorem State.modObj_lost (k : Nat) (f : Nat → Nat) : (s.modObj k f).lost = s.lost := rfl
@[simp] theorem State.modObj_mapped (k : Nat) (f : Nat → Nat) : (s.modObj k f).mapped = s.mapped := rfl
@[simp] theorem State.modObj_wheelBase (k : Nat) (f : Nat → Nat) : (s.modObj k f).wheelBase = s.wheelBase := rfl
@[simp] theorem State.modObj_frameBase (k : Nat) (f : Nat → Nat) : (s.modObj k f).frameBase = s.frameBase := rfl
@[simp] theorem State.modObj_locks (k : Nat) (f : Nat → Nat) : (s.modObj k f).locks = s.locks := rfl
@[simp] theorem State.modObj_ports (k : Nat) (f : Nat → Nat) : (s.modObj k f).ports = s.ports := rfl
@[simp] theorem State.modObj_credits (k : Nat) (f : Nat → Nat) : (s.modObj k f).credits = s.credits := rfl
@[simp] theorem State.modObj_aborts (k : Nat) (f : Nat → Nat) : (s.modObj k f).aborts = s.aborts := rfl
@[simp] theorem State.modObj_buckets (k : Nat) (f : Nat → Nat) : (s.modObj k f).buckets = s.buckets := rfl
@[simp] theorem State.modObj_fence (k : Nat) (f : Nat → Nat) : (s.modObj k f).fence = s.fence := rfl
@[simp] theorem State.modObj_edgeIn (k : Nat) (f : Nat → Nat) : (s.modObj k f).edgeIn = s.edgeIn := rfl
@[simp] theorem State.modObj_edgeOut (k : Nat) (f : Nat → Nat) : (s.modObj k f).edgeOut = s.edgeOut := rfl
@[simp] theorem State.modObj_edgeWait (k : Nat) (f : Nat → Nat) : (s.modObj k f).edgeWait = s.edgeWait := rfl
@[simp] theorem State.modObj_hqs (k : Nat) (f : Nat → Nat) : (s.modObj k f).hqs = s.hqs := rfl
@[simp] theorem State.modObj_probes (k : Nat) (f : Nat → Nat) : (s.modObj k f).probes = s.probes := rfl
@[simp] theorem State.modObj_tiles (k : Nat) (f : Nat → Nat) : (s.modObj k f).tiles = s.tiles := rfl
@[simp] theorem State.modObj_bind (k : Nat) (f : Nat → Nat) : (s.modObj k f).bind = s.bind := rfl
@[simp] theorem State.modObj_portBad (k : Nat) (f : Nat → Nat) : (s.modObj k f).portBad = s.portBad := rfl
@[simp] theorem State.modObj_feOpen (k : Nat) (f : Nat → Nat) : (s.modObj k f).feOpen = s.feOpen := rfl
@[simp] theorem State.modObj_edgeHeld (k : Nat) (f : Nat → Nat) : (s.modObj k f).edgeHeld = s.edgeHeld := rfl
@[simp] theorem State.modObj_headMoved (k : Nat) (f : Nat → Nat) : (s.modObj k f).headMoved = s.headMoved := rfl
@[simp] theorem State.modObj_frames (k : Nat) (f : Nat → Nat) : (s.modObj k f).frames = s.frames := rfl
@[simp] theorem State.modObj_scan (k : Nat) (f : Nat → Nat) : (s.modObj k f).scan = s.scan := rfl
@[simp] theorem State.modObj_imageJob (k : Nat) (f : Nat → Nat) : (s.modObj k f).imageJob = s.imageJob := rfl
@[simp] theorem State.modObj_moveJob (k : Nat) (f : Nat → Nat) : (s.modObj k f).moveJob = s.moveJob := rfl
@[simp] theorem State.modObj_drainWait (k : Nat) (f : Nat → Nat) : (s.modObj k f).drainWait = s.drainWait := rfl
@[simp] theorem State.modObj_drain (k : Nat) (f : Nat → Nat) : (s.modObj k f).drain = s.drain := rfl
@[simp] theorem State.modObj_msgs (k : Nat) (f : Nat → Nat) : (s.modObj k f).msgs = s.msgs := rfl
@[simp] theorem State.modObj_mbPops (k : Nat) (f : Nat → Nat) : (s.modObj k f).mbPops = s.mbPops := rfl
@[simp] theorem State.modObj_mbs (k : Nat) (f : Nat → Nat) : (s.modObj k f).mbs = s.mbs := rfl
@[simp] theorem State.modObj_nvs (k : Nat) (f : Nat → Nat) : (s.modObj k f).nvs = s.nvs := rfl
@[simp] theorem State.modObj_clk (k : Nat) (f : Nat → Nat) : (s.modObj k f).clk = s.clk := rfl
@[simp] theorem State.modObj_regs (k : Nat) (f : Nat → Nat) : (s.modObj k f).regs = s.regs := rfl
@[simp] theorem State.modObj_pwr (k : Nat) (f : Nat → Nat) : (s.modObj k f).pwr = s.pwr := rfl
@[simp] theorem State.modObj_rst (k : Nat) (f : Nat → Nat) : (s.modObj k f).rst = s.rst := rfl

@[simp] theorem State.addTo_pending (k n : Nat) : (s.addTo k n).pending = s.pending := rfl
@[simp] theorem State.addTo_part (k n : Nat) : (s.addTo k n).part = s.part := rfl
@[simp] theorem State.addTo_now (k n : Nat) : (s.addTo k n).now = s.now := rfl
@[simp] theorem State.addTo_cyc (k n : Nat) : (s.addTo k n).cyc = s.cyc := rfl
@[simp] theorem State.addTo_phase (k n : Nat) : (s.addTo k n).phase = s.phase := rfl
@[simp] theorem State.addTo_tsOff (k n : Nat) : (s.addTo k n).tsOff = s.tsOff := rfl
@[simp] theorem State.addTo_doms (k n : Nat) : (s.addTo k n).doms = s.doms := rfl
@[simp] theorem State.addTo_shadows (k n : Nat) : (s.addTo k n).shadows = s.shadows := rfl
@[simp] theorem State.addTo_session (k n : Nat) : (s.addTo k n).session = s.session := rfl
@[simp] theorem State.addTo_port (k n : Nat) : (s.addTo k n).port = s.port := rfl
@[simp] theorem State.addTo_staging (k n : Nat) : (s.addTo k n).staging = s.staging := rfl
@[simp] theorem State.addTo_answer (k n : Nat) : (s.addTo k n).answer = s.answer := rfl
@[simp] theorem State.addTo_raised (k n : Nat) : (s.addTo k n).raised = s.raised := rfl
@[simp] theorem State.addTo_drawn (k n : Nat) : (s.addTo k n).drawn = s.drawn := rfl
@[simp] theorem State.addTo_sent (k n : Nat) : (s.addTo k n).sent = s.sent := rfl
@[simp] theorem State.addTo_pcie (k n : Nat) : (s.addTo k n).pcie = s.pcie := rfl
@[simp] theorem State.addTo_ect (k n : Nat) : (s.addTo k n).ect = s.ect := rfl
@[simp] theorem State.addTo_sb (k n : Nat) : (s.addTo k n).sb = s.sb := rfl
@[simp] theorem State.addTo_causes (k n : Nat) : (s.addTo k n).causes = s.causes := rfl
@[simp] theorem State.addTo_deferred (k n : Nat) : (s.addTo k n).deferred = s.deferred := rfl
@[simp] theorem State.addTo_serial (k n : Nat) : (s.addTo k n).serial = s.serial := rfl
@[simp] theorem State.addTo_reqs (k n : Nat) : (s.addTo k n).reqs = s.reqs := rfl
@[simp] theorem State.addTo_ents (k n : Nat) : (s.addTo k n).ents = s.ents := rfl
@[simp] theorem State.addTo_answers (k n : Nat) : (s.addTo k n).answers = s.answers := rfl
@[simp] theorem State.addTo_chans (k n : Nat) : (s.addTo k n).chans = s.chans := rfl
@[simp] theorem State.addTo_dram (k n : Nat) : (s.addTo k n).dram = s.dram := rfl
@[simp] theorem State.addTo_lost (k n : Nat) : (s.addTo k n).lost = s.lost := rfl
@[simp] theorem State.addTo_mapped (k n : Nat) : (s.addTo k n).mapped = s.mapped := rfl
@[simp] theorem State.addTo_wheelBase (k n : Nat) : (s.addTo k n).wheelBase = s.wheelBase := rfl
@[simp] theorem State.addTo_frameBase (k n : Nat) : (s.addTo k n).frameBase = s.frameBase := rfl
@[simp] theorem State.addTo_locks (k n : Nat) : (s.addTo k n).locks = s.locks := rfl
@[simp] theorem State.addTo_ports (k n : Nat) : (s.addTo k n).ports = s.ports := rfl
@[simp] theorem State.addTo_credits (k n : Nat) : (s.addTo k n).credits = s.credits := rfl
@[simp] theorem State.addTo_aborts (k n : Nat) : (s.addTo k n).aborts = s.aborts := rfl
@[simp] theorem State.addTo_buckets (k n : Nat) : (s.addTo k n).buckets = s.buckets := rfl
@[simp] theorem State.addTo_fence (k n : Nat) : (s.addTo k n).fence = s.fence := rfl
@[simp] theorem State.addTo_edgeIn (k n : Nat) : (s.addTo k n).edgeIn = s.edgeIn := rfl
@[simp] theorem State.addTo_edgeOut (k n : Nat) : (s.addTo k n).edgeOut = s.edgeOut := rfl
@[simp] theorem State.addTo_edgeWait (k n : Nat) : (s.addTo k n).edgeWait = s.edgeWait := rfl
@[simp] theorem State.addTo_hqs (k n : Nat) : (s.addTo k n).hqs = s.hqs := rfl
@[simp] theorem State.addTo_probes (k n : Nat) : (s.addTo k n).probes = s.probes := rfl
@[simp] theorem State.addTo_tiles (k n : Nat) : (s.addTo k n).tiles = s.tiles := rfl
@[simp] theorem State.addTo_bind (k n : Nat) : (s.addTo k n).bind = s.bind := rfl
@[simp] theorem State.addTo_portBad (k n : Nat) : (s.addTo k n).portBad = s.portBad := rfl
@[simp] theorem State.addTo_feOpen (k n : Nat) : (s.addTo k n).feOpen = s.feOpen := rfl
@[simp] theorem State.addTo_edgeHeld (k n : Nat) : (s.addTo k n).edgeHeld = s.edgeHeld := rfl
@[simp] theorem State.addTo_headMoved (k n : Nat) : (s.addTo k n).headMoved = s.headMoved := rfl
@[simp] theorem State.addTo_frames (k n : Nat) : (s.addTo k n).frames = s.frames := rfl
@[simp] theorem State.addTo_scan (k n : Nat) : (s.addTo k n).scan = s.scan := rfl
@[simp] theorem State.addTo_imageJob (k n : Nat) : (s.addTo k n).imageJob = s.imageJob := rfl
@[simp] theorem State.addTo_moveJob (k n : Nat) : (s.addTo k n).moveJob = s.moveJob := rfl
@[simp] theorem State.addTo_drainWait (k n : Nat) : (s.addTo k n).drainWait = s.drainWait := rfl
@[simp] theorem State.addTo_drain (k n : Nat) : (s.addTo k n).drain = s.drain := rfl
@[simp] theorem State.addTo_msgs (k n : Nat) : (s.addTo k n).msgs = s.msgs := rfl
@[simp] theorem State.addTo_mbPops (k n : Nat) : (s.addTo k n).mbPops = s.mbPops := rfl
@[simp] theorem State.addTo_mbs (k n : Nat) : (s.addTo k n).mbs = s.mbs := rfl
@[simp] theorem State.addTo_nvs (k n : Nat) : (s.addTo k n).nvs = s.nvs := rfl
@[simp] theorem State.addTo_clk (k n : Nat) : (s.addTo k n).clk = s.clk := rfl
@[simp] theorem State.addTo_regs (k n : Nat) : (s.addTo k n).regs = s.regs := rfl
@[simp] theorem State.addTo_pwr (k n : Nat) : (s.addTo k n).pwr = s.pwr := rfl
@[simp] theorem State.addTo_rst (k n : Nat) : (s.addTo k n).rst = s.rst := rfl

@[simp] theorem State.bump_pending (k : Nat) : (s.bump k).pending = s.pending := rfl
@[simp] theorem State.bump_part (k : Nat) : (s.bump k).part = s.part := rfl
@[simp] theorem State.bump_now (k : Nat) : (s.bump k).now = s.now := rfl
@[simp] theorem State.bump_cyc (k : Nat) : (s.bump k).cyc = s.cyc := rfl
@[simp] theorem State.bump_phase (k : Nat) : (s.bump k).phase = s.phase := rfl
@[simp] theorem State.bump_tsOff (k : Nat) : (s.bump k).tsOff = s.tsOff := rfl
@[simp] theorem State.bump_doms (k : Nat) : (s.bump k).doms = s.doms := rfl
@[simp] theorem State.bump_shadows (k : Nat) : (s.bump k).shadows = s.shadows := rfl
@[simp] theorem State.bump_session (k : Nat) : (s.bump k).session = s.session := rfl
@[simp] theorem State.bump_port (k : Nat) : (s.bump k).port = s.port := rfl
@[simp] theorem State.bump_staging (k : Nat) : (s.bump k).staging = s.staging := rfl
@[simp] theorem State.bump_answer (k : Nat) : (s.bump k).answer = s.answer := rfl
@[simp] theorem State.bump_raised (k : Nat) : (s.bump k).raised = s.raised := rfl
@[simp] theorem State.bump_drawn (k : Nat) : (s.bump k).drawn = s.drawn := rfl
@[simp] theorem State.bump_sent (k : Nat) : (s.bump k).sent = s.sent := rfl
@[simp] theorem State.bump_pcie (k : Nat) : (s.bump k).pcie = s.pcie := rfl
@[simp] theorem State.bump_ect (k : Nat) : (s.bump k).ect = s.ect := rfl
@[simp] theorem State.bump_sb (k : Nat) : (s.bump k).sb = s.sb := rfl
@[simp] theorem State.bump_causes (k : Nat) : (s.bump k).causes = s.causes := rfl
@[simp] theorem State.bump_deferred (k : Nat) : (s.bump k).deferred = s.deferred := rfl
@[simp] theorem State.bump_serial (k : Nat) : (s.bump k).serial = s.serial := rfl
@[simp] theorem State.bump_reqs (k : Nat) : (s.bump k).reqs = s.reqs := rfl
@[simp] theorem State.bump_ents (k : Nat) : (s.bump k).ents = s.ents := rfl
@[simp] theorem State.bump_answers (k : Nat) : (s.bump k).answers = s.answers := rfl
@[simp] theorem State.bump_chans (k : Nat) : (s.bump k).chans = s.chans := rfl
@[simp] theorem State.bump_dram (k : Nat) : (s.bump k).dram = s.dram := rfl
@[simp] theorem State.bump_lost (k : Nat) : (s.bump k).lost = s.lost := rfl
@[simp] theorem State.bump_mapped (k : Nat) : (s.bump k).mapped = s.mapped := rfl
@[simp] theorem State.bump_wheelBase (k : Nat) : (s.bump k).wheelBase = s.wheelBase := rfl
@[simp] theorem State.bump_frameBase (k : Nat) : (s.bump k).frameBase = s.frameBase := rfl
@[simp] theorem State.bump_locks (k : Nat) : (s.bump k).locks = s.locks := rfl
@[simp] theorem State.bump_ports (k : Nat) : (s.bump k).ports = s.ports := rfl
@[simp] theorem State.bump_credits (k : Nat) : (s.bump k).credits = s.credits := rfl
@[simp] theorem State.bump_aborts (k : Nat) : (s.bump k).aborts = s.aborts := rfl
@[simp] theorem State.bump_buckets (k : Nat) : (s.bump k).buckets = s.buckets := rfl
@[simp] theorem State.bump_fence (k : Nat) : (s.bump k).fence = s.fence := rfl
@[simp] theorem State.bump_edgeIn (k : Nat) : (s.bump k).edgeIn = s.edgeIn := rfl
@[simp] theorem State.bump_edgeOut (k : Nat) : (s.bump k).edgeOut = s.edgeOut := rfl
@[simp] theorem State.bump_edgeWait (k : Nat) : (s.bump k).edgeWait = s.edgeWait := rfl
@[simp] theorem State.bump_hqs (k : Nat) : (s.bump k).hqs = s.hqs := rfl
@[simp] theorem State.bump_probes (k : Nat) : (s.bump k).probes = s.probes := rfl
@[simp] theorem State.bump_tiles (k : Nat) : (s.bump k).tiles = s.tiles := rfl
@[simp] theorem State.bump_bind (k : Nat) : (s.bump k).bind = s.bind := rfl
@[simp] theorem State.bump_portBad (k : Nat) : (s.bump k).portBad = s.portBad := rfl
@[simp] theorem State.bump_feOpen (k : Nat) : (s.bump k).feOpen = s.feOpen := rfl
@[simp] theorem State.bump_edgeHeld (k : Nat) : (s.bump k).edgeHeld = s.edgeHeld := rfl
@[simp] theorem State.bump_headMoved (k : Nat) : (s.bump k).headMoved = s.headMoved := rfl
@[simp] theorem State.bump_frames (k : Nat) : (s.bump k).frames = s.frames := rfl
@[simp] theorem State.bump_scan (k : Nat) : (s.bump k).scan = s.scan := rfl
@[simp] theorem State.bump_imageJob (k : Nat) : (s.bump k).imageJob = s.imageJob := rfl
@[simp] theorem State.bump_moveJob (k : Nat) : (s.bump k).moveJob = s.moveJob := rfl
@[simp] theorem State.bump_drainWait (k : Nat) : (s.bump k).drainWait = s.drainWait := rfl
@[simp] theorem State.bump_drain (k : Nat) : (s.bump k).drain = s.drain := rfl
@[simp] theorem State.bump_msgs (k : Nat) : (s.bump k).msgs = s.msgs := rfl
@[simp] theorem State.bump_mbPops (k : Nat) : (s.bump k).mbPops = s.mbPops := rfl
@[simp] theorem State.bump_mbs (k : Nat) : (s.bump k).mbs = s.mbs := rfl
@[simp] theorem State.bump_nvs (k : Nat) : (s.bump k).nvs = s.nvs := rfl
@[simp] theorem State.bump_clk (k : Nat) : (s.bump k).clk = s.clk := rfl
@[simp] theorem State.bump_regs (k : Nat) : (s.bump k).regs = s.regs := rfl
@[simp] theorem State.bump_pwr (k : Nat) : (s.bump k).pwr = s.pwr := rfl
@[simp] theorem State.bump_rst (k : Nat) : (s.bump k).rst = s.rst := rfl

@[simp] theorem State.wrapBump_pending (k : Nat) : (s.wrapBump k).pending = s.pending := rfl
@[simp] theorem State.wrapBump_part (k : Nat) : (s.wrapBump k).part = s.part := rfl
@[simp] theorem State.wrapBump_now (k : Nat) : (s.wrapBump k).now = s.now := rfl
@[simp] theorem State.wrapBump_cyc (k : Nat) : (s.wrapBump k).cyc = s.cyc := rfl
@[simp] theorem State.wrapBump_phase (k : Nat) : (s.wrapBump k).phase = s.phase := rfl
@[simp] theorem State.wrapBump_tsOff (k : Nat) : (s.wrapBump k).tsOff = s.tsOff := rfl
@[simp] theorem State.wrapBump_doms (k : Nat) : (s.wrapBump k).doms = s.doms := rfl
@[simp] theorem State.wrapBump_shadows (k : Nat) : (s.wrapBump k).shadows = s.shadows := rfl
@[simp] theorem State.wrapBump_session (k : Nat) : (s.wrapBump k).session = s.session := rfl
@[simp] theorem State.wrapBump_port (k : Nat) : (s.wrapBump k).port = s.port := rfl
@[simp] theorem State.wrapBump_staging (k : Nat) : (s.wrapBump k).staging = s.staging := rfl
@[simp] theorem State.wrapBump_answer (k : Nat) : (s.wrapBump k).answer = s.answer := rfl
@[simp] theorem State.wrapBump_raised (k : Nat) : (s.wrapBump k).raised = s.raised := rfl
@[simp] theorem State.wrapBump_drawn (k : Nat) : (s.wrapBump k).drawn = s.drawn := rfl
@[simp] theorem State.wrapBump_sent (k : Nat) : (s.wrapBump k).sent = s.sent := rfl
@[simp] theorem State.wrapBump_pcie (k : Nat) : (s.wrapBump k).pcie = s.pcie := rfl
@[simp] theorem State.wrapBump_ect (k : Nat) : (s.wrapBump k).ect = s.ect := rfl
@[simp] theorem State.wrapBump_sb (k : Nat) : (s.wrapBump k).sb = s.sb := rfl
@[simp] theorem State.wrapBump_causes (k : Nat) : (s.wrapBump k).causes = s.causes := rfl
@[simp] theorem State.wrapBump_deferred (k : Nat) : (s.wrapBump k).deferred = s.deferred := rfl
@[simp] theorem State.wrapBump_serial (k : Nat) : (s.wrapBump k).serial = s.serial := rfl
@[simp] theorem State.wrapBump_reqs (k : Nat) : (s.wrapBump k).reqs = s.reqs := rfl
@[simp] theorem State.wrapBump_ents (k : Nat) : (s.wrapBump k).ents = s.ents := rfl
@[simp] theorem State.wrapBump_answers (k : Nat) : (s.wrapBump k).answers = s.answers := rfl
@[simp] theorem State.wrapBump_chans (k : Nat) : (s.wrapBump k).chans = s.chans := rfl
@[simp] theorem State.wrapBump_dram (k : Nat) : (s.wrapBump k).dram = s.dram := rfl
@[simp] theorem State.wrapBump_lost (k : Nat) : (s.wrapBump k).lost = s.lost := rfl
@[simp] theorem State.wrapBump_mapped (k : Nat) : (s.wrapBump k).mapped = s.mapped := rfl
@[simp] theorem State.wrapBump_wheelBase (k : Nat) : (s.wrapBump k).wheelBase = s.wheelBase := rfl
@[simp] theorem State.wrapBump_frameBase (k : Nat) : (s.wrapBump k).frameBase = s.frameBase := rfl
@[simp] theorem State.wrapBump_locks (k : Nat) : (s.wrapBump k).locks = s.locks := rfl
@[simp] theorem State.wrapBump_ports (k : Nat) : (s.wrapBump k).ports = s.ports := rfl
@[simp] theorem State.wrapBump_credits (k : Nat) : (s.wrapBump k).credits = s.credits := rfl
@[simp] theorem State.wrapBump_aborts (k : Nat) : (s.wrapBump k).aborts = s.aborts := rfl
@[simp] theorem State.wrapBump_buckets (k : Nat) : (s.wrapBump k).buckets = s.buckets := rfl
@[simp] theorem State.wrapBump_fence (k : Nat) : (s.wrapBump k).fence = s.fence := rfl
@[simp] theorem State.wrapBump_edgeIn (k : Nat) : (s.wrapBump k).edgeIn = s.edgeIn := rfl
@[simp] theorem State.wrapBump_edgeOut (k : Nat) : (s.wrapBump k).edgeOut = s.edgeOut := rfl
@[simp] theorem State.wrapBump_edgeWait (k : Nat) : (s.wrapBump k).edgeWait = s.edgeWait := rfl
@[simp] theorem State.wrapBump_hqs (k : Nat) : (s.wrapBump k).hqs = s.hqs := rfl
@[simp] theorem State.wrapBump_probes (k : Nat) : (s.wrapBump k).probes = s.probes := rfl
@[simp] theorem State.wrapBump_tiles (k : Nat) : (s.wrapBump k).tiles = s.tiles := rfl
@[simp] theorem State.wrapBump_bind (k : Nat) : (s.wrapBump k).bind = s.bind := rfl
@[simp] theorem State.wrapBump_portBad (k : Nat) : (s.wrapBump k).portBad = s.portBad := rfl
@[simp] theorem State.wrapBump_feOpen (k : Nat) : (s.wrapBump k).feOpen = s.feOpen := rfl
@[simp] theorem State.wrapBump_edgeHeld (k : Nat) : (s.wrapBump k).edgeHeld = s.edgeHeld := rfl
@[simp] theorem State.wrapBump_headMoved (k : Nat) : (s.wrapBump k).headMoved = s.headMoved := rfl
@[simp] theorem State.wrapBump_frames (k : Nat) : (s.wrapBump k).frames = s.frames := rfl
@[simp] theorem State.wrapBump_scan (k : Nat) : (s.wrapBump k).scan = s.scan := rfl
@[simp] theorem State.wrapBump_imageJob (k : Nat) : (s.wrapBump k).imageJob = s.imageJob := rfl
@[simp] theorem State.wrapBump_moveJob (k : Nat) : (s.wrapBump k).moveJob = s.moveJob := rfl
@[simp] theorem State.wrapBump_drainWait (k : Nat) : (s.wrapBump k).drainWait = s.drainWait := rfl
@[simp] theorem State.wrapBump_drain (k : Nat) : (s.wrapBump k).drain = s.drain := rfl
@[simp] theorem State.wrapBump_msgs (k : Nat) : (s.wrapBump k).msgs = s.msgs := rfl
@[simp] theorem State.wrapBump_mbPops (k : Nat) : (s.wrapBump k).mbPops = s.mbPops := rfl
@[simp] theorem State.wrapBump_mbs (k : Nat) : (s.wrapBump k).mbs = s.mbs := rfl
@[simp] theorem State.wrapBump_nvs (k : Nat) : (s.wrapBump k).nvs = s.nvs := rfl
@[simp] theorem State.wrapBump_clk (k : Nat) : (s.wrapBump k).clk = s.clk := rfl
@[simp] theorem State.wrapBump_regs (k : Nat) : (s.wrapBump k).regs = s.regs := rfl
@[simp] theorem State.wrapBump_pwr (k : Nat) : (s.wrapBump k).pwr = s.pwr := rfl
@[simp] theorem State.wrapBump_rst (k : Nat) : (s.wrapBump k).rst = s.rst := rfl

@[simp] theorem State.track_pending (k v : Nat) : (s.track k v).pending = s.pending := rfl
@[simp] theorem State.track_part (k v : Nat) : (s.track k v).part = s.part := rfl
@[simp] theorem State.track_now (k v : Nat) : (s.track k v).now = s.now := rfl
@[simp] theorem State.track_cyc (k v : Nat) : (s.track k v).cyc = s.cyc := rfl
@[simp] theorem State.track_phase (k v : Nat) : (s.track k v).phase = s.phase := rfl
@[simp] theorem State.track_tsOff (k v : Nat) : (s.track k v).tsOff = s.tsOff := rfl
@[simp] theorem State.track_doms (k v : Nat) : (s.track k v).doms = s.doms := rfl
@[simp] theorem State.track_shadows (k v : Nat) : (s.track k v).shadows = s.shadows := rfl
@[simp] theorem State.track_session (k v : Nat) : (s.track k v).session = s.session := rfl
@[simp] theorem State.track_port (k v : Nat) : (s.track k v).port = s.port := rfl
@[simp] theorem State.track_staging (k v : Nat) : (s.track k v).staging = s.staging := rfl
@[simp] theorem State.track_answer (k v : Nat) : (s.track k v).answer = s.answer := rfl
@[simp] theorem State.track_raised (k v : Nat) : (s.track k v).raised = s.raised := rfl
@[simp] theorem State.track_drawn (k v : Nat) : (s.track k v).drawn = s.drawn := rfl
@[simp] theorem State.track_sent (k v : Nat) : (s.track k v).sent = s.sent := rfl
@[simp] theorem State.track_pcie (k v : Nat) : (s.track k v).pcie = s.pcie := rfl
@[simp] theorem State.track_ect (k v : Nat) : (s.track k v).ect = s.ect := rfl
@[simp] theorem State.track_sb (k v : Nat) : (s.track k v).sb = s.sb := rfl
@[simp] theorem State.track_causes (k v : Nat) : (s.track k v).causes = s.causes := rfl
@[simp] theorem State.track_deferred (k v : Nat) : (s.track k v).deferred = s.deferred := rfl
@[simp] theorem State.track_serial (k v : Nat) : (s.track k v).serial = s.serial := rfl
@[simp] theorem State.track_reqs (k v : Nat) : (s.track k v).reqs = s.reqs := rfl
@[simp] theorem State.track_ents (k v : Nat) : (s.track k v).ents = s.ents := rfl
@[simp] theorem State.track_answers (k v : Nat) : (s.track k v).answers = s.answers := rfl
@[simp] theorem State.track_chans (k v : Nat) : (s.track k v).chans = s.chans := rfl
@[simp] theorem State.track_dram (k v : Nat) : (s.track k v).dram = s.dram := rfl
@[simp] theorem State.track_lost (k v : Nat) : (s.track k v).lost = s.lost := rfl
@[simp] theorem State.track_mapped (k v : Nat) : (s.track k v).mapped = s.mapped := rfl
@[simp] theorem State.track_wheelBase (k v : Nat) : (s.track k v).wheelBase = s.wheelBase := rfl
@[simp] theorem State.track_frameBase (k v : Nat) : (s.track k v).frameBase = s.frameBase := rfl
@[simp] theorem State.track_locks (k v : Nat) : (s.track k v).locks = s.locks := rfl
@[simp] theorem State.track_ports (k v : Nat) : (s.track k v).ports = s.ports := rfl
@[simp] theorem State.track_credits (k v : Nat) : (s.track k v).credits = s.credits := rfl
@[simp] theorem State.track_aborts (k v : Nat) : (s.track k v).aborts = s.aborts := rfl
@[simp] theorem State.track_buckets (k v : Nat) : (s.track k v).buckets = s.buckets := rfl
@[simp] theorem State.track_fence (k v : Nat) : (s.track k v).fence = s.fence := rfl
@[simp] theorem State.track_edgeIn (k v : Nat) : (s.track k v).edgeIn = s.edgeIn := rfl
@[simp] theorem State.track_edgeOut (k v : Nat) : (s.track k v).edgeOut = s.edgeOut := rfl
@[simp] theorem State.track_edgeWait (k v : Nat) : (s.track k v).edgeWait = s.edgeWait := rfl
@[simp] theorem State.track_hqs (k v : Nat) : (s.track k v).hqs = s.hqs := rfl
@[simp] theorem State.track_probes (k v : Nat) : (s.track k v).probes = s.probes := rfl
@[simp] theorem State.track_tiles (k v : Nat) : (s.track k v).tiles = s.tiles := rfl
@[simp] theorem State.track_bind (k v : Nat) : (s.track k v).bind = s.bind := rfl
@[simp] theorem State.track_portBad (k v : Nat) : (s.track k v).portBad = s.portBad := rfl
@[simp] theorem State.track_feOpen (k v : Nat) : (s.track k v).feOpen = s.feOpen := rfl
@[simp] theorem State.track_edgeHeld (k v : Nat) : (s.track k v).edgeHeld = s.edgeHeld := rfl
@[simp] theorem State.track_headMoved (k v : Nat) : (s.track k v).headMoved = s.headMoved := rfl
@[simp] theorem State.track_frames (k v : Nat) : (s.track k v).frames = s.frames := rfl
@[simp] theorem State.track_scan (k v : Nat) : (s.track k v).scan = s.scan := rfl
@[simp] theorem State.track_imageJob (k v : Nat) : (s.track k v).imageJob = s.imageJob := rfl
@[simp] theorem State.track_moveJob (k v : Nat) : (s.track k v).moveJob = s.moveJob := rfl
@[simp] theorem State.track_drainWait (k v : Nat) : (s.track k v).drainWait = s.drainWait := rfl
@[simp] theorem State.track_drain (k v : Nat) : (s.track k v).drain = s.drain := rfl
@[simp] theorem State.track_msgs (k v : Nat) : (s.track k v).msgs = s.msgs := rfl
@[simp] theorem State.track_mbPops (k v : Nat) : (s.track k v).mbPops = s.mbPops := rfl
@[simp] theorem State.track_mbs (k v : Nat) : (s.track k v).mbs = s.mbs := rfl
@[simp] theorem State.track_nvs (k v : Nat) : (s.track k v).nvs = s.nvs := rfl
@[simp] theorem State.track_clk (k v : Nat) : (s.track k v).clk = s.clk := rfl
@[simp] theorem State.track_regs (k v : Nat) : (s.track k v).regs = s.regs := rfl
@[simp] theorem State.track_pwr (k v : Nat) : (s.track k v).pwr = s.pwr := rfl
@[simp] theorem State.track_rst (k v : Nat) : (s.track k v).rst = s.rst := rfl

@[simp] theorem State.setBit_pending (k i : Nat) (b : Bool) : (s.setBit k i b).pending = s.pending := rfl
@[simp] theorem State.setBit_part (k i : Nat) (b : Bool) : (s.setBit k i b).part = s.part := rfl
@[simp] theorem State.setBit_now (k i : Nat) (b : Bool) : (s.setBit k i b).now = s.now := rfl
@[simp] theorem State.setBit_cyc (k i : Nat) (b : Bool) : (s.setBit k i b).cyc = s.cyc := rfl
@[simp] theorem State.setBit_phase (k i : Nat) (b : Bool) : (s.setBit k i b).phase = s.phase := rfl
@[simp] theorem State.setBit_tsOff (k i : Nat) (b : Bool) : (s.setBit k i b).tsOff = s.tsOff := rfl
@[simp] theorem State.setBit_doms (k i : Nat) (b : Bool) : (s.setBit k i b).doms = s.doms := rfl
@[simp] theorem State.setBit_shadows (k i : Nat) (b : Bool) : (s.setBit k i b).shadows = s.shadows := rfl
@[simp] theorem State.setBit_session (k i : Nat) (b : Bool) : (s.setBit k i b).session = s.session := rfl
@[simp] theorem State.setBit_port (k i : Nat) (b : Bool) : (s.setBit k i b).port = s.port := rfl
@[simp] theorem State.setBit_staging (k i : Nat) (b : Bool) : (s.setBit k i b).staging = s.staging := rfl
@[simp] theorem State.setBit_answer (k i : Nat) (b : Bool) : (s.setBit k i b).answer = s.answer := rfl
@[simp] theorem State.setBit_raised (k i : Nat) (b : Bool) : (s.setBit k i b).raised = s.raised := rfl
@[simp] theorem State.setBit_drawn (k i : Nat) (b : Bool) : (s.setBit k i b).drawn = s.drawn := rfl
@[simp] theorem State.setBit_sent (k i : Nat) (b : Bool) : (s.setBit k i b).sent = s.sent := rfl
@[simp] theorem State.setBit_pcie (k i : Nat) (b : Bool) : (s.setBit k i b).pcie = s.pcie := rfl
@[simp] theorem State.setBit_ect (k i : Nat) (b : Bool) : (s.setBit k i b).ect = s.ect := rfl
@[simp] theorem State.setBit_sb (k i : Nat) (b : Bool) : (s.setBit k i b).sb = s.sb := rfl
@[simp] theorem State.setBit_causes (k i : Nat) (b : Bool) : (s.setBit k i b).causes = s.causes := rfl
@[simp] theorem State.setBit_deferred (k i : Nat) (b : Bool) : (s.setBit k i b).deferred = s.deferred := rfl
@[simp] theorem State.setBit_serial (k i : Nat) (b : Bool) : (s.setBit k i b).serial = s.serial := rfl
@[simp] theorem State.setBit_reqs (k i : Nat) (b : Bool) : (s.setBit k i b).reqs = s.reqs := rfl
@[simp] theorem State.setBit_ents (k i : Nat) (b : Bool) : (s.setBit k i b).ents = s.ents := rfl
@[simp] theorem State.setBit_answers (k i : Nat) (b : Bool) : (s.setBit k i b).answers = s.answers := rfl
@[simp] theorem State.setBit_chans (k i : Nat) (b : Bool) : (s.setBit k i b).chans = s.chans := rfl
@[simp] theorem State.setBit_dram (k i : Nat) (b : Bool) : (s.setBit k i b).dram = s.dram := rfl
@[simp] theorem State.setBit_lost (k i : Nat) (b : Bool) : (s.setBit k i b).lost = s.lost := rfl
@[simp] theorem State.setBit_mapped (k i : Nat) (b : Bool) : (s.setBit k i b).mapped = s.mapped := rfl
@[simp] theorem State.setBit_wheelBase (k i : Nat) (b : Bool) : (s.setBit k i b).wheelBase = s.wheelBase := rfl
@[simp] theorem State.setBit_frameBase (k i : Nat) (b : Bool) : (s.setBit k i b).frameBase = s.frameBase := rfl
@[simp] theorem State.setBit_locks (k i : Nat) (b : Bool) : (s.setBit k i b).locks = s.locks := rfl
@[simp] theorem State.setBit_ports (k i : Nat) (b : Bool) : (s.setBit k i b).ports = s.ports := rfl
@[simp] theorem State.setBit_credits (k i : Nat) (b : Bool) : (s.setBit k i b).credits = s.credits := rfl
@[simp] theorem State.setBit_aborts (k i : Nat) (b : Bool) : (s.setBit k i b).aborts = s.aborts := rfl
@[simp] theorem State.setBit_buckets (k i : Nat) (b : Bool) : (s.setBit k i b).buckets = s.buckets := rfl
@[simp] theorem State.setBit_fence (k i : Nat) (b : Bool) : (s.setBit k i b).fence = s.fence := rfl
@[simp] theorem State.setBit_edgeIn (k i : Nat) (b : Bool) : (s.setBit k i b).edgeIn = s.edgeIn := rfl
@[simp] theorem State.setBit_edgeOut (k i : Nat) (b : Bool) : (s.setBit k i b).edgeOut = s.edgeOut := rfl
@[simp] theorem State.setBit_edgeWait (k i : Nat) (b : Bool) : (s.setBit k i b).edgeWait = s.edgeWait := rfl
@[simp] theorem State.setBit_hqs (k i : Nat) (b : Bool) : (s.setBit k i b).hqs = s.hqs := rfl
@[simp] theorem State.setBit_probes (k i : Nat) (b : Bool) : (s.setBit k i b).probes = s.probes := rfl
@[simp] theorem State.setBit_tiles (k i : Nat) (b : Bool) : (s.setBit k i b).tiles = s.tiles := rfl
@[simp] theorem State.setBit_bind (k i : Nat) (b : Bool) : (s.setBit k i b).bind = s.bind := rfl
@[simp] theorem State.setBit_portBad (k i : Nat) (b : Bool) : (s.setBit k i b).portBad = s.portBad := rfl
@[simp] theorem State.setBit_feOpen (k i : Nat) (b : Bool) : (s.setBit k i b).feOpen = s.feOpen := rfl
@[simp] theorem State.setBit_edgeHeld (k i : Nat) (b : Bool) : (s.setBit k i b).edgeHeld = s.edgeHeld := rfl
@[simp] theorem State.setBit_headMoved (k i : Nat) (b : Bool) : (s.setBit k i b).headMoved = s.headMoved := rfl
@[simp] theorem State.setBit_frames (k i : Nat) (b : Bool) : (s.setBit k i b).frames = s.frames := rfl
@[simp] theorem State.setBit_scan (k i : Nat) (b : Bool) : (s.setBit k i b).scan = s.scan := rfl
@[simp] theorem State.setBit_imageJob (k i : Nat) (b : Bool) : (s.setBit k i b).imageJob = s.imageJob := rfl
@[simp] theorem State.setBit_moveJob (k i : Nat) (b : Bool) : (s.setBit k i b).moveJob = s.moveJob := rfl
@[simp] theorem State.setBit_drainWait (k i : Nat) (b : Bool) : (s.setBit k i b).drainWait = s.drainWait := rfl
@[simp] theorem State.setBit_drain (k i : Nat) (b : Bool) : (s.setBit k i b).drain = s.drain := rfl
@[simp] theorem State.setBit_msgs (k i : Nat) (b : Bool) : (s.setBit k i b).msgs = s.msgs := rfl
@[simp] theorem State.setBit_mbPops (k i : Nat) (b : Bool) : (s.setBit k i b).mbPops = s.mbPops := rfl
@[simp] theorem State.setBit_mbs (k i : Nat) (b : Bool) : (s.setBit k i b).mbs = s.mbs := rfl
@[simp] theorem State.setBit_nvs (k i : Nat) (b : Bool) : (s.setBit k i b).nvs = s.nvs := rfl
@[simp] theorem State.setBit_clk (k i : Nat) (b : Bool) : (s.setBit k i b).clk = s.clk := rfl
@[simp] theorem State.setBit_regs (k i : Nat) (b : Bool) : (s.setBit k i b).regs = s.regs := rfl
@[simp] theorem State.setBit_pwr (k i : Nat) (b : Bool) : (s.setBit k i b).pwr = s.pwr := rfl
@[simp] theorem State.setBit_rst (k i : Nat) (b : Bool) : (s.setBit k i b).rst = s.rst := rfl

@[simp] theorem State.dropShadows_pending (p : Shadow → Bool) : (s.dropShadows p).pending = s.pending := rfl
@[simp] theorem State.dropShadows_part (p : Shadow → Bool) : (s.dropShadows p).part = s.part := rfl
@[simp] theorem State.dropShadows_now (p : Shadow → Bool) : (s.dropShadows p).now = s.now := rfl
@[simp] theorem State.dropShadows_cyc (p : Shadow → Bool) : (s.dropShadows p).cyc = s.cyc := rfl
@[simp] theorem State.dropShadows_phase (p : Shadow → Bool) : (s.dropShadows p).phase = s.phase := rfl
@[simp] theorem State.dropShadows_tsOff (p : Shadow → Bool) : (s.dropShadows p).tsOff = s.tsOff := rfl
@[simp] theorem State.dropShadows_dict (p : Shadow → Bool) : (s.dropShadows p).dict = s.dict := rfl
@[simp] theorem State.dropShadows_doms (p : Shadow → Bool) : (s.dropShadows p).doms = s.doms := rfl
@[simp] theorem State.dropShadows_session (p : Shadow → Bool) : (s.dropShadows p).session = s.session := rfl
@[simp] theorem State.dropShadows_port (p : Shadow → Bool) : (s.dropShadows p).port = s.port := rfl
@[simp] theorem State.dropShadows_staging (p : Shadow → Bool) : (s.dropShadows p).staging = s.staging := rfl
@[simp] theorem State.dropShadows_answer (p : Shadow → Bool) : (s.dropShadows p).answer = s.answer := rfl
@[simp] theorem State.dropShadows_raised (p : Shadow → Bool) : (s.dropShadows p).raised = s.raised := rfl
@[simp] theorem State.dropShadows_drawn (p : Shadow → Bool) : (s.dropShadows p).drawn = s.drawn := rfl
@[simp] theorem State.dropShadows_sent (p : Shadow → Bool) : (s.dropShadows p).sent = s.sent := rfl
@[simp] theorem State.dropShadows_pcie (p : Shadow → Bool) : (s.dropShadows p).pcie = s.pcie := rfl
@[simp] theorem State.dropShadows_ect (p : Shadow → Bool) : (s.dropShadows p).ect = s.ect := rfl
@[simp] theorem State.dropShadows_sb (p : Shadow → Bool) : (s.dropShadows p).sb = s.sb := rfl
@[simp] theorem State.dropShadows_causes (p : Shadow → Bool) : (s.dropShadows p).causes = s.causes := rfl
@[simp] theorem State.dropShadows_deferred (p : Shadow → Bool) : (s.dropShadows p).deferred = s.deferred := rfl
@[simp] theorem State.dropShadows_serial (p : Shadow → Bool) : (s.dropShadows p).serial = s.serial := rfl
@[simp] theorem State.dropShadows_reqs (p : Shadow → Bool) : (s.dropShadows p).reqs = s.reqs := rfl
@[simp] theorem State.dropShadows_ents (p : Shadow → Bool) : (s.dropShadows p).ents = s.ents := rfl
@[simp] theorem State.dropShadows_answers (p : Shadow → Bool) : (s.dropShadows p).answers = s.answers := rfl
@[simp] theorem State.dropShadows_chans (p : Shadow → Bool) : (s.dropShadows p).chans = s.chans := rfl
@[simp] theorem State.dropShadows_dram (p : Shadow → Bool) : (s.dropShadows p).dram = s.dram := rfl
@[simp] theorem State.dropShadows_lost (p : Shadow → Bool) : (s.dropShadows p).lost = s.lost := rfl
@[simp] theorem State.dropShadows_mapped (p : Shadow → Bool) : (s.dropShadows p).mapped = s.mapped := rfl
@[simp] theorem State.dropShadows_wheelBase (p : Shadow → Bool) : (s.dropShadows p).wheelBase = s.wheelBase := rfl
@[simp] theorem State.dropShadows_frameBase (p : Shadow → Bool) : (s.dropShadows p).frameBase = s.frameBase := rfl
@[simp] theorem State.dropShadows_locks (p : Shadow → Bool) : (s.dropShadows p).locks = s.locks := rfl
@[simp] theorem State.dropShadows_ports (p : Shadow → Bool) : (s.dropShadows p).ports = s.ports := rfl
@[simp] theorem State.dropShadows_credits (p : Shadow → Bool) : (s.dropShadows p).credits = s.credits := rfl
@[simp] theorem State.dropShadows_aborts (p : Shadow → Bool) : (s.dropShadows p).aborts = s.aborts := rfl
@[simp] theorem State.dropShadows_buckets (p : Shadow → Bool) : (s.dropShadows p).buckets = s.buckets := rfl
@[simp] theorem State.dropShadows_fence (p : Shadow → Bool) : (s.dropShadows p).fence = s.fence := rfl
@[simp] theorem State.dropShadows_edgeIn (p : Shadow → Bool) : (s.dropShadows p).edgeIn = s.edgeIn := rfl
@[simp] theorem State.dropShadows_edgeOut (p : Shadow → Bool) : (s.dropShadows p).edgeOut = s.edgeOut := rfl
@[simp] theorem State.dropShadows_edgeWait (p : Shadow → Bool) : (s.dropShadows p).edgeWait = s.edgeWait := rfl
@[simp] theorem State.dropShadows_hqs (p : Shadow → Bool) : (s.dropShadows p).hqs = s.hqs := rfl
@[simp] theorem State.dropShadows_probes (p : Shadow → Bool) : (s.dropShadows p).probes = s.probes := rfl
@[simp] theorem State.dropShadows_tiles (p : Shadow → Bool) : (s.dropShadows p).tiles = s.tiles := rfl
@[simp] theorem State.dropShadows_bind (p : Shadow → Bool) : (s.dropShadows p).bind = s.bind := rfl
@[simp] theorem State.dropShadows_portBad (p : Shadow → Bool) : (s.dropShadows p).portBad = s.portBad := rfl
@[simp] theorem State.dropShadows_feOpen (p : Shadow → Bool) : (s.dropShadows p).feOpen = s.feOpen := rfl
@[simp] theorem State.dropShadows_edgeHeld (p : Shadow → Bool) : (s.dropShadows p).edgeHeld = s.edgeHeld := rfl
@[simp] theorem State.dropShadows_headMoved (p : Shadow → Bool) : (s.dropShadows p).headMoved = s.headMoved := rfl
@[simp] theorem State.dropShadows_frames (p : Shadow → Bool) : (s.dropShadows p).frames = s.frames := rfl
@[simp] theorem State.dropShadows_scan (p : Shadow → Bool) : (s.dropShadows p).scan = s.scan := rfl
@[simp] theorem State.dropShadows_imageJob (p : Shadow → Bool) : (s.dropShadows p).imageJob = s.imageJob := rfl
@[simp] theorem State.dropShadows_moveJob (p : Shadow → Bool) : (s.dropShadows p).moveJob = s.moveJob := rfl
@[simp] theorem State.dropShadows_drainWait (p : Shadow → Bool) : (s.dropShadows p).drainWait = s.drainWait := rfl
@[simp] theorem State.dropShadows_drain (p : Shadow → Bool) : (s.dropShadows p).drain = s.drain := rfl
@[simp] theorem State.dropShadows_msgs (p : Shadow → Bool) : (s.dropShadows p).msgs = s.msgs := rfl
@[simp] theorem State.dropShadows_mbPops (p : Shadow → Bool) : (s.dropShadows p).mbPops = s.mbPops := rfl
@[simp] theorem State.dropShadows_mbs (p : Shadow → Bool) : (s.dropShadows p).mbs = s.mbs := rfl
@[simp] theorem State.dropShadows_nvs (p : Shadow → Bool) : (s.dropShadows p).nvs = s.nvs := rfl
@[simp] theorem State.dropShadows_clk (p : Shadow → Bool) : (s.dropShadows p).clk = s.clk := rfl
@[simp] theorem State.dropShadows_regs (p : Shadow → Bool) : (s.dropShadows p).regs = s.regs := rfl
@[simp] theorem State.dropShadows_pwr (p : Shadow → Bool) : (s.dropShadows p).pwr = s.pwr := rfl
@[simp] theorem State.dropShadows_rst (p : Shadow → Bool) : (s.dropShadows p).rst = s.rst := rfl

@[simp] theorem State.drew_pending (n : Nat) : (s.drew n).pending = s.pending := rfl
@[simp] theorem State.drew_part (n : Nat) : (s.drew n).part = s.part := rfl
@[simp] theorem State.drew_now (n : Nat) : (s.drew n).now = s.now := rfl
@[simp] theorem State.drew_cyc (n : Nat) : (s.drew n).cyc = s.cyc := rfl
@[simp] theorem State.drew_phase (n : Nat) : (s.drew n).phase = s.phase := rfl
@[simp] theorem State.drew_tsOff (n : Nat) : (s.drew n).tsOff = s.tsOff := rfl
@[simp] theorem State.drew_dict (n : Nat) : (s.drew n).dict = s.dict := rfl
@[simp] theorem State.drew_doms (n : Nat) : (s.drew n).doms = s.doms := rfl
@[simp] theorem State.drew_shadows (n : Nat) : (s.drew n).shadows = s.shadows := rfl
@[simp] theorem State.drew_session (n : Nat) : (s.drew n).session = s.session := rfl
@[simp] theorem State.drew_port (n : Nat) : (s.drew n).port = s.port := rfl
@[simp] theorem State.drew_staging (n : Nat) : (s.drew n).staging = s.staging := rfl
@[simp] theorem State.drew_answer (n : Nat) : (s.drew n).answer = s.answer := rfl
@[simp] theorem State.drew_raised (n : Nat) : (s.drew n).raised = s.raised := rfl
@[simp] theorem State.drew_sent (n : Nat) : (s.drew n).sent = s.sent := rfl
@[simp] theorem State.drew_pcie (n : Nat) : (s.drew n).pcie = s.pcie := rfl
@[simp] theorem State.drew_ect (n : Nat) : (s.drew n).ect = s.ect := rfl
@[simp] theorem State.drew_sb (n : Nat) : (s.drew n).sb = s.sb := rfl
@[simp] theorem State.drew_causes (n : Nat) : (s.drew n).causes = s.causes := rfl
@[simp] theorem State.drew_deferred (n : Nat) : (s.drew n).deferred = s.deferred := rfl
@[simp] theorem State.drew_serial (n : Nat) : (s.drew n).serial = s.serial := rfl
@[simp] theorem State.drew_reqs (n : Nat) : (s.drew n).reqs = s.reqs := rfl
@[simp] theorem State.drew_ents (n : Nat) : (s.drew n).ents = s.ents := rfl
@[simp] theorem State.drew_answers (n : Nat) : (s.drew n).answers = s.answers := rfl
@[simp] theorem State.drew_chans (n : Nat) : (s.drew n).chans = s.chans := rfl
@[simp] theorem State.drew_dram (n : Nat) : (s.drew n).dram = s.dram := rfl
@[simp] theorem State.drew_lost (n : Nat) : (s.drew n).lost = s.lost := rfl
@[simp] theorem State.drew_mapped (n : Nat) : (s.drew n).mapped = s.mapped := rfl
@[simp] theorem State.drew_wheelBase (n : Nat) : (s.drew n).wheelBase = s.wheelBase := rfl
@[simp] theorem State.drew_frameBase (n : Nat) : (s.drew n).frameBase = s.frameBase := rfl
@[simp] theorem State.drew_locks (n : Nat) : (s.drew n).locks = s.locks := rfl
@[simp] theorem State.drew_ports (n : Nat) : (s.drew n).ports = s.ports := rfl
@[simp] theorem State.drew_credits (n : Nat) : (s.drew n).credits = s.credits := rfl
@[simp] theorem State.drew_aborts (n : Nat) : (s.drew n).aborts = s.aborts := rfl
@[simp] theorem State.drew_buckets (n : Nat) : (s.drew n).buckets = s.buckets := rfl
@[simp] theorem State.drew_fence (n : Nat) : (s.drew n).fence = s.fence := rfl
@[simp] theorem State.drew_edgeIn (n : Nat) : (s.drew n).edgeIn = s.edgeIn := rfl
@[simp] theorem State.drew_edgeOut (n : Nat) : (s.drew n).edgeOut = s.edgeOut := rfl
@[simp] theorem State.drew_edgeWait (n : Nat) : (s.drew n).edgeWait = s.edgeWait := rfl
@[simp] theorem State.drew_hqs (n : Nat) : (s.drew n).hqs = s.hqs := rfl
@[simp] theorem State.drew_probes (n : Nat) : (s.drew n).probes = s.probes := rfl
@[simp] theorem State.drew_tiles (n : Nat) : (s.drew n).tiles = s.tiles := rfl
@[simp] theorem State.drew_bind (n : Nat) : (s.drew n).bind = s.bind := rfl
@[simp] theorem State.drew_portBad (n : Nat) : (s.drew n).portBad = s.portBad := rfl
@[simp] theorem State.drew_feOpen (n : Nat) : (s.drew n).feOpen = s.feOpen := rfl
@[simp] theorem State.drew_edgeHeld (n : Nat) : (s.drew n).edgeHeld = s.edgeHeld := rfl
@[simp] theorem State.drew_headMoved (n : Nat) : (s.drew n).headMoved = s.headMoved := rfl
@[simp] theorem State.drew_frames (n : Nat) : (s.drew n).frames = s.frames := rfl
@[simp] theorem State.drew_scan (n : Nat) : (s.drew n).scan = s.scan := rfl
@[simp] theorem State.drew_imageJob (n : Nat) : (s.drew n).imageJob = s.imageJob := rfl
@[simp] theorem State.drew_moveJob (n : Nat) : (s.drew n).moveJob = s.moveJob := rfl
@[simp] theorem State.drew_drainWait (n : Nat) : (s.drew n).drainWait = s.drainWait := rfl
@[simp] theorem State.drew_drain (n : Nat) : (s.drew n).drain = s.drain := rfl
@[simp] theorem State.drew_msgs (n : Nat) : (s.drew n).msgs = s.msgs := rfl
@[simp] theorem State.drew_mbPops (n : Nat) : (s.drew n).mbPops = s.mbPops := rfl
@[simp] theorem State.drew_mbs (n : Nat) : (s.drew n).mbs = s.mbs := rfl
@[simp] theorem State.drew_nvs (n : Nat) : (s.drew n).nvs = s.nvs := rfl
@[simp] theorem State.drew_clk (n : Nat) : (s.drew n).clk = s.clk := rfl
@[simp] theorem State.drew_regs (n : Nat) : (s.drew n).regs = s.regs := rfl
@[simp] theorem State.drew_pwr (n : Nat) : (s.drew n).pwr = s.pwr := rfl
@[simp] theorem State.drew_rst (n : Nat) : (s.drew n).rst = s.rst := rfl

@[simp] theorem State.fresh_pending : (s.fresh).pending = s.pending := rfl
@[simp] theorem State.fresh_part : (s.fresh).part = s.part := rfl
@[simp] theorem State.fresh_now : (s.fresh).now = s.now := rfl
@[simp] theorem State.fresh_cyc : (s.fresh).cyc = s.cyc := rfl
@[simp] theorem State.fresh_phase : (s.fresh).phase = s.phase := rfl
@[simp] theorem State.fresh_tsOff : (s.fresh).tsOff = s.tsOff := rfl
@[simp] theorem State.fresh_dict : (s.fresh).dict = s.dict := rfl
@[simp] theorem State.fresh_doms : (s.fresh).doms = s.doms := rfl
@[simp] theorem State.fresh_shadows : (s.fresh).shadows = s.shadows := rfl
@[simp] theorem State.fresh_session : (s.fresh).session = s.session := rfl
@[simp] theorem State.fresh_port : (s.fresh).port = s.port := rfl
@[simp] theorem State.fresh_staging : (s.fresh).staging = s.staging := rfl
@[simp] theorem State.fresh_answer : (s.fresh).answer = s.answer := rfl
@[simp] theorem State.fresh_raised : (s.fresh).raised = s.raised := rfl
@[simp] theorem State.fresh_drawn : (s.fresh).drawn = s.drawn := rfl
@[simp] theorem State.fresh_pcie : (s.fresh).pcie = s.pcie := rfl
@[simp] theorem State.fresh_ect : (s.fresh).ect = s.ect := rfl
@[simp] theorem State.fresh_sb : (s.fresh).sb = s.sb := rfl
@[simp] theorem State.fresh_causes : (s.fresh).causes = s.causes := rfl
@[simp] theorem State.fresh_deferred : (s.fresh).deferred = s.deferred := rfl
@[simp] theorem State.fresh_serial : (s.fresh).serial = s.serial := rfl
@[simp] theorem State.fresh_reqs : (s.fresh).reqs = s.reqs := rfl
@[simp] theorem State.fresh_ents : (s.fresh).ents = s.ents := rfl
@[simp] theorem State.fresh_answers : (s.fresh).answers = s.answers := rfl
@[simp] theorem State.fresh_chans : (s.fresh).chans = s.chans := rfl
@[simp] theorem State.fresh_dram : (s.fresh).dram = s.dram := rfl
@[simp] theorem State.fresh_lost : (s.fresh).lost = s.lost := rfl
@[simp] theorem State.fresh_mapped : (s.fresh).mapped = s.mapped := rfl
@[simp] theorem State.fresh_wheelBase : (s.fresh).wheelBase = s.wheelBase := rfl
@[simp] theorem State.fresh_frameBase : (s.fresh).frameBase = s.frameBase := rfl
@[simp] theorem State.fresh_locks : (s.fresh).locks = s.locks := rfl
@[simp] theorem State.fresh_ports : (s.fresh).ports = s.ports := rfl
@[simp] theorem State.fresh_credits : (s.fresh).credits = s.credits := rfl
@[simp] theorem State.fresh_aborts : (s.fresh).aborts = s.aborts := rfl
@[simp] theorem State.fresh_buckets : (s.fresh).buckets = s.buckets := rfl
@[simp] theorem State.fresh_fence : (s.fresh).fence = s.fence := rfl
@[simp] theorem State.fresh_edgeIn : (s.fresh).edgeIn = s.edgeIn := rfl
@[simp] theorem State.fresh_edgeOut : (s.fresh).edgeOut = s.edgeOut := rfl
@[simp] theorem State.fresh_edgeWait : (s.fresh).edgeWait = s.edgeWait := rfl
@[simp] theorem State.fresh_hqs : (s.fresh).hqs = s.hqs := rfl
@[simp] theorem State.fresh_probes : (s.fresh).probes = s.probes := rfl
@[simp] theorem State.fresh_tiles : (s.fresh).tiles = s.tiles := rfl
@[simp] theorem State.fresh_bind : (s.fresh).bind = s.bind := rfl
@[simp] theorem State.fresh_portBad : (s.fresh).portBad = s.portBad := rfl
@[simp] theorem State.fresh_feOpen : (s.fresh).feOpen = s.feOpen := rfl
@[simp] theorem State.fresh_edgeHeld : (s.fresh).edgeHeld = s.edgeHeld := rfl
@[simp] theorem State.fresh_headMoved : (s.fresh).headMoved = s.headMoved := rfl
@[simp] theorem State.fresh_frames : (s.fresh).frames = s.frames := rfl
@[simp] theorem State.fresh_scan : (s.fresh).scan = s.scan := rfl
@[simp] theorem State.fresh_imageJob : (s.fresh).imageJob = s.imageJob := rfl
@[simp] theorem State.fresh_moveJob : (s.fresh).moveJob = s.moveJob := rfl
@[simp] theorem State.fresh_drainWait : (s.fresh).drainWait = s.drainWait := rfl
@[simp] theorem State.fresh_drain : (s.fresh).drain = s.drain := rfl
@[simp] theorem State.fresh_msgs : (s.fresh).msgs = s.msgs := rfl
@[simp] theorem State.fresh_mbPops : (s.fresh).mbPops = s.mbPops := rfl
@[simp] theorem State.fresh_mbs : (s.fresh).mbs = s.mbs := rfl
@[simp] theorem State.fresh_nvs : (s.fresh).nvs = s.nvs := rfl
@[simp] theorem State.fresh_clk : (s.fresh).clk = s.clk := rfl
@[simp] theorem State.fresh_regs : (s.fresh).regs = s.regs := rfl
@[simp] theorem State.fresh_pwr : (s.fresh).pwr = s.pwr := rfl
@[simp] theorem State.fresh_rst : (s.fresh).rst = s.rst := rfl

@[simp] theorem State.modChan_pending (ch : Nat) (f : Chan → Chan) : (s.modChan ch f).pending = s.pending := rfl
@[simp] theorem State.modChan_part (ch : Nat) (f : Chan → Chan) : (s.modChan ch f).part = s.part := rfl
@[simp] theorem State.modChan_now (ch : Nat) (f : Chan → Chan) : (s.modChan ch f).now = s.now := rfl
@[simp] theorem State.modChan_cyc (ch : Nat) (f : Chan → Chan) : (s.modChan ch f).cyc = s.cyc := rfl
@[simp] theorem State.modChan_phase (ch : Nat) (f : Chan → Chan) : (s.modChan ch f).phase = s.phase := rfl
@[simp] theorem State.modChan_tsOff (ch : Nat) (f : Chan → Chan) : (s.modChan ch f).tsOff = s.tsOff := rfl
@[simp] theorem State.modChan_dict (ch : Nat) (f : Chan → Chan) : (s.modChan ch f).dict = s.dict := rfl
@[simp] theorem State.modChan_doms (ch : Nat) (f : Chan → Chan) : (s.modChan ch f).doms = s.doms := rfl
@[simp] theorem State.modChan_shadows (ch : Nat) (f : Chan → Chan) : (s.modChan ch f).shadows = s.shadows := rfl
@[simp] theorem State.modChan_session (ch : Nat) (f : Chan → Chan) : (s.modChan ch f).session = s.session := rfl
@[simp] theorem State.modChan_port (ch : Nat) (f : Chan → Chan) : (s.modChan ch f).port = s.port := rfl
@[simp] theorem State.modChan_staging (ch : Nat) (f : Chan → Chan) : (s.modChan ch f).staging = s.staging := rfl
@[simp] theorem State.modChan_answer (ch : Nat) (f : Chan → Chan) : (s.modChan ch f).answer = s.answer := rfl
@[simp] theorem State.modChan_raised (ch : Nat) (f : Chan → Chan) : (s.modChan ch f).raised = s.raised := rfl
@[simp] theorem State.modChan_drawn (ch : Nat) (f : Chan → Chan) : (s.modChan ch f).drawn = s.drawn := rfl
@[simp] theorem State.modChan_sent (ch : Nat) (f : Chan → Chan) : (s.modChan ch f).sent = s.sent := rfl
@[simp] theorem State.modChan_pcie (ch : Nat) (f : Chan → Chan) : (s.modChan ch f).pcie = s.pcie := rfl
@[simp] theorem State.modChan_ect (ch : Nat) (f : Chan → Chan) : (s.modChan ch f).ect = s.ect := rfl
@[simp] theorem State.modChan_sb (ch : Nat) (f : Chan → Chan) : (s.modChan ch f).sb = s.sb := rfl
@[simp] theorem State.modChan_causes (ch : Nat) (f : Chan → Chan) : (s.modChan ch f).causes = s.causes := rfl
@[simp] theorem State.modChan_deferred (ch : Nat) (f : Chan → Chan) : (s.modChan ch f).deferred = s.deferred := rfl
@[simp] theorem State.modChan_serial (ch : Nat) (f : Chan → Chan) : (s.modChan ch f).serial = s.serial := rfl
@[simp] theorem State.modChan_reqs (ch : Nat) (f : Chan → Chan) : (s.modChan ch f).reqs = s.reqs := rfl
@[simp] theorem State.modChan_ents (ch : Nat) (f : Chan → Chan) : (s.modChan ch f).ents = s.ents := rfl
@[simp] theorem State.modChan_answers (ch : Nat) (f : Chan → Chan) : (s.modChan ch f).answers = s.answers := rfl
@[simp] theorem State.modChan_dram (ch : Nat) (f : Chan → Chan) : (s.modChan ch f).dram = s.dram := rfl
@[simp] theorem State.modChan_lost (ch : Nat) (f : Chan → Chan) : (s.modChan ch f).lost = s.lost := rfl
@[simp] theorem State.modChan_mapped (ch : Nat) (f : Chan → Chan) : (s.modChan ch f).mapped = s.mapped := rfl
@[simp] theorem State.modChan_wheelBase (ch : Nat) (f : Chan → Chan) : (s.modChan ch f).wheelBase = s.wheelBase := rfl
@[simp] theorem State.modChan_frameBase (ch : Nat) (f : Chan → Chan) : (s.modChan ch f).frameBase = s.frameBase := rfl
@[simp] theorem State.modChan_locks (ch : Nat) (f : Chan → Chan) : (s.modChan ch f).locks = s.locks := rfl
@[simp] theorem State.modChan_ports (ch : Nat) (f : Chan → Chan) : (s.modChan ch f).ports = s.ports := rfl
@[simp] theorem State.modChan_credits (ch : Nat) (f : Chan → Chan) : (s.modChan ch f).credits = s.credits := rfl
@[simp] theorem State.modChan_aborts (ch : Nat) (f : Chan → Chan) : (s.modChan ch f).aborts = s.aborts := rfl
@[simp] theorem State.modChan_buckets (ch : Nat) (f : Chan → Chan) : (s.modChan ch f).buckets = s.buckets := rfl
@[simp] theorem State.modChan_fence (ch : Nat) (f : Chan → Chan) : (s.modChan ch f).fence = s.fence := rfl
@[simp] theorem State.modChan_edgeIn (ch : Nat) (f : Chan → Chan) : (s.modChan ch f).edgeIn = s.edgeIn := rfl
@[simp] theorem State.modChan_edgeOut (ch : Nat) (f : Chan → Chan) : (s.modChan ch f).edgeOut = s.edgeOut := rfl
@[simp] theorem State.modChan_edgeWait (ch : Nat) (f : Chan → Chan) : (s.modChan ch f).edgeWait = s.edgeWait := rfl
@[simp] theorem State.modChan_hqs (ch : Nat) (f : Chan → Chan) : (s.modChan ch f).hqs = s.hqs := rfl
@[simp] theorem State.modChan_probes (ch : Nat) (f : Chan → Chan) : (s.modChan ch f).probes = s.probes := rfl
@[simp] theorem State.modChan_tiles (ch : Nat) (f : Chan → Chan) : (s.modChan ch f).tiles = s.tiles := rfl
@[simp] theorem State.modChan_bind (ch : Nat) (f : Chan → Chan) : (s.modChan ch f).bind = s.bind := rfl
@[simp] theorem State.modChan_portBad (ch : Nat) (f : Chan → Chan) : (s.modChan ch f).portBad = s.portBad := rfl
@[simp] theorem State.modChan_feOpen (ch : Nat) (f : Chan → Chan) : (s.modChan ch f).feOpen = s.feOpen := rfl
@[simp] theorem State.modChan_edgeHeld (ch : Nat) (f : Chan → Chan) : (s.modChan ch f).edgeHeld = s.edgeHeld := rfl
@[simp] theorem State.modChan_headMoved (ch : Nat) (f : Chan → Chan) : (s.modChan ch f).headMoved = s.headMoved := rfl
@[simp] theorem State.modChan_frames (ch : Nat) (f : Chan → Chan) : (s.modChan ch f).frames = s.frames := rfl
@[simp] theorem State.modChan_scan (ch : Nat) (f : Chan → Chan) : (s.modChan ch f).scan = s.scan := rfl
@[simp] theorem State.modChan_imageJob (ch : Nat) (f : Chan → Chan) : (s.modChan ch f).imageJob = s.imageJob := rfl
@[simp] theorem State.modChan_moveJob (ch : Nat) (f : Chan → Chan) : (s.modChan ch f).moveJob = s.moveJob := rfl
@[simp] theorem State.modChan_drainWait (ch : Nat) (f : Chan → Chan) : (s.modChan ch f).drainWait = s.drainWait := rfl
@[simp] theorem State.modChan_drain (ch : Nat) (f : Chan → Chan) : (s.modChan ch f).drain = s.drain := rfl
@[simp] theorem State.modChan_msgs (ch : Nat) (f : Chan → Chan) : (s.modChan ch f).msgs = s.msgs := rfl
@[simp] theorem State.modChan_mbPops (ch : Nat) (f : Chan → Chan) : (s.modChan ch f).mbPops = s.mbPops := rfl
@[simp] theorem State.modChan_mbs (ch : Nat) (f : Chan → Chan) : (s.modChan ch f).mbs = s.mbs := rfl
@[simp] theorem State.modChan_nvs (ch : Nat) (f : Chan → Chan) : (s.modChan ch f).nvs = s.nvs := rfl
@[simp] theorem State.modChan_clk (ch : Nat) (f : Chan → Chan) : (s.modChan ch f).clk = s.clk := rfl
@[simp] theorem State.modChan_regs (ch : Nat) (f : Chan → Chan) : (s.modChan ch f).regs = s.regs := rfl
@[simp] theorem State.modChan_pwr (ch : Nat) (f : Chan → Chan) : (s.modChan ch f).pwr = s.pwr := rfl
@[simp] theorem State.modChan_rst (ch : Nat) (f : Chan → Chan) : (s.modChan ch f).rst = s.rst := rfl

@[simp] theorem State.setDram_pending (ch l : Nat) (v : List Byte × List Byte) : (s.setDram ch l v).pending = s.pending := rfl
@[simp] theorem State.setDram_part (ch l : Nat) (v : List Byte × List Byte) : (s.setDram ch l v).part = s.part := rfl
@[simp] theorem State.setDram_now (ch l : Nat) (v : List Byte × List Byte) : (s.setDram ch l v).now = s.now := rfl
@[simp] theorem State.setDram_cyc (ch l : Nat) (v : List Byte × List Byte) : (s.setDram ch l v).cyc = s.cyc := rfl
@[simp] theorem State.setDram_phase (ch l : Nat) (v : List Byte × List Byte) : (s.setDram ch l v).phase = s.phase := rfl
@[simp] theorem State.setDram_tsOff (ch l : Nat) (v : List Byte × List Byte) : (s.setDram ch l v).tsOff = s.tsOff := rfl
@[simp] theorem State.setDram_dict (ch l : Nat) (v : List Byte × List Byte) : (s.setDram ch l v).dict = s.dict := rfl
@[simp] theorem State.setDram_doms (ch l : Nat) (v : List Byte × List Byte) : (s.setDram ch l v).doms = s.doms := rfl
@[simp] theorem State.setDram_shadows (ch l : Nat) (v : List Byte × List Byte) : (s.setDram ch l v).shadows = s.shadows := rfl
@[simp] theorem State.setDram_session (ch l : Nat) (v : List Byte × List Byte) : (s.setDram ch l v).session = s.session := rfl
@[simp] theorem State.setDram_port (ch l : Nat) (v : List Byte × List Byte) : (s.setDram ch l v).port = s.port := rfl
@[simp] theorem State.setDram_staging (ch l : Nat) (v : List Byte × List Byte) : (s.setDram ch l v).staging = s.staging := rfl
@[simp] theorem State.setDram_answer (ch l : Nat) (v : List Byte × List Byte) : (s.setDram ch l v).answer = s.answer := rfl
@[simp] theorem State.setDram_raised (ch l : Nat) (v : List Byte × List Byte) : (s.setDram ch l v).raised = s.raised := rfl
@[simp] theorem State.setDram_drawn (ch l : Nat) (v : List Byte × List Byte) : (s.setDram ch l v).drawn = s.drawn := rfl
@[simp] theorem State.setDram_sent (ch l : Nat) (v : List Byte × List Byte) : (s.setDram ch l v).sent = s.sent := rfl
@[simp] theorem State.setDram_pcie (ch l : Nat) (v : List Byte × List Byte) : (s.setDram ch l v).pcie = s.pcie := rfl
@[simp] theorem State.setDram_ect (ch l : Nat) (v : List Byte × List Byte) : (s.setDram ch l v).ect = s.ect := rfl
@[simp] theorem State.setDram_sb (ch l : Nat) (v : List Byte × List Byte) : (s.setDram ch l v).sb = s.sb := rfl
@[simp] theorem State.setDram_causes (ch l : Nat) (v : List Byte × List Byte) : (s.setDram ch l v).causes = s.causes := rfl
@[simp] theorem State.setDram_deferred (ch l : Nat) (v : List Byte × List Byte) : (s.setDram ch l v).deferred = s.deferred := rfl
@[simp] theorem State.setDram_serial (ch l : Nat) (v : List Byte × List Byte) : (s.setDram ch l v).serial = s.serial := rfl
@[simp] theorem State.setDram_reqs (ch l : Nat) (v : List Byte × List Byte) : (s.setDram ch l v).reqs = s.reqs := rfl
@[simp] theorem State.setDram_ents (ch l : Nat) (v : List Byte × List Byte) : (s.setDram ch l v).ents = s.ents := rfl
@[simp] theorem State.setDram_answers (ch l : Nat) (v : List Byte × List Byte) : (s.setDram ch l v).answers = s.answers := rfl
@[simp] theorem State.setDram_chans (ch l : Nat) (v : List Byte × List Byte) : (s.setDram ch l v).chans = s.chans := rfl
@[simp] theorem State.setDram_lost (ch l : Nat) (v : List Byte × List Byte) : (s.setDram ch l v).lost = s.lost := rfl
@[simp] theorem State.setDram_mapped (ch l : Nat) (v : List Byte × List Byte) : (s.setDram ch l v).mapped = s.mapped := rfl
@[simp] theorem State.setDram_wheelBase (ch l : Nat) (v : List Byte × List Byte) : (s.setDram ch l v).wheelBase = s.wheelBase := rfl
@[simp] theorem State.setDram_frameBase (ch l : Nat) (v : List Byte × List Byte) : (s.setDram ch l v).frameBase = s.frameBase := rfl
@[simp] theorem State.setDram_locks (ch l : Nat) (v : List Byte × List Byte) : (s.setDram ch l v).locks = s.locks := rfl
@[simp] theorem State.setDram_ports (ch l : Nat) (v : List Byte × List Byte) : (s.setDram ch l v).ports = s.ports := rfl
@[simp] theorem State.setDram_credits (ch l : Nat) (v : List Byte × List Byte) : (s.setDram ch l v).credits = s.credits := rfl
@[simp] theorem State.setDram_aborts (ch l : Nat) (v : List Byte × List Byte) : (s.setDram ch l v).aborts = s.aborts := rfl
@[simp] theorem State.setDram_buckets (ch l : Nat) (v : List Byte × List Byte) : (s.setDram ch l v).buckets = s.buckets := rfl
@[simp] theorem State.setDram_fence (ch l : Nat) (v : List Byte × List Byte) : (s.setDram ch l v).fence = s.fence := rfl
@[simp] theorem State.setDram_edgeIn (ch l : Nat) (v : List Byte × List Byte) : (s.setDram ch l v).edgeIn = s.edgeIn := rfl
@[simp] theorem State.setDram_edgeOut (ch l : Nat) (v : List Byte × List Byte) : (s.setDram ch l v).edgeOut = s.edgeOut := rfl
@[simp] theorem State.setDram_edgeWait (ch l : Nat) (v : List Byte × List Byte) : (s.setDram ch l v).edgeWait = s.edgeWait := rfl
@[simp] theorem State.setDram_hqs (ch l : Nat) (v : List Byte × List Byte) : (s.setDram ch l v).hqs = s.hqs := rfl
@[simp] theorem State.setDram_probes (ch l : Nat) (v : List Byte × List Byte) : (s.setDram ch l v).probes = s.probes := rfl
@[simp] theorem State.setDram_tiles (ch l : Nat) (v : List Byte × List Byte) : (s.setDram ch l v).tiles = s.tiles := rfl
@[simp] theorem State.setDram_bind (ch l : Nat) (v : List Byte × List Byte) : (s.setDram ch l v).bind = s.bind := rfl
@[simp] theorem State.setDram_portBad (ch l : Nat) (v : List Byte × List Byte) : (s.setDram ch l v).portBad = s.portBad := rfl
@[simp] theorem State.setDram_feOpen (ch l : Nat) (v : List Byte × List Byte) : (s.setDram ch l v).feOpen = s.feOpen := rfl
@[simp] theorem State.setDram_edgeHeld (ch l : Nat) (v : List Byte × List Byte) : (s.setDram ch l v).edgeHeld = s.edgeHeld := rfl
@[simp] theorem State.setDram_headMoved (ch l : Nat) (v : List Byte × List Byte) : (s.setDram ch l v).headMoved = s.headMoved := rfl
@[simp] theorem State.setDram_frames (ch l : Nat) (v : List Byte × List Byte) : (s.setDram ch l v).frames = s.frames := rfl
@[simp] theorem State.setDram_scan (ch l : Nat) (v : List Byte × List Byte) : (s.setDram ch l v).scan = s.scan := rfl
@[simp] theorem State.setDram_imageJob (ch l : Nat) (v : List Byte × List Byte) : (s.setDram ch l v).imageJob = s.imageJob := rfl
@[simp] theorem State.setDram_moveJob (ch l : Nat) (v : List Byte × List Byte) : (s.setDram ch l v).moveJob = s.moveJob := rfl
@[simp] theorem State.setDram_drainWait (ch l : Nat) (v : List Byte × List Byte) : (s.setDram ch l v).drainWait = s.drainWait := rfl
@[simp] theorem State.setDram_drain (ch l : Nat) (v : List Byte × List Byte) : (s.setDram ch l v).drain = s.drain := rfl
@[simp] theorem State.setDram_msgs (ch l : Nat) (v : List Byte × List Byte) : (s.setDram ch l v).msgs = s.msgs := rfl
@[simp] theorem State.setDram_mbPops (ch l : Nat) (v : List Byte × List Byte) : (s.setDram ch l v).mbPops = s.mbPops := rfl
@[simp] theorem State.setDram_mbs (ch l : Nat) (v : List Byte × List Byte) : (s.setDram ch l v).mbs = s.mbs := rfl
@[simp] theorem State.setDram_nvs (ch l : Nat) (v : List Byte × List Byte) : (s.setDram ch l v).nvs = s.nvs := rfl
@[simp] theorem State.setDram_clk (ch l : Nat) (v : List Byte × List Byte) : (s.setDram ch l v).clk = s.clk := rfl
@[simp] theorem State.setDram_regs (ch l : Nat) (v : List Byte × List Byte) : (s.setDram ch l v).regs = s.regs := rfl
@[simp] theorem State.setDram_pwr (ch l : Nat) (v : List Byte × List Byte) : (s.setDram ch l v).pwr = s.pwr := rfl
@[simp] theorem State.setDram_rst (ch l : Nat) (v : List Byte × List Byte) : (s.setDram ch l v).rst = s.rst := rfl

@[simp] theorem State.modPwr_pending (f : Pwr → Pwr) : (s.modPwr f).pending = s.pending := rfl
@[simp] theorem State.modPwr_part (f : Pwr → Pwr) : (s.modPwr f).part = s.part := rfl
@[simp] theorem State.modPwr_now (f : Pwr → Pwr) : (s.modPwr f).now = s.now := rfl
@[simp] theorem State.modPwr_cyc (f : Pwr → Pwr) : (s.modPwr f).cyc = s.cyc := rfl
@[simp] theorem State.modPwr_phase (f : Pwr → Pwr) : (s.modPwr f).phase = s.phase := rfl
@[simp] theorem State.modPwr_tsOff (f : Pwr → Pwr) : (s.modPwr f).tsOff = s.tsOff := rfl
@[simp] theorem State.modPwr_dict (f : Pwr → Pwr) : (s.modPwr f).dict = s.dict := rfl
@[simp] theorem State.modPwr_doms (f : Pwr → Pwr) : (s.modPwr f).doms = s.doms := rfl
@[simp] theorem State.modPwr_shadows (f : Pwr → Pwr) : (s.modPwr f).shadows = s.shadows := rfl
@[simp] theorem State.modPwr_session (f : Pwr → Pwr) : (s.modPwr f).session = s.session := rfl
@[simp] theorem State.modPwr_port (f : Pwr → Pwr) : (s.modPwr f).port = s.port := rfl
@[simp] theorem State.modPwr_staging (f : Pwr → Pwr) : (s.modPwr f).staging = s.staging := rfl
@[simp] theorem State.modPwr_answer (f : Pwr → Pwr) : (s.modPwr f).answer = s.answer := rfl
@[simp] theorem State.modPwr_raised (f : Pwr → Pwr) : (s.modPwr f).raised = s.raised := rfl
@[simp] theorem State.modPwr_drawn (f : Pwr → Pwr) : (s.modPwr f).drawn = s.drawn := rfl
@[simp] theorem State.modPwr_sent (f : Pwr → Pwr) : (s.modPwr f).sent = s.sent := rfl
@[simp] theorem State.modPwr_pcie (f : Pwr → Pwr) : (s.modPwr f).pcie = s.pcie := rfl
@[simp] theorem State.modPwr_ect (f : Pwr → Pwr) : (s.modPwr f).ect = s.ect := rfl
@[simp] theorem State.modPwr_sb (f : Pwr → Pwr) : (s.modPwr f).sb = s.sb := rfl
@[simp] theorem State.modPwr_causes (f : Pwr → Pwr) : (s.modPwr f).causes = s.causes := rfl
@[simp] theorem State.modPwr_deferred (f : Pwr → Pwr) : (s.modPwr f).deferred = s.deferred := rfl
@[simp] theorem State.modPwr_serial (f : Pwr → Pwr) : (s.modPwr f).serial = s.serial := rfl
@[simp] theorem State.modPwr_reqs (f : Pwr → Pwr) : (s.modPwr f).reqs = s.reqs := rfl
@[simp] theorem State.modPwr_ents (f : Pwr → Pwr) : (s.modPwr f).ents = s.ents := rfl
@[simp] theorem State.modPwr_answers (f : Pwr → Pwr) : (s.modPwr f).answers = s.answers := rfl
@[simp] theorem State.modPwr_chans (f : Pwr → Pwr) : (s.modPwr f).chans = s.chans := rfl
@[simp] theorem State.modPwr_dram (f : Pwr → Pwr) : (s.modPwr f).dram = s.dram := rfl
@[simp] theorem State.modPwr_lost (f : Pwr → Pwr) : (s.modPwr f).lost = s.lost := rfl
@[simp] theorem State.modPwr_mapped (f : Pwr → Pwr) : (s.modPwr f).mapped = s.mapped := rfl
@[simp] theorem State.modPwr_wheelBase (f : Pwr → Pwr) : (s.modPwr f).wheelBase = s.wheelBase := rfl
@[simp] theorem State.modPwr_frameBase (f : Pwr → Pwr) : (s.modPwr f).frameBase = s.frameBase := rfl
@[simp] theorem State.modPwr_locks (f : Pwr → Pwr) : (s.modPwr f).locks = s.locks := rfl
@[simp] theorem State.modPwr_ports (f : Pwr → Pwr) : (s.modPwr f).ports = s.ports := rfl
@[simp] theorem State.modPwr_credits (f : Pwr → Pwr) : (s.modPwr f).credits = s.credits := rfl
@[simp] theorem State.modPwr_aborts (f : Pwr → Pwr) : (s.modPwr f).aborts = s.aborts := rfl
@[simp] theorem State.modPwr_buckets (f : Pwr → Pwr) : (s.modPwr f).buckets = s.buckets := rfl
@[simp] theorem State.modPwr_fence (f : Pwr → Pwr) : (s.modPwr f).fence = s.fence := rfl
@[simp] theorem State.modPwr_edgeIn (f : Pwr → Pwr) : (s.modPwr f).edgeIn = s.edgeIn := rfl
@[simp] theorem State.modPwr_edgeOut (f : Pwr → Pwr) : (s.modPwr f).edgeOut = s.edgeOut := rfl
@[simp] theorem State.modPwr_edgeWait (f : Pwr → Pwr) : (s.modPwr f).edgeWait = s.edgeWait := rfl
@[simp] theorem State.modPwr_hqs (f : Pwr → Pwr) : (s.modPwr f).hqs = s.hqs := rfl
@[simp] theorem State.modPwr_probes (f : Pwr → Pwr) : (s.modPwr f).probes = s.probes := rfl
@[simp] theorem State.modPwr_tiles (f : Pwr → Pwr) : (s.modPwr f).tiles = s.tiles := rfl
@[simp] theorem State.modPwr_bind (f : Pwr → Pwr) : (s.modPwr f).bind = s.bind := rfl
@[simp] theorem State.modPwr_portBad (f : Pwr → Pwr) : (s.modPwr f).portBad = s.portBad := rfl
@[simp] theorem State.modPwr_feOpen (f : Pwr → Pwr) : (s.modPwr f).feOpen = s.feOpen := rfl
@[simp] theorem State.modPwr_edgeHeld (f : Pwr → Pwr) : (s.modPwr f).edgeHeld = s.edgeHeld := rfl
@[simp] theorem State.modPwr_headMoved (f : Pwr → Pwr) : (s.modPwr f).headMoved = s.headMoved := rfl
@[simp] theorem State.modPwr_frames (f : Pwr → Pwr) : (s.modPwr f).frames = s.frames := rfl
@[simp] theorem State.modPwr_scan (f : Pwr → Pwr) : (s.modPwr f).scan = s.scan := rfl
@[simp] theorem State.modPwr_imageJob (f : Pwr → Pwr) : (s.modPwr f).imageJob = s.imageJob := rfl
@[simp] theorem State.modPwr_moveJob (f : Pwr → Pwr) : (s.modPwr f).moveJob = s.moveJob := rfl
@[simp] theorem State.modPwr_drainWait (f : Pwr → Pwr) : (s.modPwr f).drainWait = s.drainWait := rfl
@[simp] theorem State.modPwr_drain (f : Pwr → Pwr) : (s.modPwr f).drain = s.drain := rfl
@[simp] theorem State.modPwr_msgs (f : Pwr → Pwr) : (s.modPwr f).msgs = s.msgs := rfl
@[simp] theorem State.modPwr_mbPops (f : Pwr → Pwr) : (s.modPwr f).mbPops = s.mbPops := rfl
@[simp] theorem State.modPwr_mbs (f : Pwr → Pwr) : (s.modPwr f).mbs = s.mbs := rfl
@[simp] theorem State.modPwr_nvs (f : Pwr → Pwr) : (s.modPwr f).nvs = s.nvs := rfl
@[simp] theorem State.modPwr_clk (f : Pwr → Pwr) : (s.modPwr f).clk = s.clk := rfl
@[simp] theorem State.modPwr_regs (f : Pwr → Pwr) : (s.modPwr f).regs = s.regs := rfl
@[simp] theorem State.modPwr_rst (f : Pwr → Pwr) : (s.modPwr f).rst = s.rst := rfl

@[simp] theorem State.modRst_pending (f : Rst → Rst) : (s.modRst f).pending = s.pending := rfl
@[simp] theorem State.modRst_part (f : Rst → Rst) : (s.modRst f).part = s.part := rfl
@[simp] theorem State.modRst_now (f : Rst → Rst) : (s.modRst f).now = s.now := rfl
@[simp] theorem State.modRst_cyc (f : Rst → Rst) : (s.modRst f).cyc = s.cyc := rfl
@[simp] theorem State.modRst_phase (f : Rst → Rst) : (s.modRst f).phase = s.phase := rfl
@[simp] theorem State.modRst_tsOff (f : Rst → Rst) : (s.modRst f).tsOff = s.tsOff := rfl
@[simp] theorem State.modRst_dict (f : Rst → Rst) : (s.modRst f).dict = s.dict := rfl
@[simp] theorem State.modRst_doms (f : Rst → Rst) : (s.modRst f).doms = s.doms := rfl
@[simp] theorem State.modRst_shadows (f : Rst → Rst) : (s.modRst f).shadows = s.shadows := rfl
@[simp] theorem State.modRst_session (f : Rst → Rst) : (s.modRst f).session = s.session := rfl
@[simp] theorem State.modRst_port (f : Rst → Rst) : (s.modRst f).port = s.port := rfl
@[simp] theorem State.modRst_staging (f : Rst → Rst) : (s.modRst f).staging = s.staging := rfl
@[simp] theorem State.modRst_answer (f : Rst → Rst) : (s.modRst f).answer = s.answer := rfl
@[simp] theorem State.modRst_raised (f : Rst → Rst) : (s.modRst f).raised = s.raised := rfl
@[simp] theorem State.modRst_drawn (f : Rst → Rst) : (s.modRst f).drawn = s.drawn := rfl
@[simp] theorem State.modRst_sent (f : Rst → Rst) : (s.modRst f).sent = s.sent := rfl
@[simp] theorem State.modRst_pcie (f : Rst → Rst) : (s.modRst f).pcie = s.pcie := rfl
@[simp] theorem State.modRst_ect (f : Rst → Rst) : (s.modRst f).ect = s.ect := rfl
@[simp] theorem State.modRst_sb (f : Rst → Rst) : (s.modRst f).sb = s.sb := rfl
@[simp] theorem State.modRst_causes (f : Rst → Rst) : (s.modRst f).causes = s.causes := rfl
@[simp] theorem State.modRst_deferred (f : Rst → Rst) : (s.modRst f).deferred = s.deferred := rfl
@[simp] theorem State.modRst_serial (f : Rst → Rst) : (s.modRst f).serial = s.serial := rfl
@[simp] theorem State.modRst_reqs (f : Rst → Rst) : (s.modRst f).reqs = s.reqs := rfl
@[simp] theorem State.modRst_ents (f : Rst → Rst) : (s.modRst f).ents = s.ents := rfl
@[simp] theorem State.modRst_answers (f : Rst → Rst) : (s.modRst f).answers = s.answers := rfl
@[simp] theorem State.modRst_chans (f : Rst → Rst) : (s.modRst f).chans = s.chans := rfl
@[simp] theorem State.modRst_dram (f : Rst → Rst) : (s.modRst f).dram = s.dram := rfl
@[simp] theorem State.modRst_lost (f : Rst → Rst) : (s.modRst f).lost = s.lost := rfl
@[simp] theorem State.modRst_mapped (f : Rst → Rst) : (s.modRst f).mapped = s.mapped := rfl
@[simp] theorem State.modRst_wheelBase (f : Rst → Rst) : (s.modRst f).wheelBase = s.wheelBase := rfl
@[simp] theorem State.modRst_frameBase (f : Rst → Rst) : (s.modRst f).frameBase = s.frameBase := rfl
@[simp] theorem State.modRst_locks (f : Rst → Rst) : (s.modRst f).locks = s.locks := rfl
@[simp] theorem State.modRst_ports (f : Rst → Rst) : (s.modRst f).ports = s.ports := rfl
@[simp] theorem State.modRst_credits (f : Rst → Rst) : (s.modRst f).credits = s.credits := rfl
@[simp] theorem State.modRst_aborts (f : Rst → Rst) : (s.modRst f).aborts = s.aborts := rfl
@[simp] theorem State.modRst_buckets (f : Rst → Rst) : (s.modRst f).buckets = s.buckets := rfl
@[simp] theorem State.modRst_fence (f : Rst → Rst) : (s.modRst f).fence = s.fence := rfl
@[simp] theorem State.modRst_edgeIn (f : Rst → Rst) : (s.modRst f).edgeIn = s.edgeIn := rfl
@[simp] theorem State.modRst_edgeOut (f : Rst → Rst) : (s.modRst f).edgeOut = s.edgeOut := rfl
@[simp] theorem State.modRst_edgeWait (f : Rst → Rst) : (s.modRst f).edgeWait = s.edgeWait := rfl
@[simp] theorem State.modRst_hqs (f : Rst → Rst) : (s.modRst f).hqs = s.hqs := rfl
@[simp] theorem State.modRst_probes (f : Rst → Rst) : (s.modRst f).probes = s.probes := rfl
@[simp] theorem State.modRst_tiles (f : Rst → Rst) : (s.modRst f).tiles = s.tiles := rfl
@[simp] theorem State.modRst_bind (f : Rst → Rst) : (s.modRst f).bind = s.bind := rfl
@[simp] theorem State.modRst_portBad (f : Rst → Rst) : (s.modRst f).portBad = s.portBad := rfl
@[simp] theorem State.modRst_feOpen (f : Rst → Rst) : (s.modRst f).feOpen = s.feOpen := rfl
@[simp] theorem State.modRst_edgeHeld (f : Rst → Rst) : (s.modRst f).edgeHeld = s.edgeHeld := rfl
@[simp] theorem State.modRst_headMoved (f : Rst → Rst) : (s.modRst f).headMoved = s.headMoved := rfl
@[simp] theorem State.modRst_frames (f : Rst → Rst) : (s.modRst f).frames = s.frames := rfl
@[simp] theorem State.modRst_scan (f : Rst → Rst) : (s.modRst f).scan = s.scan := rfl
@[simp] theorem State.modRst_imageJob (f : Rst → Rst) : (s.modRst f).imageJob = s.imageJob := rfl
@[simp] theorem State.modRst_moveJob (f : Rst → Rst) : (s.modRst f).moveJob = s.moveJob := rfl
@[simp] theorem State.modRst_drainWait (f : Rst → Rst) : (s.modRst f).drainWait = s.drainWait := rfl
@[simp] theorem State.modRst_drain (f : Rst → Rst) : (s.modRst f).drain = s.drain := rfl
@[simp] theorem State.modRst_msgs (f : Rst → Rst) : (s.modRst f).msgs = s.msgs := rfl
@[simp] theorem State.modRst_mbPops (f : Rst → Rst) : (s.modRst f).mbPops = s.mbPops := rfl
@[simp] theorem State.modRst_mbs (f : Rst → Rst) : (s.modRst f).mbs = s.mbs := rfl
@[simp] theorem State.modRst_nvs (f : Rst → Rst) : (s.modRst f).nvs = s.nvs := rfl
@[simp] theorem State.modRst_clk (f : Rst → Rst) : (s.modRst f).clk = s.clk := rfl
@[simp] theorem State.modRst_regs (f : Rst → Rst) : (s.modRst f).regs = s.regs := rfl
@[simp] theorem State.modRst_pwr (f : Rst → Rst) : (s.modRst f).pwr = s.pwr := rfl

@[simp] theorem State.modEct_pending (f : Ect → Ect) : (s.modEct f).pending = s.pending := rfl
@[simp] theorem State.modEct_part (f : Ect → Ect) : (s.modEct f).part = s.part := rfl
@[simp] theorem State.modEct_now (f : Ect → Ect) : (s.modEct f).now = s.now := rfl
@[simp] theorem State.modEct_cyc (f : Ect → Ect) : (s.modEct f).cyc = s.cyc := rfl
@[simp] theorem State.modEct_phase (f : Ect → Ect) : (s.modEct f).phase = s.phase := rfl
@[simp] theorem State.modEct_tsOff (f : Ect → Ect) : (s.modEct f).tsOff = s.tsOff := rfl
@[simp] theorem State.modEct_dict (f : Ect → Ect) : (s.modEct f).dict = s.dict := rfl
@[simp] theorem State.modEct_doms (f : Ect → Ect) : (s.modEct f).doms = s.doms := rfl
@[simp] theorem State.modEct_shadows (f : Ect → Ect) : (s.modEct f).shadows = s.shadows := rfl
@[simp] theorem State.modEct_session (f : Ect → Ect) : (s.modEct f).session = s.session := rfl
@[simp] theorem State.modEct_port (f : Ect → Ect) : (s.modEct f).port = s.port := rfl
@[simp] theorem State.modEct_staging (f : Ect → Ect) : (s.modEct f).staging = s.staging := rfl
@[simp] theorem State.modEct_answer (f : Ect → Ect) : (s.modEct f).answer = s.answer := rfl
@[simp] theorem State.modEct_raised (f : Ect → Ect) : (s.modEct f).raised = s.raised := rfl
@[simp] theorem State.modEct_drawn (f : Ect → Ect) : (s.modEct f).drawn = s.drawn := rfl
@[simp] theorem State.modEct_sent (f : Ect → Ect) : (s.modEct f).sent = s.sent := rfl
@[simp] theorem State.modEct_pcie (f : Ect → Ect) : (s.modEct f).pcie = s.pcie := rfl
@[simp] theorem State.modEct_sb (f : Ect → Ect) : (s.modEct f).sb = s.sb := rfl
@[simp] theorem State.modEct_causes (f : Ect → Ect) : (s.modEct f).causes = s.causes := rfl
@[simp] theorem State.modEct_deferred (f : Ect → Ect) : (s.modEct f).deferred = s.deferred := rfl
@[simp] theorem State.modEct_serial (f : Ect → Ect) : (s.modEct f).serial = s.serial := rfl
@[simp] theorem State.modEct_reqs (f : Ect → Ect) : (s.modEct f).reqs = s.reqs := rfl
@[simp] theorem State.modEct_ents (f : Ect → Ect) : (s.modEct f).ents = s.ents := rfl
@[simp] theorem State.modEct_answers (f : Ect → Ect) : (s.modEct f).answers = s.answers := rfl
@[simp] theorem State.modEct_chans (f : Ect → Ect) : (s.modEct f).chans = s.chans := rfl
@[simp] theorem State.modEct_dram (f : Ect → Ect) : (s.modEct f).dram = s.dram := rfl
@[simp] theorem State.modEct_lost (f : Ect → Ect) : (s.modEct f).lost = s.lost := rfl
@[simp] theorem State.modEct_mapped (f : Ect → Ect) : (s.modEct f).mapped = s.mapped := rfl
@[simp] theorem State.modEct_wheelBase (f : Ect → Ect) : (s.modEct f).wheelBase = s.wheelBase := rfl
@[simp] theorem State.modEct_frameBase (f : Ect → Ect) : (s.modEct f).frameBase = s.frameBase := rfl
@[simp] theorem State.modEct_locks (f : Ect → Ect) : (s.modEct f).locks = s.locks := rfl
@[simp] theorem State.modEct_ports (f : Ect → Ect) : (s.modEct f).ports = s.ports := rfl
@[simp] theorem State.modEct_credits (f : Ect → Ect) : (s.modEct f).credits = s.credits := rfl
@[simp] theorem State.modEct_aborts (f : Ect → Ect) : (s.modEct f).aborts = s.aborts := rfl
@[simp] theorem State.modEct_buckets (f : Ect → Ect) : (s.modEct f).buckets = s.buckets := rfl
@[simp] theorem State.modEct_fence (f : Ect → Ect) : (s.modEct f).fence = s.fence := rfl
@[simp] theorem State.modEct_edgeIn (f : Ect → Ect) : (s.modEct f).edgeIn = s.edgeIn := rfl
@[simp] theorem State.modEct_edgeOut (f : Ect → Ect) : (s.modEct f).edgeOut = s.edgeOut := rfl
@[simp] theorem State.modEct_edgeWait (f : Ect → Ect) : (s.modEct f).edgeWait = s.edgeWait := rfl
@[simp] theorem State.modEct_hqs (f : Ect → Ect) : (s.modEct f).hqs = s.hqs := rfl
@[simp] theorem State.modEct_probes (f : Ect → Ect) : (s.modEct f).probes = s.probes := rfl
@[simp] theorem State.modEct_tiles (f : Ect → Ect) : (s.modEct f).tiles = s.tiles := rfl
@[simp] theorem State.modEct_bind (f : Ect → Ect) : (s.modEct f).bind = s.bind := rfl
@[simp] theorem State.modEct_portBad (f : Ect → Ect) : (s.modEct f).portBad = s.portBad := rfl
@[simp] theorem State.modEct_feOpen (f : Ect → Ect) : (s.modEct f).feOpen = s.feOpen := rfl
@[simp] theorem State.modEct_edgeHeld (f : Ect → Ect) : (s.modEct f).edgeHeld = s.edgeHeld := rfl
@[simp] theorem State.modEct_headMoved (f : Ect → Ect) : (s.modEct f).headMoved = s.headMoved := rfl
@[simp] theorem State.modEct_frames (f : Ect → Ect) : (s.modEct f).frames = s.frames := rfl
@[simp] theorem State.modEct_scan (f : Ect → Ect) : (s.modEct f).scan = s.scan := rfl
@[simp] theorem State.modEct_imageJob (f : Ect → Ect) : (s.modEct f).imageJob = s.imageJob := rfl
@[simp] theorem State.modEct_moveJob (f : Ect → Ect) : (s.modEct f).moveJob = s.moveJob := rfl
@[simp] theorem State.modEct_drainWait (f : Ect → Ect) : (s.modEct f).drainWait = s.drainWait := rfl
@[simp] theorem State.modEct_drain (f : Ect → Ect) : (s.modEct f).drain = s.drain := rfl
@[simp] theorem State.modEct_msgs (f : Ect → Ect) : (s.modEct f).msgs = s.msgs := rfl
@[simp] theorem State.modEct_mbPops (f : Ect → Ect) : (s.modEct f).mbPops = s.mbPops := rfl
@[simp] theorem State.modEct_mbs (f : Ect → Ect) : (s.modEct f).mbs = s.mbs := rfl
@[simp] theorem State.modEct_nvs (f : Ect → Ect) : (s.modEct f).nvs = s.nvs := rfl
@[simp] theorem State.modEct_clk (f : Ect → Ect) : (s.modEct f).clk = s.clk := rfl
@[simp] theorem State.modEct_regs (f : Ect → Ect) : (s.modEct f).regs = s.regs := rfl
@[simp] theorem State.modEct_pwr (f : Ect → Ect) : (s.modEct f).pwr = s.pwr := rfl
@[simp] theorem State.modEct_rst (f : Ect → Ect) : (s.modEct f).rst = s.rst := rfl

@[simp] theorem State.modPcie_pending (f : Pcie → Pcie) : (s.modPcie f).pending = s.pending := rfl
@[simp] theorem State.modPcie_part (f : Pcie → Pcie) : (s.modPcie f).part = s.part := rfl
@[simp] theorem State.modPcie_now (f : Pcie → Pcie) : (s.modPcie f).now = s.now := rfl
@[simp] theorem State.modPcie_cyc (f : Pcie → Pcie) : (s.modPcie f).cyc = s.cyc := rfl
@[simp] theorem State.modPcie_phase (f : Pcie → Pcie) : (s.modPcie f).phase = s.phase := rfl
@[simp] theorem State.modPcie_tsOff (f : Pcie → Pcie) : (s.modPcie f).tsOff = s.tsOff := rfl
@[simp] theorem State.modPcie_dict (f : Pcie → Pcie) : (s.modPcie f).dict = s.dict := rfl
@[simp] theorem State.modPcie_doms (f : Pcie → Pcie) : (s.modPcie f).doms = s.doms := rfl
@[simp] theorem State.modPcie_shadows (f : Pcie → Pcie) : (s.modPcie f).shadows = s.shadows := rfl
@[simp] theorem State.modPcie_session (f : Pcie → Pcie) : (s.modPcie f).session = s.session := rfl
@[simp] theorem State.modPcie_port (f : Pcie → Pcie) : (s.modPcie f).port = s.port := rfl
@[simp] theorem State.modPcie_staging (f : Pcie → Pcie) : (s.modPcie f).staging = s.staging := rfl
@[simp] theorem State.modPcie_answer (f : Pcie → Pcie) : (s.modPcie f).answer = s.answer := rfl
@[simp] theorem State.modPcie_raised (f : Pcie → Pcie) : (s.modPcie f).raised = s.raised := rfl
@[simp] theorem State.modPcie_drawn (f : Pcie → Pcie) : (s.modPcie f).drawn = s.drawn := rfl
@[simp] theorem State.modPcie_sent (f : Pcie → Pcie) : (s.modPcie f).sent = s.sent := rfl
@[simp] theorem State.modPcie_ect (f : Pcie → Pcie) : (s.modPcie f).ect = s.ect := rfl
@[simp] theorem State.modPcie_sb (f : Pcie → Pcie) : (s.modPcie f).sb = s.sb := rfl
@[simp] theorem State.modPcie_causes (f : Pcie → Pcie) : (s.modPcie f).causes = s.causes := rfl
@[simp] theorem State.modPcie_deferred (f : Pcie → Pcie) : (s.modPcie f).deferred = s.deferred := rfl
@[simp] theorem State.modPcie_serial (f : Pcie → Pcie) : (s.modPcie f).serial = s.serial := rfl
@[simp] theorem State.modPcie_reqs (f : Pcie → Pcie) : (s.modPcie f).reqs = s.reqs := rfl
@[simp] theorem State.modPcie_ents (f : Pcie → Pcie) : (s.modPcie f).ents = s.ents := rfl
@[simp] theorem State.modPcie_answers (f : Pcie → Pcie) : (s.modPcie f).answers = s.answers := rfl
@[simp] theorem State.modPcie_chans (f : Pcie → Pcie) : (s.modPcie f).chans = s.chans := rfl
@[simp] theorem State.modPcie_dram (f : Pcie → Pcie) : (s.modPcie f).dram = s.dram := rfl
@[simp] theorem State.modPcie_lost (f : Pcie → Pcie) : (s.modPcie f).lost = s.lost := rfl
@[simp] theorem State.modPcie_mapped (f : Pcie → Pcie) : (s.modPcie f).mapped = s.mapped := rfl
@[simp] theorem State.modPcie_wheelBase (f : Pcie → Pcie) : (s.modPcie f).wheelBase = s.wheelBase := rfl
@[simp] theorem State.modPcie_frameBase (f : Pcie → Pcie) : (s.modPcie f).frameBase = s.frameBase := rfl
@[simp] theorem State.modPcie_locks (f : Pcie → Pcie) : (s.modPcie f).locks = s.locks := rfl
@[simp] theorem State.modPcie_ports (f : Pcie → Pcie) : (s.modPcie f).ports = s.ports := rfl
@[simp] theorem State.modPcie_credits (f : Pcie → Pcie) : (s.modPcie f).credits = s.credits := rfl
@[simp] theorem State.modPcie_aborts (f : Pcie → Pcie) : (s.modPcie f).aborts = s.aborts := rfl
@[simp] theorem State.modPcie_buckets (f : Pcie → Pcie) : (s.modPcie f).buckets = s.buckets := rfl
@[simp] theorem State.modPcie_fence (f : Pcie → Pcie) : (s.modPcie f).fence = s.fence := rfl
@[simp] theorem State.modPcie_edgeIn (f : Pcie → Pcie) : (s.modPcie f).edgeIn = s.edgeIn := rfl
@[simp] theorem State.modPcie_edgeOut (f : Pcie → Pcie) : (s.modPcie f).edgeOut = s.edgeOut := rfl
@[simp] theorem State.modPcie_edgeWait (f : Pcie → Pcie) : (s.modPcie f).edgeWait = s.edgeWait := rfl
@[simp] theorem State.modPcie_hqs (f : Pcie → Pcie) : (s.modPcie f).hqs = s.hqs := rfl
@[simp] theorem State.modPcie_probes (f : Pcie → Pcie) : (s.modPcie f).probes = s.probes := rfl
@[simp] theorem State.modPcie_tiles (f : Pcie → Pcie) : (s.modPcie f).tiles = s.tiles := rfl
@[simp] theorem State.modPcie_bind (f : Pcie → Pcie) : (s.modPcie f).bind = s.bind := rfl
@[simp] theorem State.modPcie_portBad (f : Pcie → Pcie) : (s.modPcie f).portBad = s.portBad := rfl
@[simp] theorem State.modPcie_feOpen (f : Pcie → Pcie) : (s.modPcie f).feOpen = s.feOpen := rfl
@[simp] theorem State.modPcie_edgeHeld (f : Pcie → Pcie) : (s.modPcie f).edgeHeld = s.edgeHeld := rfl
@[simp] theorem State.modPcie_headMoved (f : Pcie → Pcie) : (s.modPcie f).headMoved = s.headMoved := rfl
@[simp] theorem State.modPcie_frames (f : Pcie → Pcie) : (s.modPcie f).frames = s.frames := rfl
@[simp] theorem State.modPcie_scan (f : Pcie → Pcie) : (s.modPcie f).scan = s.scan := rfl
@[simp] theorem State.modPcie_imageJob (f : Pcie → Pcie) : (s.modPcie f).imageJob = s.imageJob := rfl
@[simp] theorem State.modPcie_moveJob (f : Pcie → Pcie) : (s.modPcie f).moveJob = s.moveJob := rfl
@[simp] theorem State.modPcie_drainWait (f : Pcie → Pcie) : (s.modPcie f).drainWait = s.drainWait := rfl
@[simp] theorem State.modPcie_drain (f : Pcie → Pcie) : (s.modPcie f).drain = s.drain := rfl
@[simp] theorem State.modPcie_msgs (f : Pcie → Pcie) : (s.modPcie f).msgs = s.msgs := rfl
@[simp] theorem State.modPcie_mbPops (f : Pcie → Pcie) : (s.modPcie f).mbPops = s.mbPops := rfl
@[simp] theorem State.modPcie_mbs (f : Pcie → Pcie) : (s.modPcie f).mbs = s.mbs := rfl
@[simp] theorem State.modPcie_nvs (f : Pcie → Pcie) : (s.modPcie f).nvs = s.nvs := rfl
@[simp] theorem State.modPcie_clk (f : Pcie → Pcie) : (s.modPcie f).clk = s.clk := rfl
@[simp] theorem State.modPcie_regs (f : Pcie → Pcie) : (s.modPcie f).regs = s.regs := rfl
@[simp] theorem State.modPcie_pwr (f : Pcie → Pcie) : (s.modPcie f).pwr = s.pwr := rfl
@[simp] theorem State.modPcie_rst (f : Pcie → Pcie) : (s.modPcie f).rst = s.rst := rfl

@[simp] theorem State.modPb_pending (n : Nat) (f : ProbeCh → ProbeCh) : (s.modPb n f).pending = s.pending := rfl
@[simp] theorem State.modPb_part (n : Nat) (f : ProbeCh → ProbeCh) : (s.modPb n f).part = s.part := rfl
@[simp] theorem State.modPb_now (n : Nat) (f : ProbeCh → ProbeCh) : (s.modPb n f).now = s.now := rfl
@[simp] theorem State.modPb_cyc (n : Nat) (f : ProbeCh → ProbeCh) : (s.modPb n f).cyc = s.cyc := rfl
@[simp] theorem State.modPb_phase (n : Nat) (f : ProbeCh → ProbeCh) : (s.modPb n f).phase = s.phase := rfl
@[simp] theorem State.modPb_tsOff (n : Nat) (f : ProbeCh → ProbeCh) : (s.modPb n f).tsOff = s.tsOff := rfl
@[simp] theorem State.modPb_dict (n : Nat) (f : ProbeCh → ProbeCh) : (s.modPb n f).dict = s.dict := rfl
@[simp] theorem State.modPb_doms (n : Nat) (f : ProbeCh → ProbeCh) : (s.modPb n f).doms = s.doms := rfl
@[simp] theorem State.modPb_shadows (n : Nat) (f : ProbeCh → ProbeCh) : (s.modPb n f).shadows = s.shadows := rfl
@[simp] theorem State.modPb_session (n : Nat) (f : ProbeCh → ProbeCh) : (s.modPb n f).session = s.session := rfl
@[simp] theorem State.modPb_port (n : Nat) (f : ProbeCh → ProbeCh) : (s.modPb n f).port = s.port := rfl
@[simp] theorem State.modPb_staging (n : Nat) (f : ProbeCh → ProbeCh) : (s.modPb n f).staging = s.staging := rfl
@[simp] theorem State.modPb_answer (n : Nat) (f : ProbeCh → ProbeCh) : (s.modPb n f).answer = s.answer := rfl
@[simp] theorem State.modPb_raised (n : Nat) (f : ProbeCh → ProbeCh) : (s.modPb n f).raised = s.raised := rfl
@[simp] theorem State.modPb_drawn (n : Nat) (f : ProbeCh → ProbeCh) : (s.modPb n f).drawn = s.drawn := rfl
@[simp] theorem State.modPb_sent (n : Nat) (f : ProbeCh → ProbeCh) : (s.modPb n f).sent = s.sent := rfl
@[simp] theorem State.modPb_pcie (n : Nat) (f : ProbeCh → ProbeCh) : (s.modPb n f).pcie = s.pcie := rfl
@[simp] theorem State.modPb_ect (n : Nat) (f : ProbeCh → ProbeCh) : (s.modPb n f).ect = s.ect := rfl
@[simp] theorem State.modPb_sb (n : Nat) (f : ProbeCh → ProbeCh) : (s.modPb n f).sb = s.sb := rfl
@[simp] theorem State.modPb_causes (n : Nat) (f : ProbeCh → ProbeCh) : (s.modPb n f).causes = s.causes := rfl
@[simp] theorem State.modPb_deferred (n : Nat) (f : ProbeCh → ProbeCh) : (s.modPb n f).deferred = s.deferred := rfl
@[simp] theorem State.modPb_serial (n : Nat) (f : ProbeCh → ProbeCh) : (s.modPb n f).serial = s.serial := rfl
@[simp] theorem State.modPb_reqs (n : Nat) (f : ProbeCh → ProbeCh) : (s.modPb n f).reqs = s.reqs := rfl
@[simp] theorem State.modPb_ents (n : Nat) (f : ProbeCh → ProbeCh) : (s.modPb n f).ents = s.ents := rfl
@[simp] theorem State.modPb_answers (n : Nat) (f : ProbeCh → ProbeCh) : (s.modPb n f).answers = s.answers := rfl
@[simp] theorem State.modPb_chans (n : Nat) (f : ProbeCh → ProbeCh) : (s.modPb n f).chans = s.chans := rfl
@[simp] theorem State.modPb_dram (n : Nat) (f : ProbeCh → ProbeCh) : (s.modPb n f).dram = s.dram := rfl
@[simp] theorem State.modPb_lost (n : Nat) (f : ProbeCh → ProbeCh) : (s.modPb n f).lost = s.lost := rfl
@[simp] theorem State.modPb_mapped (n : Nat) (f : ProbeCh → ProbeCh) : (s.modPb n f).mapped = s.mapped := rfl
@[simp] theorem State.modPb_wheelBase (n : Nat) (f : ProbeCh → ProbeCh) : (s.modPb n f).wheelBase = s.wheelBase := rfl
@[simp] theorem State.modPb_frameBase (n : Nat) (f : ProbeCh → ProbeCh) : (s.modPb n f).frameBase = s.frameBase := rfl
@[simp] theorem State.modPb_locks (n : Nat) (f : ProbeCh → ProbeCh) : (s.modPb n f).locks = s.locks := rfl
@[simp] theorem State.modPb_ports (n : Nat) (f : ProbeCh → ProbeCh) : (s.modPb n f).ports = s.ports := rfl
@[simp] theorem State.modPb_credits (n : Nat) (f : ProbeCh → ProbeCh) : (s.modPb n f).credits = s.credits := rfl
@[simp] theorem State.modPb_aborts (n : Nat) (f : ProbeCh → ProbeCh) : (s.modPb n f).aborts = s.aborts := rfl
@[simp] theorem State.modPb_buckets (n : Nat) (f : ProbeCh → ProbeCh) : (s.modPb n f).buckets = s.buckets := rfl
@[simp] theorem State.modPb_fence (n : Nat) (f : ProbeCh → ProbeCh) : (s.modPb n f).fence = s.fence := rfl
@[simp] theorem State.modPb_edgeIn (n : Nat) (f : ProbeCh → ProbeCh) : (s.modPb n f).edgeIn = s.edgeIn := rfl
@[simp] theorem State.modPb_edgeOut (n : Nat) (f : ProbeCh → ProbeCh) : (s.modPb n f).edgeOut = s.edgeOut := rfl
@[simp] theorem State.modPb_edgeWait (n : Nat) (f : ProbeCh → ProbeCh) : (s.modPb n f).edgeWait = s.edgeWait := rfl
@[simp] theorem State.modPb_hqs (n : Nat) (f : ProbeCh → ProbeCh) : (s.modPb n f).hqs = s.hqs := rfl
@[simp] theorem State.modPb_tiles (n : Nat) (f : ProbeCh → ProbeCh) : (s.modPb n f).tiles = s.tiles := rfl
@[simp] theorem State.modPb_bind (n : Nat) (f : ProbeCh → ProbeCh) : (s.modPb n f).bind = s.bind := rfl
@[simp] theorem State.modPb_portBad (n : Nat) (f : ProbeCh → ProbeCh) : (s.modPb n f).portBad = s.portBad := rfl
@[simp] theorem State.modPb_feOpen (n : Nat) (f : ProbeCh → ProbeCh) : (s.modPb n f).feOpen = s.feOpen := rfl
@[simp] theorem State.modPb_edgeHeld (n : Nat) (f : ProbeCh → ProbeCh) : (s.modPb n f).edgeHeld = s.edgeHeld := rfl
@[simp] theorem State.modPb_headMoved (n : Nat) (f : ProbeCh → ProbeCh) : (s.modPb n f).headMoved = s.headMoved := rfl
@[simp] theorem State.modPb_frames (n : Nat) (f : ProbeCh → ProbeCh) : (s.modPb n f).frames = s.frames := rfl
@[simp] theorem State.modPb_scan (n : Nat) (f : ProbeCh → ProbeCh) : (s.modPb n f).scan = s.scan := rfl
@[simp] theorem State.modPb_imageJob (n : Nat) (f : ProbeCh → ProbeCh) : (s.modPb n f).imageJob = s.imageJob := rfl
@[simp] theorem State.modPb_moveJob (n : Nat) (f : ProbeCh → ProbeCh) : (s.modPb n f).moveJob = s.moveJob := rfl
@[simp] theorem State.modPb_drainWait (n : Nat) (f : ProbeCh → ProbeCh) : (s.modPb n f).drainWait = s.drainWait := rfl
@[simp] theorem State.modPb_drain (n : Nat) (f : ProbeCh → ProbeCh) : (s.modPb n f).drain = s.drain := rfl
@[simp] theorem State.modPb_msgs (n : Nat) (f : ProbeCh → ProbeCh) : (s.modPb n f).msgs = s.msgs := rfl
@[simp] theorem State.modPb_mbPops (n : Nat) (f : ProbeCh → ProbeCh) : (s.modPb n f).mbPops = s.mbPops := rfl
@[simp] theorem State.modPb_mbs (n : Nat) (f : ProbeCh → ProbeCh) : (s.modPb n f).mbs = s.mbs := rfl
@[simp] theorem State.modPb_nvs (n : Nat) (f : ProbeCh → ProbeCh) : (s.modPb n f).nvs = s.nvs := rfl
@[simp] theorem State.modPb_clk (n : Nat) (f : ProbeCh → ProbeCh) : (s.modPb n f).clk = s.clk := rfl
@[simp] theorem State.modPb_regs (n : Nat) (f : ProbeCh → ProbeCh) : (s.modPb n f).regs = s.regs := rfl
@[simp] theorem State.modPb_pwr (n : Nat) (f : ProbeCh → ProbeCh) : (s.modPb n f).pwr = s.pwr := rfl
@[simp] theorem State.modPb_rst (n : Nat) (f : ProbeCh → ProbeCh) : (s.modPb n f).rst = s.rst := rfl

@[simp] theorem State.modTile_pending (t : Nat) (f : Tile → Tile) : (s.modTile t f).pending = s.pending := rfl
@[simp] theorem State.modTile_part (t : Nat) (f : Tile → Tile) : (s.modTile t f).part = s.part := rfl
@[simp] theorem State.modTile_now (t : Nat) (f : Tile → Tile) : (s.modTile t f).now = s.now := rfl
@[simp] theorem State.modTile_cyc (t : Nat) (f : Tile → Tile) : (s.modTile t f).cyc = s.cyc := rfl
@[simp] theorem State.modTile_phase (t : Nat) (f : Tile → Tile) : (s.modTile t f).phase = s.phase := rfl
@[simp] theorem State.modTile_tsOff (t : Nat) (f : Tile → Tile) : (s.modTile t f).tsOff = s.tsOff := rfl
@[simp] theorem State.modTile_dict (t : Nat) (f : Tile → Tile) : (s.modTile t f).dict = s.dict := rfl
@[simp] theorem State.modTile_doms (t : Nat) (f : Tile → Tile) : (s.modTile t f).doms = s.doms := rfl
@[simp] theorem State.modTile_shadows (t : Nat) (f : Tile → Tile) : (s.modTile t f).shadows = s.shadows := rfl
@[simp] theorem State.modTile_session (t : Nat) (f : Tile → Tile) : (s.modTile t f).session = s.session := rfl
@[simp] theorem State.modTile_port (t : Nat) (f : Tile → Tile) : (s.modTile t f).port = s.port := rfl
@[simp] theorem State.modTile_staging (t : Nat) (f : Tile → Tile) : (s.modTile t f).staging = s.staging := rfl
@[simp] theorem State.modTile_answer (t : Nat) (f : Tile → Tile) : (s.modTile t f).answer = s.answer := rfl
@[simp] theorem State.modTile_raised (t : Nat) (f : Tile → Tile) : (s.modTile t f).raised = s.raised := rfl
@[simp] theorem State.modTile_drawn (t : Nat) (f : Tile → Tile) : (s.modTile t f).drawn = s.drawn := rfl
@[simp] theorem State.modTile_sent (t : Nat) (f : Tile → Tile) : (s.modTile t f).sent = s.sent := rfl
@[simp] theorem State.modTile_pcie (t : Nat) (f : Tile → Tile) : (s.modTile t f).pcie = s.pcie := rfl
@[simp] theorem State.modTile_ect (t : Nat) (f : Tile → Tile) : (s.modTile t f).ect = s.ect := rfl
@[simp] theorem State.modTile_sb (t : Nat) (f : Tile → Tile) : (s.modTile t f).sb = s.sb := rfl
@[simp] theorem State.modTile_causes (t : Nat) (f : Tile → Tile) : (s.modTile t f).causes = s.causes := rfl
@[simp] theorem State.modTile_deferred (t : Nat) (f : Tile → Tile) : (s.modTile t f).deferred = s.deferred := rfl
@[simp] theorem State.modTile_serial (t : Nat) (f : Tile → Tile) : (s.modTile t f).serial = s.serial := rfl
@[simp] theorem State.modTile_reqs (t : Nat) (f : Tile → Tile) : (s.modTile t f).reqs = s.reqs := rfl
@[simp] theorem State.modTile_ents (t : Nat) (f : Tile → Tile) : (s.modTile t f).ents = s.ents := rfl
@[simp] theorem State.modTile_answers (t : Nat) (f : Tile → Tile) : (s.modTile t f).answers = s.answers := rfl
@[simp] theorem State.modTile_chans (t : Nat) (f : Tile → Tile) : (s.modTile t f).chans = s.chans := rfl
@[simp] theorem State.modTile_dram (t : Nat) (f : Tile → Tile) : (s.modTile t f).dram = s.dram := rfl
@[simp] theorem State.modTile_lost (t : Nat) (f : Tile → Tile) : (s.modTile t f).lost = s.lost := rfl
@[simp] theorem State.modTile_mapped (t : Nat) (f : Tile → Tile) : (s.modTile t f).mapped = s.mapped := rfl
@[simp] theorem State.modTile_wheelBase (t : Nat) (f : Tile → Tile) : (s.modTile t f).wheelBase = s.wheelBase := rfl
@[simp] theorem State.modTile_frameBase (t : Nat) (f : Tile → Tile) : (s.modTile t f).frameBase = s.frameBase := rfl
@[simp] theorem State.modTile_locks (t : Nat) (f : Tile → Tile) : (s.modTile t f).locks = s.locks := rfl
@[simp] theorem State.modTile_ports (t : Nat) (f : Tile → Tile) : (s.modTile t f).ports = s.ports := rfl
@[simp] theorem State.modTile_credits (t : Nat) (f : Tile → Tile) : (s.modTile t f).credits = s.credits := rfl
@[simp] theorem State.modTile_aborts (t : Nat) (f : Tile → Tile) : (s.modTile t f).aborts = s.aborts := rfl
@[simp] theorem State.modTile_buckets (t : Nat) (f : Tile → Tile) : (s.modTile t f).buckets = s.buckets := rfl
@[simp] theorem State.modTile_fence (t : Nat) (f : Tile → Tile) : (s.modTile t f).fence = s.fence := rfl
@[simp] theorem State.modTile_edgeIn (t : Nat) (f : Tile → Tile) : (s.modTile t f).edgeIn = s.edgeIn := rfl
@[simp] theorem State.modTile_edgeOut (t : Nat) (f : Tile → Tile) : (s.modTile t f).edgeOut = s.edgeOut := rfl
@[simp] theorem State.modTile_edgeWait (t : Nat) (f : Tile → Tile) : (s.modTile t f).edgeWait = s.edgeWait := rfl
@[simp] theorem State.modTile_hqs (t : Nat) (f : Tile → Tile) : (s.modTile t f).hqs = s.hqs := rfl
@[simp] theorem State.modTile_probes (t : Nat) (f : Tile → Tile) : (s.modTile t f).probes = s.probes := rfl
@[simp] theorem State.modTile_bind (t : Nat) (f : Tile → Tile) : (s.modTile t f).bind = s.bind := rfl
@[simp] theorem State.modTile_portBad (t : Nat) (f : Tile → Tile) : (s.modTile t f).portBad = s.portBad := rfl
@[simp] theorem State.modTile_feOpen (t : Nat) (f : Tile → Tile) : (s.modTile t f).feOpen = s.feOpen := rfl
@[simp] theorem State.modTile_edgeHeld (t : Nat) (f : Tile → Tile) : (s.modTile t f).edgeHeld = s.edgeHeld := rfl
@[simp] theorem State.modTile_headMoved (t : Nat) (f : Tile → Tile) : (s.modTile t f).headMoved = s.headMoved := rfl
@[simp] theorem State.modTile_frames (t : Nat) (f : Tile → Tile) : (s.modTile t f).frames = s.frames := rfl
@[simp] theorem State.modTile_scan (t : Nat) (f : Tile → Tile) : (s.modTile t f).scan = s.scan := rfl
@[simp] theorem State.modTile_imageJob (t : Nat) (f : Tile → Tile) : (s.modTile t f).imageJob = s.imageJob := rfl
@[simp] theorem State.modTile_moveJob (t : Nat) (f : Tile → Tile) : (s.modTile t f).moveJob = s.moveJob := rfl
@[simp] theorem State.modTile_drainWait (t : Nat) (f : Tile → Tile) : (s.modTile t f).drainWait = s.drainWait := rfl
@[simp] theorem State.modTile_drain (t : Nat) (f : Tile → Tile) : (s.modTile t f).drain = s.drain := rfl
@[simp] theorem State.modTile_msgs (t : Nat) (f : Tile → Tile) : (s.modTile t f).msgs = s.msgs := rfl
@[simp] theorem State.modTile_mbPops (t : Nat) (f : Tile → Tile) : (s.modTile t f).mbPops = s.mbPops := rfl
@[simp] theorem State.modTile_mbs (t : Nat) (f : Tile → Tile) : (s.modTile t f).mbs = s.mbs := rfl
@[simp] theorem State.modTile_nvs (t : Nat) (f : Tile → Tile) : (s.modTile t f).nvs = s.nvs := rfl
@[simp] theorem State.modTile_clk (t : Nat) (f : Tile → Tile) : (s.modTile t f).clk = s.clk := rfl
@[simp] theorem State.modTile_regs (t : Nat) (f : Tile → Tile) : (s.modTile t f).regs = s.regs := rfl
@[simp] theorem State.modTile_pwr (t : Nat) (f : Tile → Tile) : (s.modTile t f).pwr = s.pwr := rfl
@[simp] theorem State.modTile_rst (t : Nat) (f : Tile → Tile) : (s.modTile t f).rst = s.rst := rfl

@[simp] theorem State.modHq_pending (q : Nat) (f : HostQueue → HostQueue) : (s.modHq q f).pending = s.pending := rfl
@[simp] theorem State.modHq_part (q : Nat) (f : HostQueue → HostQueue) : (s.modHq q f).part = s.part := rfl
@[simp] theorem State.modHq_now (q : Nat) (f : HostQueue → HostQueue) : (s.modHq q f).now = s.now := rfl
@[simp] theorem State.modHq_cyc (q : Nat) (f : HostQueue → HostQueue) : (s.modHq q f).cyc = s.cyc := rfl
@[simp] theorem State.modHq_phase (q : Nat) (f : HostQueue → HostQueue) : (s.modHq q f).phase = s.phase := rfl
@[simp] theorem State.modHq_tsOff (q : Nat) (f : HostQueue → HostQueue) : (s.modHq q f).tsOff = s.tsOff := rfl
@[simp] theorem State.modHq_dict (q : Nat) (f : HostQueue → HostQueue) : (s.modHq q f).dict = s.dict := rfl
@[simp] theorem State.modHq_doms (q : Nat) (f : HostQueue → HostQueue) : (s.modHq q f).doms = s.doms := rfl
@[simp] theorem State.modHq_shadows (q : Nat) (f : HostQueue → HostQueue) : (s.modHq q f).shadows = s.shadows := rfl
@[simp] theorem State.modHq_session (q : Nat) (f : HostQueue → HostQueue) : (s.modHq q f).session = s.session := rfl
@[simp] theorem State.modHq_port (q : Nat) (f : HostQueue → HostQueue) : (s.modHq q f).port = s.port := rfl
@[simp] theorem State.modHq_staging (q : Nat) (f : HostQueue → HostQueue) : (s.modHq q f).staging = s.staging := rfl
@[simp] theorem State.modHq_answer (q : Nat) (f : HostQueue → HostQueue) : (s.modHq q f).answer = s.answer := rfl
@[simp] theorem State.modHq_raised (q : Nat) (f : HostQueue → HostQueue) : (s.modHq q f).raised = s.raised := rfl
@[simp] theorem State.modHq_drawn (q : Nat) (f : HostQueue → HostQueue) : (s.modHq q f).drawn = s.drawn := rfl
@[simp] theorem State.modHq_sent (q : Nat) (f : HostQueue → HostQueue) : (s.modHq q f).sent = s.sent := rfl
@[simp] theorem State.modHq_pcie (q : Nat) (f : HostQueue → HostQueue) : (s.modHq q f).pcie = s.pcie := rfl
@[simp] theorem State.modHq_ect (q : Nat) (f : HostQueue → HostQueue) : (s.modHq q f).ect = s.ect := rfl
@[simp] theorem State.modHq_sb (q : Nat) (f : HostQueue → HostQueue) : (s.modHq q f).sb = s.sb := rfl
@[simp] theorem State.modHq_causes (q : Nat) (f : HostQueue → HostQueue) : (s.modHq q f).causes = s.causes := rfl
@[simp] theorem State.modHq_deferred (q : Nat) (f : HostQueue → HostQueue) : (s.modHq q f).deferred = s.deferred := rfl
@[simp] theorem State.modHq_serial (q : Nat) (f : HostQueue → HostQueue) : (s.modHq q f).serial = s.serial := rfl
@[simp] theorem State.modHq_reqs (q : Nat) (f : HostQueue → HostQueue) : (s.modHq q f).reqs = s.reqs := rfl
@[simp] theorem State.modHq_ents (q : Nat) (f : HostQueue → HostQueue) : (s.modHq q f).ents = s.ents := rfl
@[simp] theorem State.modHq_answers (q : Nat) (f : HostQueue → HostQueue) : (s.modHq q f).answers = s.answers := rfl
@[simp] theorem State.modHq_chans (q : Nat) (f : HostQueue → HostQueue) : (s.modHq q f).chans = s.chans := rfl
@[simp] theorem State.modHq_dram (q : Nat) (f : HostQueue → HostQueue) : (s.modHq q f).dram = s.dram := rfl
@[simp] theorem State.modHq_lost (q : Nat) (f : HostQueue → HostQueue) : (s.modHq q f).lost = s.lost := rfl
@[simp] theorem State.modHq_mapped (q : Nat) (f : HostQueue → HostQueue) : (s.modHq q f).mapped = s.mapped := rfl
@[simp] theorem State.modHq_wheelBase (q : Nat) (f : HostQueue → HostQueue) : (s.modHq q f).wheelBase = s.wheelBase := rfl
@[simp] theorem State.modHq_frameBase (q : Nat) (f : HostQueue → HostQueue) : (s.modHq q f).frameBase = s.frameBase := rfl
@[simp] theorem State.modHq_locks (q : Nat) (f : HostQueue → HostQueue) : (s.modHq q f).locks = s.locks := rfl
@[simp] theorem State.modHq_ports (q : Nat) (f : HostQueue → HostQueue) : (s.modHq q f).ports = s.ports := rfl
@[simp] theorem State.modHq_credits (q : Nat) (f : HostQueue → HostQueue) : (s.modHq q f).credits = s.credits := rfl
@[simp] theorem State.modHq_aborts (q : Nat) (f : HostQueue → HostQueue) : (s.modHq q f).aborts = s.aborts := rfl
@[simp] theorem State.modHq_buckets (q : Nat) (f : HostQueue → HostQueue) : (s.modHq q f).buckets = s.buckets := rfl
@[simp] theorem State.modHq_fence (q : Nat) (f : HostQueue → HostQueue) : (s.modHq q f).fence = s.fence := rfl
@[simp] theorem State.modHq_edgeIn (q : Nat) (f : HostQueue → HostQueue) : (s.modHq q f).edgeIn = s.edgeIn := rfl
@[simp] theorem State.modHq_edgeOut (q : Nat) (f : HostQueue → HostQueue) : (s.modHq q f).edgeOut = s.edgeOut := rfl
@[simp] theorem State.modHq_edgeWait (q : Nat) (f : HostQueue → HostQueue) : (s.modHq q f).edgeWait = s.edgeWait := rfl
@[simp] theorem State.modHq_probes (q : Nat) (f : HostQueue → HostQueue) : (s.modHq q f).probes = s.probes := rfl
@[simp] theorem State.modHq_tiles (q : Nat) (f : HostQueue → HostQueue) : (s.modHq q f).tiles = s.tiles := rfl
@[simp] theorem State.modHq_bind (q : Nat) (f : HostQueue → HostQueue) : (s.modHq q f).bind = s.bind := rfl
@[simp] theorem State.modHq_portBad (q : Nat) (f : HostQueue → HostQueue) : (s.modHq q f).portBad = s.portBad := rfl
@[simp] theorem State.modHq_feOpen (q : Nat) (f : HostQueue → HostQueue) : (s.modHq q f).feOpen = s.feOpen := rfl
@[simp] theorem State.modHq_edgeHeld (q : Nat) (f : HostQueue → HostQueue) : (s.modHq q f).edgeHeld = s.edgeHeld := rfl
@[simp] theorem State.modHq_headMoved (q : Nat) (f : HostQueue → HostQueue) : (s.modHq q f).headMoved = s.headMoved := rfl
@[simp] theorem State.modHq_frames (q : Nat) (f : HostQueue → HostQueue) : (s.modHq q f).frames = s.frames := rfl
@[simp] theorem State.modHq_scan (q : Nat) (f : HostQueue → HostQueue) : (s.modHq q f).scan = s.scan := rfl
@[simp] theorem State.modHq_imageJob (q : Nat) (f : HostQueue → HostQueue) : (s.modHq q f).imageJob = s.imageJob := rfl
@[simp] theorem State.modHq_moveJob (q : Nat) (f : HostQueue → HostQueue) : (s.modHq q f).moveJob = s.moveJob := rfl
@[simp] theorem State.modHq_drainWait (q : Nat) (f : HostQueue → HostQueue) : (s.modHq q f).drainWait = s.drainWait := rfl
@[simp] theorem State.modHq_drain (q : Nat) (f : HostQueue → HostQueue) : (s.modHq q f).drain = s.drain := rfl
@[simp] theorem State.modHq_msgs (q : Nat) (f : HostQueue → HostQueue) : (s.modHq q f).msgs = s.msgs := rfl
@[simp] theorem State.modHq_mbPops (q : Nat) (f : HostQueue → HostQueue) : (s.modHq q f).mbPops = s.mbPops := rfl
@[simp] theorem State.modHq_mbs (q : Nat) (f : HostQueue → HostQueue) : (s.modHq q f).mbs = s.mbs := rfl
@[simp] theorem State.modHq_nvs (q : Nat) (f : HostQueue → HostQueue) : (s.modHq q f).nvs = s.nvs := rfl
@[simp] theorem State.modHq_clk (q : Nat) (f : HostQueue → HostQueue) : (s.modHq q f).clk = s.clk := rfl
@[simp] theorem State.modHq_regs (q : Nat) (f : HostQueue → HostQueue) : (s.modHq q f).regs = s.regs := rfl
@[simp] theorem State.modHq_pwr (q : Nat) (f : HostQueue → HostQueue) : (s.modHq q f).pwr = s.pwr := rfl
@[simp] theorem State.modHq_rst (q : Nat) (f : HostQueue → HostQueue) : (s.modHq q f).rst = s.rst := rfl

@[simp] theorem State.modSp_pending (p : Nat) (f : StreamPort → StreamPort) : (s.modSp p f).pending = s.pending := rfl
@[simp] theorem State.modSp_part (p : Nat) (f : StreamPort → StreamPort) : (s.modSp p f).part = s.part := rfl
@[simp] theorem State.modSp_now (p : Nat) (f : StreamPort → StreamPort) : (s.modSp p f).now = s.now := rfl
@[simp] theorem State.modSp_cyc (p : Nat) (f : StreamPort → StreamPort) : (s.modSp p f).cyc = s.cyc := rfl
@[simp] theorem State.modSp_phase (p : Nat) (f : StreamPort → StreamPort) : (s.modSp p f).phase = s.phase := rfl
@[simp] theorem State.modSp_tsOff (p : Nat) (f : StreamPort → StreamPort) : (s.modSp p f).tsOff = s.tsOff := rfl
@[simp] theorem State.modSp_dict (p : Nat) (f : StreamPort → StreamPort) : (s.modSp p f).dict = s.dict := rfl
@[simp] theorem State.modSp_doms (p : Nat) (f : StreamPort → StreamPort) : (s.modSp p f).doms = s.doms := rfl
@[simp] theorem State.modSp_shadows (p : Nat) (f : StreamPort → StreamPort) : (s.modSp p f).shadows = s.shadows := rfl
@[simp] theorem State.modSp_session (p : Nat) (f : StreamPort → StreamPort) : (s.modSp p f).session = s.session := rfl
@[simp] theorem State.modSp_port (p : Nat) (f : StreamPort → StreamPort) : (s.modSp p f).port = s.port := rfl
@[simp] theorem State.modSp_staging (p : Nat) (f : StreamPort → StreamPort) : (s.modSp p f).staging = s.staging := rfl
@[simp] theorem State.modSp_answer (p : Nat) (f : StreamPort → StreamPort) : (s.modSp p f).answer = s.answer := rfl
@[simp] theorem State.modSp_raised (p : Nat) (f : StreamPort → StreamPort) : (s.modSp p f).raised = s.raised := rfl
@[simp] theorem State.modSp_drawn (p : Nat) (f : StreamPort → StreamPort) : (s.modSp p f).drawn = s.drawn := rfl
@[simp] theorem State.modSp_sent (p : Nat) (f : StreamPort → StreamPort) : (s.modSp p f).sent = s.sent := rfl
@[simp] theorem State.modSp_pcie (p : Nat) (f : StreamPort → StreamPort) : (s.modSp p f).pcie = s.pcie := rfl
@[simp] theorem State.modSp_ect (p : Nat) (f : StreamPort → StreamPort) : (s.modSp p f).ect = s.ect := rfl
@[simp] theorem State.modSp_sb (p : Nat) (f : StreamPort → StreamPort) : (s.modSp p f).sb = s.sb := rfl
@[simp] theorem State.modSp_causes (p : Nat) (f : StreamPort → StreamPort) : (s.modSp p f).causes = s.causes := rfl
@[simp] theorem State.modSp_deferred (p : Nat) (f : StreamPort → StreamPort) : (s.modSp p f).deferred = s.deferred := rfl
@[simp] theorem State.modSp_serial (p : Nat) (f : StreamPort → StreamPort) : (s.modSp p f).serial = s.serial := rfl
@[simp] theorem State.modSp_reqs (p : Nat) (f : StreamPort → StreamPort) : (s.modSp p f).reqs = s.reqs := rfl
@[simp] theorem State.modSp_ents (p : Nat) (f : StreamPort → StreamPort) : (s.modSp p f).ents = s.ents := rfl
@[simp] theorem State.modSp_answers (p : Nat) (f : StreamPort → StreamPort) : (s.modSp p f).answers = s.answers := rfl
@[simp] theorem State.modSp_chans (p : Nat) (f : StreamPort → StreamPort) : (s.modSp p f).chans = s.chans := rfl
@[simp] theorem State.modSp_dram (p : Nat) (f : StreamPort → StreamPort) : (s.modSp p f).dram = s.dram := rfl
@[simp] theorem State.modSp_lost (p : Nat) (f : StreamPort → StreamPort) : (s.modSp p f).lost = s.lost := rfl
@[simp] theorem State.modSp_mapped (p : Nat) (f : StreamPort → StreamPort) : (s.modSp p f).mapped = s.mapped := rfl
@[simp] theorem State.modSp_wheelBase (p : Nat) (f : StreamPort → StreamPort) : (s.modSp p f).wheelBase = s.wheelBase := rfl
@[simp] theorem State.modSp_frameBase (p : Nat) (f : StreamPort → StreamPort) : (s.modSp p f).frameBase = s.frameBase := rfl
@[simp] theorem State.modSp_locks (p : Nat) (f : StreamPort → StreamPort) : (s.modSp p f).locks = s.locks := rfl
@[simp] theorem State.modSp_credits (p : Nat) (f : StreamPort → StreamPort) : (s.modSp p f).credits = s.credits := rfl
@[simp] theorem State.modSp_aborts (p : Nat) (f : StreamPort → StreamPort) : (s.modSp p f).aborts = s.aborts := rfl
@[simp] theorem State.modSp_buckets (p : Nat) (f : StreamPort → StreamPort) : (s.modSp p f).buckets = s.buckets := rfl
@[simp] theorem State.modSp_fence (p : Nat) (f : StreamPort → StreamPort) : (s.modSp p f).fence = s.fence := rfl
@[simp] theorem State.modSp_edgeIn (p : Nat) (f : StreamPort → StreamPort) : (s.modSp p f).edgeIn = s.edgeIn := rfl
@[simp] theorem State.modSp_edgeOut (p : Nat) (f : StreamPort → StreamPort) : (s.modSp p f).edgeOut = s.edgeOut := rfl
@[simp] theorem State.modSp_edgeWait (p : Nat) (f : StreamPort → StreamPort) : (s.modSp p f).edgeWait = s.edgeWait := rfl
@[simp] theorem State.modSp_hqs (p : Nat) (f : StreamPort → StreamPort) : (s.modSp p f).hqs = s.hqs := rfl
@[simp] theorem State.modSp_probes (p : Nat) (f : StreamPort → StreamPort) : (s.modSp p f).probes = s.probes := rfl
@[simp] theorem State.modSp_tiles (p : Nat) (f : StreamPort → StreamPort) : (s.modSp p f).tiles = s.tiles := rfl
@[simp] theorem State.modSp_bind (p : Nat) (f : StreamPort → StreamPort) : (s.modSp p f).bind = s.bind := rfl
@[simp] theorem State.modSp_portBad (p : Nat) (f : StreamPort → StreamPort) : (s.modSp p f).portBad = s.portBad := rfl
@[simp] theorem State.modSp_feOpen (p : Nat) (f : StreamPort → StreamPort) : (s.modSp p f).feOpen = s.feOpen := rfl
@[simp] theorem State.modSp_edgeHeld (p : Nat) (f : StreamPort → StreamPort) : (s.modSp p f).edgeHeld = s.edgeHeld := rfl
@[simp] theorem State.modSp_headMoved (p : Nat) (f : StreamPort → StreamPort) : (s.modSp p f).headMoved = s.headMoved := rfl
@[simp] theorem State.modSp_frames (p : Nat) (f : StreamPort → StreamPort) : (s.modSp p f).frames = s.frames := rfl
@[simp] theorem State.modSp_scan (p : Nat) (f : StreamPort → StreamPort) : (s.modSp p f).scan = s.scan := rfl
@[simp] theorem State.modSp_imageJob (p : Nat) (f : StreamPort → StreamPort) : (s.modSp p f).imageJob = s.imageJob := rfl
@[simp] theorem State.modSp_moveJob (p : Nat) (f : StreamPort → StreamPort) : (s.modSp p f).moveJob = s.moveJob := rfl
@[simp] theorem State.modSp_drainWait (p : Nat) (f : StreamPort → StreamPort) : (s.modSp p f).drainWait = s.drainWait := rfl
@[simp] theorem State.modSp_drain (p : Nat) (f : StreamPort → StreamPort) : (s.modSp p f).drain = s.drain := rfl
@[simp] theorem State.modSp_msgs (p : Nat) (f : StreamPort → StreamPort) : (s.modSp p f).msgs = s.msgs := rfl
@[simp] theorem State.modSp_mbPops (p : Nat) (f : StreamPort → StreamPort) : (s.modSp p f).mbPops = s.mbPops := rfl
@[simp] theorem State.modSp_mbs (p : Nat) (f : StreamPort → StreamPort) : (s.modSp p f).mbs = s.mbs := rfl
@[simp] theorem State.modSp_nvs (p : Nat) (f : StreamPort → StreamPort) : (s.modSp p f).nvs = s.nvs := rfl
@[simp] theorem State.modSp_clk (p : Nat) (f : StreamPort → StreamPort) : (s.modSp p f).clk = s.clk := rfl
@[simp] theorem State.modSp_regs (p : Nat) (f : StreamPort → StreamPort) : (s.modSp p f).regs = s.regs := rfl
@[simp] theorem State.modSp_pwr (p : Nat) (f : StreamPort → StreamPort) : (s.modSp p f).pwr = s.pwr := rfl
@[simp] theorem State.modSp_rst (p : Nat) (f : StreamPort → StreamPort) : (s.modSp p f).rst = s.rst := rfl

@[simp] theorem State.renewLease_pending : (s.renewLease).pending = s.pending := rfl
@[simp] theorem State.renewLease_part : (s.renewLease).part = s.part := rfl
@[simp] theorem State.renewLease_now : (s.renewLease).now = s.now := rfl
@[simp] theorem State.renewLease_cyc : (s.renewLease).cyc = s.cyc := rfl
@[simp] theorem State.renewLease_phase : (s.renewLease).phase = s.phase := rfl
@[simp] theorem State.renewLease_tsOff : (s.renewLease).tsOff = s.tsOff := rfl
@[simp] theorem State.renewLease_dict : (s.renewLease).dict = s.dict := rfl
@[simp] theorem State.renewLease_doms : (s.renewLease).doms = s.doms := rfl
@[simp] theorem State.renewLease_shadows : (s.renewLease).shadows = s.shadows := rfl
@[simp] theorem State.renewLease_port : (s.renewLease).port = s.port := rfl
@[simp] theorem State.renewLease_staging : (s.renewLease).staging = s.staging := rfl
@[simp] theorem State.renewLease_answer : (s.renewLease).answer = s.answer := rfl
@[simp] theorem State.renewLease_raised : (s.renewLease).raised = s.raised := rfl
@[simp] theorem State.renewLease_drawn : (s.renewLease).drawn = s.drawn := rfl
@[simp] theorem State.renewLease_sent : (s.renewLease).sent = s.sent := rfl
@[simp] theorem State.renewLease_pcie : (s.renewLease).pcie = s.pcie := rfl
@[simp] theorem State.renewLease_ect : (s.renewLease).ect = s.ect := rfl
@[simp] theorem State.renewLease_sb : (s.renewLease).sb = s.sb := rfl
@[simp] theorem State.renewLease_causes : (s.renewLease).causes = s.causes := rfl
@[simp] theorem State.renewLease_deferred : (s.renewLease).deferred = s.deferred := rfl
@[simp] theorem State.renewLease_serial : (s.renewLease).serial = s.serial := rfl
@[simp] theorem State.renewLease_reqs : (s.renewLease).reqs = s.reqs := rfl
@[simp] theorem State.renewLease_ents : (s.renewLease).ents = s.ents := rfl
@[simp] theorem State.renewLease_answers : (s.renewLease).answers = s.answers := rfl
@[simp] theorem State.renewLease_chans : (s.renewLease).chans = s.chans := rfl
@[simp] theorem State.renewLease_dram : (s.renewLease).dram = s.dram := rfl
@[simp] theorem State.renewLease_lost : (s.renewLease).lost = s.lost := rfl
@[simp] theorem State.renewLease_mapped : (s.renewLease).mapped = s.mapped := rfl
@[simp] theorem State.renewLease_wheelBase : (s.renewLease).wheelBase = s.wheelBase := rfl
@[simp] theorem State.renewLease_frameBase : (s.renewLease).frameBase = s.frameBase := rfl
@[simp] theorem State.renewLease_locks : (s.renewLease).locks = s.locks := rfl
@[simp] theorem State.renewLease_ports : (s.renewLease).ports = s.ports := rfl
@[simp] theorem State.renewLease_credits : (s.renewLease).credits = s.credits := rfl
@[simp] theorem State.renewLease_aborts : (s.renewLease).aborts = s.aborts := rfl
@[simp] theorem State.renewLease_buckets : (s.renewLease).buckets = s.buckets := rfl
@[simp] theorem State.renewLease_fence : (s.renewLease).fence = s.fence := rfl
@[simp] theorem State.renewLease_edgeIn : (s.renewLease).edgeIn = s.edgeIn := rfl
@[simp] theorem State.renewLease_edgeOut : (s.renewLease).edgeOut = s.edgeOut := rfl
@[simp] theorem State.renewLease_edgeWait : (s.renewLease).edgeWait = s.edgeWait := rfl
@[simp] theorem State.renewLease_hqs : (s.renewLease).hqs = s.hqs := rfl
@[simp] theorem State.renewLease_probes : (s.renewLease).probes = s.probes := rfl
@[simp] theorem State.renewLease_tiles : (s.renewLease).tiles = s.tiles := rfl
@[simp] theorem State.renewLease_bind : (s.renewLease).bind = s.bind := rfl
@[simp] theorem State.renewLease_portBad : (s.renewLease).portBad = s.portBad := rfl
@[simp] theorem State.renewLease_feOpen : (s.renewLease).feOpen = s.feOpen := rfl
@[simp] theorem State.renewLease_edgeHeld : (s.renewLease).edgeHeld = s.edgeHeld := rfl
@[simp] theorem State.renewLease_headMoved : (s.renewLease).headMoved = s.headMoved := rfl
@[simp] theorem State.renewLease_frames : (s.renewLease).frames = s.frames := rfl
@[simp] theorem State.renewLease_scan : (s.renewLease).scan = s.scan := rfl
@[simp] theorem State.renewLease_imageJob : (s.renewLease).imageJob = s.imageJob := rfl
@[simp] theorem State.renewLease_moveJob : (s.renewLease).moveJob = s.moveJob := rfl
@[simp] theorem State.renewLease_drainWait : (s.renewLease).drainWait = s.drainWait := rfl
@[simp] theorem State.renewLease_drain : (s.renewLease).drain = s.drain := rfl
@[simp] theorem State.renewLease_msgs : (s.renewLease).msgs = s.msgs := rfl
@[simp] theorem State.renewLease_mbPops : (s.renewLease).mbPops = s.mbPops := rfl
@[simp] theorem State.renewLease_mbs : (s.renewLease).mbs = s.mbs := rfl
@[simp] theorem State.renewLease_nvs : (s.renewLease).nvs = s.nvs := rfl
@[simp] theorem State.renewLease_clk : (s.renewLease).clk = s.clk := rfl
@[simp] theorem State.renewLease_regs : (s.renewLease).regs = s.regs := rfl
@[simp] theorem State.renewLease_pwr : (s.renewLease).pwr = s.pwr := rfl
@[simp] theorem State.renewLease_rst : (s.renewLease).rst = s.rst := rfl

@[simp] theorem State.freeSession_pending : (s.freeSession).pending = s.pending := rfl
@[simp] theorem State.freeSession_part : (s.freeSession).part = s.part := rfl
@[simp] theorem State.freeSession_now : (s.freeSession).now = s.now := rfl
@[simp] theorem State.freeSession_cyc : (s.freeSession).cyc = s.cyc := rfl
@[simp] theorem State.freeSession_phase : (s.freeSession).phase = s.phase := rfl
@[simp] theorem State.freeSession_tsOff : (s.freeSession).tsOff = s.tsOff := rfl
@[simp] theorem State.freeSession_dict : (s.freeSession).dict = s.dict := rfl
@[simp] theorem State.freeSession_doms : (s.freeSession).doms = s.doms := rfl
@[simp] theorem State.freeSession_shadows : (s.freeSession).shadows = s.shadows := rfl
@[simp] theorem State.freeSession_port : (s.freeSession).port = s.port := rfl
@[simp] theorem State.freeSession_staging : (s.freeSession).staging = s.staging := rfl
@[simp] theorem State.freeSession_answer : (s.freeSession).answer = s.answer := rfl
@[simp] theorem State.freeSession_raised : (s.freeSession).raised = s.raised := rfl
@[simp] theorem State.freeSession_drawn : (s.freeSession).drawn = s.drawn := rfl
@[simp] theorem State.freeSession_sent : (s.freeSession).sent = s.sent := rfl
@[simp] theorem State.freeSession_pcie : (s.freeSession).pcie = s.pcie := rfl
@[simp] theorem State.freeSession_ect : (s.freeSession).ect = s.ect := rfl
@[simp] theorem State.freeSession_sb : (s.freeSession).sb = s.sb := rfl
@[simp] theorem State.freeSession_causes : (s.freeSession).causes = s.causes := rfl
@[simp] theorem State.freeSession_deferred : (s.freeSession).deferred = s.deferred := rfl
@[simp] theorem State.freeSession_serial : (s.freeSession).serial = s.serial := rfl
@[simp] theorem State.freeSession_reqs : (s.freeSession).reqs = s.reqs := rfl
@[simp] theorem State.freeSession_ents : (s.freeSession).ents = s.ents := rfl
@[simp] theorem State.freeSession_answers : (s.freeSession).answers = s.answers := rfl
@[simp] theorem State.freeSession_chans : (s.freeSession).chans = s.chans := rfl
@[simp] theorem State.freeSession_dram : (s.freeSession).dram = s.dram := rfl
@[simp] theorem State.freeSession_lost : (s.freeSession).lost = s.lost := rfl
@[simp] theorem State.freeSession_mapped : (s.freeSession).mapped = s.mapped := rfl
@[simp] theorem State.freeSession_wheelBase : (s.freeSession).wheelBase = s.wheelBase := rfl
@[simp] theorem State.freeSession_frameBase : (s.freeSession).frameBase = s.frameBase := rfl
@[simp] theorem State.freeSession_locks : (s.freeSession).locks = s.locks := rfl
@[simp] theorem State.freeSession_ports : (s.freeSession).ports = s.ports := rfl
@[simp] theorem State.freeSession_credits : (s.freeSession).credits = s.credits := rfl
@[simp] theorem State.freeSession_aborts : (s.freeSession).aborts = s.aborts := rfl
@[simp] theorem State.freeSession_buckets : (s.freeSession).buckets = s.buckets := rfl
@[simp] theorem State.freeSession_fence : (s.freeSession).fence = s.fence := rfl
@[simp] theorem State.freeSession_edgeIn : (s.freeSession).edgeIn = s.edgeIn := rfl
@[simp] theorem State.freeSession_edgeOut : (s.freeSession).edgeOut = s.edgeOut := rfl
@[simp] theorem State.freeSession_edgeWait : (s.freeSession).edgeWait = s.edgeWait := rfl
@[simp] theorem State.freeSession_hqs : (s.freeSession).hqs = s.hqs := rfl
@[simp] theorem State.freeSession_probes : (s.freeSession).probes = s.probes := rfl
@[simp] theorem State.freeSession_tiles : (s.freeSession).tiles = s.tiles := rfl
@[simp] theorem State.freeSession_bind : (s.freeSession).bind = s.bind := rfl
@[simp] theorem State.freeSession_portBad : (s.freeSession).portBad = s.portBad := rfl
@[simp] theorem State.freeSession_feOpen : (s.freeSession).feOpen = s.feOpen := rfl
@[simp] theorem State.freeSession_edgeHeld : (s.freeSession).edgeHeld = s.edgeHeld := rfl
@[simp] theorem State.freeSession_headMoved : (s.freeSession).headMoved = s.headMoved := rfl
@[simp] theorem State.freeSession_frames : (s.freeSession).frames = s.frames := rfl
@[simp] theorem State.freeSession_scan : (s.freeSession).scan = s.scan := rfl
@[simp] theorem State.freeSession_imageJob : (s.freeSession).imageJob = s.imageJob := rfl
@[simp] theorem State.freeSession_moveJob : (s.freeSession).moveJob = s.moveJob := rfl
@[simp] theorem State.freeSession_drainWait : (s.freeSession).drainWait = s.drainWait := rfl
@[simp] theorem State.freeSession_drain : (s.freeSession).drain = s.drain := rfl
@[simp] theorem State.freeSession_msgs : (s.freeSession).msgs = s.msgs := rfl
@[simp] theorem State.freeSession_mbPops : (s.freeSession).mbPops = s.mbPops := rfl
@[simp] theorem State.freeSession_mbs : (s.freeSession).mbs = s.mbs := rfl
@[simp] theorem State.freeSession_nvs : (s.freeSession).nvs = s.nvs := rfl
@[simp] theorem State.freeSession_clk : (s.freeSession).clk = s.clk := rfl
@[simp] theorem State.freeSession_regs : (s.freeSession).regs = s.regs := rfl
@[simp] theorem State.freeSession_pwr : (s.freeSession).pwr = s.pwr := rfl
@[simp] theorem State.freeSession_rst : (s.freeSession).rst = s.rst := rfl

end Sys2Proof.Machine
end

