-- ==== Sys2Proof/Laws/Objects.lean ====
section
/-! SUPPORT. Reading objects after an update: what was written is read, every other object reads as before, and the dictionary keeps its canonical
form. -/

namespace Sys2Proof.Machine

variable (s : State)

@[simp] theorem obj_setObj_self (k v : Nat) : (s.setObj k v).obj k = v := mapGet_mapSet_self _ _ _ _

theorem obj_setObj_ne {k j : Nat} (v : Nat) (h : j ≠ k) : (s.setObj k v).obj j = s.obj j := mapGet_mapSet_ne _ _ _ h

/-- All that a write of an object does to what objects read. -/
theorem obj_setObj (k v j : Nat) : (s.setObj k v).obj j = if j = k then v else s.obj j := by
  split
  · next h => rw [h, obj_setObj_self]
  · next h => exact obj_setObj_ne s v h

theorem obj_addTo (k n j : Nat) : (s.addTo k n).obj j = if j = k then min (objMax k) (s.obj k + n) else s.obj j := obj_setObj s ..

theorem obj_bump (k j : Nat) : (s.bump k).obj j = if j = k then min (objMax k) (s.obj k + 1) else s.obj j := obj_setObj s ..

theorem obj_track (k v j : Nat) : (s.track k v).obj j = if j = k then max (s.obj k) (min v (objMax k)) else s.obj j := obj_setObj s ..

theorem obj_wrapBump (k j : Nat) : (s.wrapBump k).obj j = if j = k then (s.obj k + 1) % 2 ^ 32 else s.obj j := obj_setObj s ..

theorem obj_setBit (k i j : Nat) (b : Bool) : (s.setBit k i b).obj j = if j = k then withBit (s.obj k) i b else s.obj j := obj_setObj s ..

theorem obj_modObj (k : Nat) (f : Nat → Nat) (j : Nat) : (s.modObj k f).obj j = if j = k then f (s.obj k) else s.obj j := obj_setObj s ..

theorem bump_eq_addTo (k : Nat) : s.bump k = s.addTo k 1 := rfl

/-- Objects read the dictionary alone. -/
theorem obj_congr {s t : State} (h : s.dict = t.dict) (k : Nat) : s.obj k = t.obj k := by simp [State.obj, h]

theorem bit_congr {s t : State} (h : s.dict = t.dict) (k i : Nat) : s.bit k i = t.bit k i := by simp [State.bit, obj_congr h]

theorem setObj_dictWf (k v : Nat) (h : mapWf objDefault s.dict = true) : mapWf objDefault (s.setObj k v).dict = true := mapWf_mapSet k v h

theorem addTo_dictWf (k n : Nat) (h : mapWf objDefault s.dict = true) : mapWf objDefault (s.addTo k n).dict = true := mapWf_mapSet _ _ h

theorem setBit_dictWf (k i : Nat) (b : Bool) (h : mapWf objDefault s.dict = true) : mapWf objDefault (s.setBit k i b).dict = true :=
  mapWf_mapSet _ _ h

/-! Reading an object after an update of anything else. -/

@[simp] theorem obj_dropShadows (p : Shadow → Bool) (k : Nat) : (s.dropShadows p).obj k = s.obj k := rfl
@[simp] theorem obj_drew (n k : Nat) : (s.drew n).obj k = s.obj k := rfl
@[simp] theorem obj_fresh (k : Nat) : s.fresh.obj k = s.obj k := rfl
@[simp] theorem obj_modChan (ch : Nat) (f : Chan → Chan) (k : Nat) : (s.modChan ch f).obj k = s.obj k := rfl
@[simp] theorem obj_modPwr (f : Pwr → Pwr) (k : Nat) : (s.modPwr f).obj k = s.obj k := rfl
@[simp] theorem obj_modRst (f : Rst → Rst) (k : Nat) : (s.modRst f).obj k = s.obj k := rfl
@[simp] theorem obj_modEct (f : Ect → Ect) (k : Nat) : (s.modEct f).obj k = s.obj k := rfl
@[simp] theorem obj_modPcie (f : Pcie → Pcie) (k : Nat) : (s.modPcie f).obj k = s.obj k := rfl
@[simp] theorem obj_modPb (n : Nat) (f : ProbeCh → ProbeCh) (k : Nat) : (s.modPb n f).obj k = s.obj k := rfl
@[simp] theorem obj_modTile (t : Nat) (f : Tile → Tile) (k : Nat) : (s.modTile t f).obj k = s.obj k := rfl
@[simp] theorem obj_modHq (q : Nat) (f : HostQueue → HostQueue) (k : Nat) : (s.modHq q f).obj k = s.obj k := rfl
@[simp] theorem obj_setDram (ch l : Nat) (v : List Byte × List Byte) (k : Nat) : (s.setDram ch l v).obj k = s.obj k := rfl
@[simp] theorem obj_renewLease (k : Nat) : s.renewLease.obj k = s.obj k := rfl
@[simp] theorem obj_freeSession (k : Nat) : s.freeSession.obj k = s.obj k := rfl

/-! Time. -/

/-- All that the passing of time changes. -/
theorem advanceTo_eq (t : Nat) : s.advanceTo t =
    { s with now := max s.now t, cyc := if s.now < t then s.cyc + s.phaseAt t / phaseUnits else s.cyc,
             phase := if s.now < t then s.phaseAt t % phaseUnits else s.phase } := by
  unfold State.advanceTo
  split
  · next h => simp [Nat.max_eq_right (Nat.le_of_lt h)]
  · next h => simp [Nat.max_eq_left (Nat.le_of_not_lt h)]

theorem advanceCyc_eq (c : Nat) : s.advanceCyc c =
    { s with now := if s.cyc < c then s.now + s.untilCyc c else s.now, cyc := max s.cyc c,
             phase := if s.cyc < c then s.phaseAt (s.now + s.untilCyc c) - (c - s.cyc) * phaseUnits else s.phase } := by
  unfold State.advanceCyc
  split
  · next h => simp [Nat.max_eq_right (Nat.le_of_lt h)]
  · next h => simp [Nat.max_eq_left (Nat.le_of_not_lt h)]

@[simp] theorem obj_advanceTo (t k : Nat) : (s.advanceTo t).obj k = s.obj k := by rw [advanceTo_eq]; rfl
@[simp] theorem obj_advanceCyc (c k : Nat) : (s.advanceCyc c).obj k = s.obj k := by rw [advanceCyc_eq]; rfl

/-! Bits and bytes. -/

/-- The number that n bytes of a value spell. -/
theorem leNat_leBytes (n v : Nat) : leNat (leBytes n v) = v % 256 ^ n := by
  induction n generalizing v with
  | zero => simp [leBytes, leNat]; omega
  | succ n ih =>
    simp only [leBytes, leNat, ih, BitVec.toNat_ofNat]
    have h : 256 ^ (n + 1) = 256 * 256 ^ n := by rw [Nat.pow_succ, Nat.mul_comm]
    rw [h, Nat.mod_mul]

@[simp] theorem length_leBytes (n v : Nat) : (leBytes n v).length = n := by
  induction n generalizing v with
  | zero => rfl
  | succ n ih => simp [leBytes, ih]

end Sys2Proof.Machine
end

