-- ==== Sys2Proof/Laws/Run.lean ====
section
/-! SUPPORT. How a command runs: its own effect on what it finds, and what follows at once. -/

namespace Sys2Proof.Machine

/-- A command answers the state that its effect leaves once what it sets off has settled. -/
theorem run_eq (s : State) (f : State → State) : run s f = .next (s.ends (f s.fresh)) := rfl

/-- A command of logic that is awake does what its effect says. -/
theorem runAwake_eq (s : State) (f : State → State) (h : s.awake = true) : runAwake s f = .next (s.ends (f s.fresh)) := by
  have h' : s.fresh.awake = true := h
  rw [runAwake, run_eq]
  simp [h']

/-- A command of logic that is not awake does nothing. -/
theorem runAwake_asleep (s : State) (f : State → State) (h : s.awake = false) : runAwake s f = .next (s.ends s.fresh) := by
  have h' : s.fresh.awake = false := h
  rw [runAwake, run_eq]
  simp [h']

theorem runClocked_eq (s : State) (f : State → State) (h : s.clocked = true) : runClocked s f = .next (s.ends (f s.fresh)) := by
  have h' : s.fresh.clocked = true := h
  rw [runClocked, run_eq]
  simp [h']

theorem runIngress_eq (s : State) (f : State → State) (h : s.awake = true) (i : s.ingressClosed = false) :
    runIngress s f = .next (s.ends (f s.fresh.requestWakes)) := by
  have h' : s.fresh.awake = true := h
  have i' : s.fresh.ingressClosed = false := i
  rw [runIngress, run_eq]
  simp [h', i']

/-- The queue is no part of any effect. -/
@[simp] theorem ends_pending (s e : State) : (s.ends e).pending = s.pending := by simp only [State.ends]

@[simp] theorem fresh_sent (s : State) : s.fresh.sent = [] := rfl

/-- Nothing falls due: the command ends with what its effect leaves. -/
theorem ends_calm (s e : State) (h : e.Calm) (p : e.pending = s.pending) : s.ends e = e := by
  have h' : e.finish = e := h
  simp only [State.ends, h']
  exact (congrArg (fun q => ({ e with pending := q } : State)) p.symm).trans rfl

end Sys2Proof.Machine
end

