-- ==== Sys2Proof/Laws/Port.lean ====
section
/-! SUPPORT. The dictionary write port: what becomes of a write that it takes, and of one that is refused before the checks of acceptance. -/

namespace Sys2Proof.Machine

/-- An object that a path finds has its row in the tables. -/
theorem row_of_look {s : State} {p : Path} {ix sb : Nat} {r : Row} (h : s.look p ix sb = .found r) : rowOf (ix * 0x100 + sb) = some r := by
  simp only [State.look] at h
  split at h
  · simp at h
  · split at h
    · simp at h
    · split at h <;> simp_all

/-- The index of an object that does not exist is refused before anything else. -/
theorem look_gone {s : State} {p : Path} {ix sb : Nat} (h : s.indexOn p ix = false) : s.look p ix sb = .gone 1 := by
  simp [State.look, h]

/-- A write that the port takes at once is accepted. -/
theorem submit_takes {s : State} {w : Wr} {r : Row} {v : Nat} (h : s.Takes w r v) : s.submit w = (s.acceptWrite w r v).pumpHosts := by
  obtain ⟨up, heard, free, plain, single, found, value, admitted, unbatched, alone, fits⟩ := h
  simp only [State.submit, State.submitGroup, free, List.isEmpty_nil, if_true, State.takeGroup, State.takeWrite, up, heard, Bool.not_true,
    Bool.or_self, Bool.false_eq_true, if_false, plain, State.takePlain, admitted, unbatched, State.proceed, alone, Bool.not_false, State.conclude, single,
    State.decideWrite, State.spelled, found, value, fits]

/-- The same for a command that writes one object. -/
theorem write_takes {s : State} {p : Path} {k v0 v : Nat} {x r : Row} (hx : rowOf k = some x) (h : s.Takes (wrOf p k x.ty.size v0) r v) :
    s.write p k v0 = (s.acceptWrite (wrOf p k x.ty.size v0) r v).pumpHosts := by
  simp only [State.write, hx, Option.map_some, Option.getD_some]
  exact submit_takes h

/-- An accepted write, with what it does to its block given by its own rule. -/
theorem accept_eq (s : State) (w : Wr) (r : Row) (v : Nat) (f : Nat → State → State)
    (h : ∀ (t : State) (o : Nat), t.blockWrite w.path w.key v o w.data = f o t) : (s.acceptWrite w r v).pumpHosts = s.accepting w r v f := by
  simp only [State.acceptWrite, State.accepting, h]

/-- A write that fails a check before those of acceptance is refused. -/
theorem submit_refused {s : State} {w : Wr} {e : Nat} (up : s.pathUp w.path = true) (heard : s.sidebandMute w = false) (free : s.port.held = [])
    (plain : w.key ≠ Obj.domainCommit ∨ w.path ≠ .pcie) (h : s.portRefuses w = some e) : s.submit w = (s.rejectWrite w 0 e false).pumpHosts := by
  simp only [State.submit, State.submitGroup, free, List.isEmpty_nil, if_true, State.takeGroup, State.takeWrite, up, heard, Bool.not_true,
    Bool.or_self, Bool.false_eq_true, if_false, if_pos plain, State.takePlain, h]

end Sys2Proof.Machine
end

