-- ==== Sys2Proof/Laws/Store.lean ====
section
/-! SUPPORT. The store's memory: a line reads what was written to it, every other line reads as before, and each operation on it keeps the canonical
form. -/

namespace Sys2Proof.Machine

theorem dramKey_div {ch l : Nat} (h : l < 2 ^ 40) : dramKey ch l / 2 ^ 40 = ch := by unfold dramKey; omega

theorem dramKey_mod {ch l : Nat} (h : l < 2 ^ 40) : dramKey ch l % 2 ^ 40 = l := by unfold dramKey; omega

theorem dramKey_inj {ch l ch' l' : Nat} (h : l < 2 ^ 40) (h' : l' < 2 ^ 40) (e : dramKey ch l = dramKey ch' l') : ch = ch' ∧ l = l' := by
  unfold dramKey at e; omega

/-- What an unlisted line holds depends on its channel and on how often its contents were lost. -/
theorem baseLine_congr {s t : State} {ch : Nat} (h : s.chan ch = t.chan ch) (g : mapGet (fun _ => 0) s.lost ch = mapGet (fun _ => 0) t.lost ch)
    (l : Nat) : s.baseLine ch l = t.baseLine ch l := by
  unfold State.baseLine
  rw [h, g]

theorem chan_modChan_ne (s : State) {ch j : Nat} (f : Chan → Chan) (h : j ≠ ch) : (s.modChan ch f).chan j = s.chan j :=
  mapGet_mapSet_ne _ _ _ h

@[simp] theorem chan_modChan_self (s : State) (ch : Nat) (f : Chan → Chan) : (s.modChan ch f).chan ch = f (s.chan ch) :=
  mapGet_mapSet_self _ _ _ _

/-- A line reads what was stored to it. -/
theorem dramLine_setDram_self (s : State) (ch l : Nat) (v : List Byte × List Byte) : (s.setDram ch l v).dramLine ch l = v := by
  simp only [State.dramLine, State.setDram, mapGet_mapSet_self]
  split
  · next h => exact h.symm
  · rfl

/-- Every other line reads as before. -/
theorem dramLine_setDram_ne (s : State) {ch l ch' l' : Nat} (v : List Byte × List Byte) (h : l < 2 ^ 40) (h' : l' < 2 ^ 40)
    (n : ch' ≠ ch ∨ l' ≠ l) : (s.setDram ch l v).dramLine ch' l' = s.dramLine ch' l' := by
  have hk : dramKey ch' l' ≠ dramKey ch l := fun e => by
    have := dramKey_inj h' h e
    omega
  simp only [State.dramLine, State.setDram, mapGet_mapSet_ne _ _ _ hk]
  rfl

/-- A store to a line keeps the canonical form. -/
theorem setDram_storeWf (s : State) {ch l : Nat} (v : List Byte × List Byte) (h : l < 2 ^ 40) (w : s.storeWf = true) :
    (s.setDram ch l v).storeWf = true := by
  simp only [State.storeWf, Bool.and_eq_true, List.all_eq_true, decide_eq_true_eq] at w ⊢
  refine ⟨mapWf_mapSet _ _ w.1, fun e he => ?_⟩
  change e.2 ≠ some (s.baseLine (e.1 / 2 ^ 40) (e.1 % 2 ^ 40))
  by_cases hv : v = s.baseLine ch l
  · have hd : (s.setDram ch l v).dram = mapErase s.dram (dramKey ch l) := by simp [State.setDram, mapSet, hv]
    rw [hd] at he
    exact w.2 e (List.mem_filter.1 he).1
  · have hd : (s.setDram ch l v).dram = mapInsert s.dram (dramKey ch l) (some v) := by simp [State.setDram, mapSet, hv]
    rw [hd] at he
    rcases mem_mapInsert he with he | he
    · subst he
      simp only [dramKey_div h, dramKey_mod h]
      exact fun x => hv (Option.some.inj x)
    · exact w.2 e he

/-- Losing a channel's contents keeps the canonical form. -/
theorem loseDram_storeWf (s : State) (ch : Nat) (w : s.storeWf = true) : (s.loseDram ch).storeWf = true := by
  simp only [State.storeWf, Bool.and_eq_true, List.all_eq_true, decide_eq_true_eq] at w ⊢
  refine ⟨mapWf_filter _ w.1, fun e he => ?_⟩
  have hm := List.mem_filter.1 he
  have hne : e.1 / 2 ^ 40 ≠ ch := by simpa using hm.2
  have hb : (s.loseDram ch).baseLine (e.1 / 2 ^ 40) (e.1 % 2 ^ 40) = s.baseLine (e.1 / 2 ^ 40) (e.1 % 2 ^ 40) := by
    have h1 : (s.loseDram ch).chan (e.1 / 2 ^ 40) = s.chan (e.1 / 2 ^ 40) := by
      unfold State.loseDram
      exact (chan_modChan_ne _ _ hne).trans rfl
    have h2 : mapGet (fun _ => 0) (s.loseDram ch).lost (e.1 / 2 ^ 40) = mapGet (fun _ => 0) s.lost (e.1 / 2 ^ 40) := by
      change mapGet (fun _ => 0) (mapMod (fun _ => 0) s.lost ch (· + 1)) (e.1 / 2 ^ 40) = _
      exact mapGet_mapSet_ne _ _ _ hne
    exact baseLine_congr h1 h2 _
  rw [hb]
  exact w.2 e hm.1

/-- Dropping a channel's lines and taking its filled contents as what unlisted lines hold keeps the canonical form. -/
theorem zeroFilled_storeWf (s : State) (ch n : Nat) (w : s.storeWf = true) : (s.zeroFilled ch n).storeWf = true := by
  simp only [State.storeWf, Bool.and_eq_true, List.all_eq_true, decide_eq_true_eq] at w ⊢
  refine ⟨mapWf_filter _ w.1, fun e he => ?_⟩
  have hm := List.mem_filter.1 he
  have hne : e.1 / 2 ^ 40 ≠ ch := by simpa using hm.2
  have hb : (s.zeroFilled ch n).baseLine (e.1 / 2 ^ 40) (e.1 % 2 ^ 40) = s.baseLine (e.1 / 2 ^ 40) (e.1 % 2 ^ 40) := by
    have h1 : (s.zeroFilled ch n).chan (e.1 / 2 ^ 40) = s.chan (e.1 / 2 ^ 40) := by
      unfold State.zeroFilled
      exact (chan_modChan_ne _ _ hne).trans rfl
    exact baseLine_congr h1 rfl _
  rw [hb]
  exact w.2 e hm.1

theorem each_storeWf {α : Type} (f : α → State → State) (l : List α) (s : State) (w : s.storeWf = true)
    (h : ∀ a ∈ l, ∀ t : State, t.storeWf = true → (f a t).storeWf = true) : (s.each l f).storeWf = true := by
  unfold State.each
  induction l generalizing s with
  | nil => exact w
  | cons a l ih => exact ih _ (h a (List.mem_cons_self ..) s w) fun b hb => h b (List.mem_cons_of_mem _ hb)

end Sys2Proof.Machine
end

