-- ==== Sys2Proof/Tests/Slice0.lean ====
section
/-! SUPPORT. Tests: operands that WellFormed refuses, a state and operands that meet the hypotheses of each statement, and small checks of values
that the spec gives. -/

namespace Sys2Proof.Tests

open Sys2Proof Sys2Proof.Machine

set_option Elab.async false

/-! Operands that are refused: one ill-formed command for each check. -/

theorem test_wf_refuses : ([.objectWrite .pcie 0x10000 0 [] true false, .objectWrite .coe 0x2000 0x100 [] true false, .highReadCopy 0x10000 1,
    .highWriteMerge 0x10000 1 0 false, .refusedRead .coe 0 0x100 4 true, .sdoDownload 0x2000 [(0x100, [])] true, .sdoUpload 0x10000 0 false,
    .sdoInformation 0 0x10000 0, .pllRelock 11, .linkActive 0 ⟨64, 66, 16⟩ 10, .linkActive 0 ⟨64, 1, 16⟩ 1001, .linkActive 0 ⟨63, 1, 16⟩ 1, .linkActive 0 ⟨64, 1, 15⟩ 1, .rxPacket 0 [] 4096 2 0 false true ⟨[], 0⟩,
    .rxPacket 0 [] 1 16 0 false true ⟨[], 0⟩, .rxPacket 0 [] 1 1 256 false true ⟨[], 0⟩, .channelResume 0 true (List.replicate 769 0#8), .msgRegWrite .coe 0 63 [1, 2] true false,
    .sbWrite 0x10 0 0 0 0 (List.replicate 257 0#8) none, .streamWrite 0 0 0 false false 0 0 [] false, .streamWriteMasked 0 0 0 false false 0 0 [] false,
    .readCheck 0 0 (List.replicate 81 0#8), .bar2Write 0 [] 0 false false, .bar2Read 0 0, .bar2Read 0 4097, .supplySample 0 0 0x10000 0 0,
    .dutSupplyDischarged 0 2001, .dmSample 0 0x10000 0 [] 0, .holdupEstimate 0 0x10000 0, .bootComplete [[], [], [], [], []],
    .bootComplete [[{}, {}, {}]], .nvsOperationDone 50001 true true true [] [], .phaseRestoreDone 0 0 1001,
    .lockLeaseExpiry (2 ^ 34)] : List Instr).all (fun c => !c.wf) = true := by decide +kernel

theorem test_wf_accepts : ([.objectWrite .pcie 0x2000 0 [1#8] true false, .bar2Read 0 4096, .frameBoundary, .pllRelock 10, .linkActive 15 ⟨64, 65, 16⟩ 1000,
    .bootComplete [[{}, {}], [], [{}], []], .lockLeaseExpiry 0] : List Instr).all Instr.wf = true := by decide +kernel

/-! The states the tests start from. -/

/-- READY, with the sideband holding the session. -/
def up : State := { State.reset.setObj Obj.runPhase 4 with session := { owner := 3, due := 10 } }

/-- READY, with the PCI Express link up and holding the session. -/
def host : State := { up.setObj Obj.pcieLink 0x200 with session := { owner := 2, due := 10 } }

/-- The port takes the write at once: every field of Takes. -/
def takenWr (a : State) (w : Wr) : Bool :=
  match a.look w.path w.index w.sub with
  | .gone _ => false
  | .found r =>
    let v := a.wrValue r w
    a.pathUp w.path && decide (a.sidebandMute w = false) && decide (a.port.held = []) && decide (w.key ≠ Obj.domainCommit ∨ w.path ≠ .pcie) && decide (w.commits = false) &&
      decide (a.portRefuses w = none) && decide (a.batchFor w = none) && decide (a.needsCore [w] = false) &&
      decide (a.lateCheck (a.tentative r w.key v w.data) w.path r w.key v = none)

/-- What `takenWr` checks is what the statements ask. -/
theorem takenWr_takes (a : State) (w : Wr) (h : takenWr a w = true) : ∃ r v, a.Takes w r v := by
  unfold takenWr at h
  split at h
  · simp at h
  · next r hr =>
    simp only [Bool.and_eq_true, decide_eq_true_eq] at h
    obtain ⟨⟨⟨⟨⟨⟨⟨⟨h1, h0⟩, h2⟩, h3⟩, h4⟩, h5⟩, h6⟩, h7⟩, h8⟩ := h
    exact ⟨r, _, h1, h0, h2, h3, h4, hr, rfl, h5, h6, h7, h8⟩

/-- The command's write is one that the port takes at once. -/
def taken (c : Instr) (s : State) : Bool :=
  match c.writes with
  | none => false
  | some (p, k, v0) => match rowOf k with
    | none => false
    | some x => takenWr s.fresh (wrOf p k x.ty.size v0)

theorem taken_takes (c : Instr) (s : State) (h : taken c s = true) :
    ∃ p k v0 x r w v, c.writes = some (p, k, v0) ∧ rowOf k = some x ∧ w = wrOf p k x.ty.size v0 ∧ s.fresh.Takes w r v := by
  unfold taken at h
  split at h
  · simp at h
  · next p k v0 hc =>
    split at h
    · simp at h
    · next x hx =>
      obtain ⟨r, v, h⟩ := takenWr_takes _ _ h
      exact ⟨p, k, v0, x, r, _, v, hc, hx, rfl, h⟩

/-- The key of a write command, divided by 0x100: its index. -/
def indexOf (c : Instr) : Nat := match c.writes with | some (_, k, _) => k / 0x100 | none => 0

/-- A sample: the write is taken, and its index lies in the range. -/
def sample (lo hi : Nat) (x : Instr × State) : Bool := taken x.1 x.2 && decide (lo ≤ indexOf x.1) && decide (indexOf x.1 < hi)

theorem witness_EngineWriteCommandsComplete : ([(.claim .sideband, up), (.renew .sideband, up), (.release .sideband, up), (.batchBegin .sideband, up), (.batchCancel .sideband, up),
    (.domainSelect (0x2201 + 65536), host), (.domainDataWrite 7, host), (.opRequest .sideband 3, up), (.shmooOffset .sideband 0, up),
    (.pbCkMult .sideband 1 4, up), (.nvsStore .sideband true 3, up), (.nvsStore .sideband false 0, up), (.nvsRestore .sideband true 0, up),
    (.nvsRestore .sideband false 3, up), (.areaWrite .sideband 99, up.putDom Obj.imageStaging [1#8]), (.areaErase .sideband 0, up), (.hhRequest .sideband, up),
    (.fltResume .sideband, up), (.ftwClear .sideband 1, up), (.requestRun .sideband, up), (.requestDoze .sideband, up), (.requestDormouse .sideband, up),
    (.requestRetain .sideband, up), (.requestWatch .sideband, up), (.padRelease .sideband, up), (.vcoreTrim .sideband 3 0, up), (.phaseRestore .sideband, up),
    (.dutPhaseRestore .sideband 1, up), (.resetCmdWarm .sideband, up), (.resetCmdCold .sideband, up)] : List (Instr × State)).all (sample 0 0x3000) = true := by
  decide +kernel

theorem witness_StoreWriteCommandsComplete : ([(.decodeAddress .sideband 0, up), (.trainCmdSeeded .sideband 0, up.modChan 0 fun c => { c with accepted := true }),
    (.trainCmdFull .sideband 3, up.modChan 3 fun c => { c with accepted := true }), (.flipArm .sideband 1 3, up),
    (.peekAddress .sideband 0 4096, up.setObj Obj.mapTop (2 ^ 34)), (.retireAdd .sideband 0, up.setObj Obj.mapTop (2 ^ 34)),
    (.retireRemove .sideband 4096, up.setObj Obj.mapTop (2 ^ 34)), (.retireClear .sideband 1, up), (.lockReleaseAll .sideband 1, up)] :
    List (Instr × State)).all (sample 0x3000 0x3800) = true := by decide +kernel

theorem witness_ProbeWriteCommandsComplete : ([(.pbEnable .sideband 0 1, (up.setObj (Obj.powerState 0) psGood).setObj Obj.pb0CkMult 4), (.pbEnable .sideband 1 0, up),
    (.pbCurlOutputs .sideband 0, up), (.pbCurlDischarge .sideband 1, up), (.mrWrite .sideband 0, up.setObj (Obj.pbState 0) pbIdle),
    (.mrRead .sideband 1, up.setObj (Obj.pbState 1) pbIdle), (.dutPowerDown .sideband 0, up), (.dutSetpoint .sideband 0 1 13000, up),
    (.trackReset .sideband 1 2 1, up), (.calFull .sideband 0, up.setObj (Obj.pbState 0) pbIdle), (.calTrack .sideband 1, up.setObj (Obj.pbState 1) pbIdle),
    (.failClear .sideband 0 1, up), (.ffArm .sideband 1 7 1, up)] : List (Instr × State)).all (sample 0x3800 0x4000) = true := by decide +kernel

theorem witness_ClientWriteCommandsComplete : ([(.portEnable .sideband 15 1, up), (.retrain .sideband 0 1, up.setObj (Obj.portEnable 0) 1), (.clientAbort .sideband 255 1, up),
    (.portAbort .sideband 2 1, up), (.hqAbort .sideband 3 1, up), (.fabAbortFg .sideband 1, up), (.fabAbortBg .sideband 1, up), (.clientEnable .sideband 4 1, up),
    (.ctxStart .sideband 0, up), (.ctxStop .sideband 1, up), (.ctxUnload .sideband 0, up), (.ctxSwap .sideband, up), (.loadFg .sideband, up), (.loadBg .sideband, up),
    (.scanOut .sideband, up), (.scanIn .sideband, (up.setObj (Obj.frameKind 1) 1).setObj Obj.scanFrameIn 1), (.scanExchange .sideband, (up.setObj (Obj.frameKind 1) 1).setObj Obj.scanFrameIn 1),
    (.frameSave .sideband 0, up), (.frameFetch .sideband 7, up), (.frameRelease .sideband 0, up), (.frameClear .sideband 0, up),
    (.msgGo .sideband 31, up.setObj (Obj.msgState 31) mcEmpty),
    (.msgRelease .sideband 0, ((up.setObj (Obj.msgState 0) mcFull).setObj (Obj.msgReceiver 0) 0x3000).setObj (Obj.msgMode 0) 2),
    (.msgEnable .sideband 0 1, up.setObj (Obj.msgReceiver 0) 0x3000), (.hqWindowBase .sideband 0 0, up), (.hqEnable .sideband 3 1, up)] :
    List (Instr × State)).all (sample 0x4000 0x10000) = true := by decide +kernel


/-! The states that the witnesses of the remaining statements start from. -/

/-- The condition holds in the state that a command's own effect finds. -/
def holds (s : State) (f : State → Bool) : Bool := f s.fresh

/-- A channel that runs: accepted, with one rank, released. -/
def running (ch : Nat) : State :=
  ((up.modChan ch fun c => { c with accepted := true, dimms := [{}] }).setBit Obj.channelsReady ch true).setObj Obj.mapTop (2 ^ 34)

/-- A stream port whose link is ACTIVE. -/
def linked (p : Nat) : State := (up.setObj (Obj.linkState p) 2).setObj (Obj.portEnable p) 1

/-- One response packet and one that has been sent. -/
def packet : Packet := { opcode := 1, sub := 0, tag := 0, status := 0, lines := 1, lineStatus := 0, data := [] }
def sentPacket : SentPacket := { seq := 7, packet := packet }

/-- A state in which tile T(15,15) has one word in the memory of its FG context, which is `x` otherwise. -/
def tileWith (w : Nat) (x : Ctx) : State := up.modCtx 255 0 fun _ => { x with mem := [BitVec.ofNat 32 w] }

/-- The tile issues the word next: every field of Issues. -/
def issues (a : State) (t i c w : Nat) : Bool :=
  decide (a.issuer t = some (i, c)) && decide (((a.ctx t i).mem.getD (a.ctx t i).pc 0).toNat = w) && !illegal w &&
    decide (((operandsOf w).find? fun o => isEdge o && (a.edgeFor t i o).isNone) = none)

/-- An image of one section: one NOP for T(0,0). -/
def image : List Byte :=
  let b := ([0x4D495943, 0x10001, 80, 0, 7, 0, 0, 0, 0, 0, 0, 0, 0, 0, 0, 0, 0x100, 0, 0] : List Nat).flatMap (leBytes 4)
  b ++ leBytes 4 (crc32 b)

theorem witness_PortWritesComplete : ([
    holds (host) fun a => takenWr a { path := .pcie, index := 0x2010, sub := 7, data := [0, 0], aligned := true, poisoned := false, form := .slot },
    holds (host.setObj Obj.highWrite 5) fun a => let w : Wr := { path := .pcie, index := 0x3400, sub := 14, data := leBytes 4 64, aligned := true, poisoned := false, form := .slot }; takenWr a w && decide ((rowOf w.key).map (fun x => x.ty.size) = some 8),
    holds ({ up with session := { owner := 3, due := 10, batch := some [wrOf .sideband Obj.shmooOffset 2 0] } }) fun a => let w := wrOf .sideband Obj.batchCmd 1 2; let t : State := { a with session := { a.session with batch := none } }; let ws := a.session.batch.getD []; a.pathUp .sideband && decide (a.port.held = []) && decide (a.portRefuses w = none) && decide (a.batchFor w = none) && !a.needsCore [w] && decide (a.session.batch = some ws) && decide (t.groupFails (t.groupTentative ws) ws = none),
    holds ({ host.setObj Obj.domainSelect (0x2010 + 7 * 65536) with staging := [0, 0] }) fun a => let c := wrOf .pcie Obj.domainCommit 4 2; decide (a.portRefuses c = none) && takenWr a (a.commitTarget c),
    holds ({ up with port := { held := [wrOf .sideband (Obj.wqHigh 0) 1 (up.obj (Obj.wqHigh 0))], queue := [[wrOf .sideband Obj.shmooOffset 2 0]] } }) fun a => let w := wrOf .sideband (Obj.wqHigh 0) 1 (up.obj (Obj.wqHigh 0)); let t := { a.advanceTo (a.now + 200 * usTicks) with port := { a.port with held := [] } }; a.awake && a.mgUp && decide (a.port.held = [w]) && !w.commits && match t.spelled w with | some (r, v) => decide (t.lateCheck (t.tentative r w.key v w.data) w.path r w.key v = none) | none => false] : List Bool).all id = true := by decide +kernel

theorem witness_ReadsAndSessionComplete : ([
    holds (host.setObj Obj.tsLastStep (2 ^ 40)) fun a => match a.look .pcie (Obj.decodeAddress / 256) (Obj.decodeAddress % 256) with | .found r => a.canRead .pcie && decide (r.ty.size = 8) && !r.bytes && decide (r.acc ≠ .wo) | .gone _ => false,
    holds ((host.setObj Obj.domainSelect (0x4868 + 5 * 65536)).setObj Obj.domainOffset 8) fun a => match a.look .pcie 0x4868 5 with | .found _ => a.canRead .pcie && decide (a.obj Obj.domainSelect = 0x4868 + 5 * 65536) | .gone _ => false,
    holds (host) fun a => a.canRead .pcie && (a.readRefused .pcie 0xFFFF 0 4 true).isSome && a.canRead .sideband && (a.readRefused .sideband 0x2101 0xFF 2 true).isSome,
    holds (host) fun a => a.canRead .pcie && decide (a.readRefused .pcie 0x2010 7 4 true = none) && match a.look .pcie 0x2010 7 with | .found _ => true | .gone _ => false,
    holds ({ host with port := { held := [wrOf .pcie Obj.shmooOffset 2 0] } }) fun a => a.pathUp .pcie && a.pcieWaits,
    holds (up) fun a => a.awake && decide (a.session.owner ≠ 0),
    holds (up) fun a => decide (a.session.owner = pathCode .sideband)] : List Bool).all id = true := by decide +kernel

theorem witness_RefusedWriteChangesNothingElse : ([
    holds (host) fun a => let w : Wr := { path := .pcie, index := 0x2010, sub := 7, data := [0], aligned := true, poisoned := false, form := .slot }; a.pathUp .pcie && decide (a.sidebandMute w = false) && decide (a.port.held = []) && decide (a.portRefuses w = some 5),
    holds (host) fun a => let w : Wr := { path := .pcie, index := 0x2010, sub := 7, data := [0, 0], aligned := true, poisoned := true, form := .slot }; a.pathUp .pcie && decide (a.sidebandMute w = false) && decide (a.port.held = []) && decide (a.portRefuses w = some 0xD)] : List Bool).all id = true := by decide +kernel

theorem witness_ClockEventsComplete : ([
    holds (up) fun a => a.awake && !a.shadows.any fun h => h.key == Obj.tsMode,
    holds ({ up with shadows := [{ key := Obj.tsMode, acting := 0, actingBytes := [], bound := .frame }] }) fun a => a.awake && a.shadows.any fun h => h.key == Obj.tsMode,
    holds (up) fun a => a.awake,
    holds (running 3) fun a => a.awake && a.chanRuns 3,
    holds ({ up with clk := { waiting := some 3 } }) fun a => let t : State := { a with clk := { a.clk with waiting := none } }; a.awake && decide (a.clk.waiting = some 3) && decide (a.clk.run = none) && decide (t.opFirstFail 3 false = none),
    holds ({ up.setObj Obj.shmooOffset 1 with clk := { waiting := some 2 } }) fun a => let t : State := { a with clk := { a.clk with waiting := none } }; a.awake && decide (a.clk.waiting = some 2) && decide (a.clk.run = none) && (t.opFirstFail 2 false).isSome,
    holds ({ up with clk := { run := some { target := 2, step := 4 } } }) fun a => a.awake && decide (a.clk.run.map (fun r => r.step) = some 4),
    holds ({ up with clk := { run := some { target := 2, step := 3 } } }) fun a => a.awake && decide (a.clk.run.map (fun r => r.step) = some 3),
    holds ({ up with clk := { run := some { target := 2, step := 5 } } }) fun a => a.awake && decide (a.clk.run.map (fun r => r.step) = some 5),
    holds (up.setObj Obj.shmooOffset 1) fun a => a.awake && decide (a.shmooActual ≠ a.shmooTarget) && !a.bit Obj.clockStatus 4] : List Bool).all id = true := by decide +kernel

theorem witness_ClockFailureAndRecovery : ([
    holds ({ up with clk := { run := some { target := 2, step := 4 } } }) fun a => a.awake && !a.bit Obj.live 50 && decide (a.clk.run.map (fun r => r.step) = some 4),
    holds (up.setBit Obj.live 50 true) fun a => a.awake && a.bit Obj.live 50] : List Bool).all id = true := by decide +kernel

theorem witness_TimestampEventsComplete : ([
    holds ({ up.setObj Obj.tsMode 1 with clk := { armed := true } }) fun a => a.awake && a.clk.armed && decide (a.obj Obj.tsMode = 1),
    holds (up.setBit Obj.tsStatus 0 true) fun a => a.awake && a.bit Obj.tsStatus 0,
    holds (up.setBit Obj.tsStatus 0 true) fun a => let t := a.setObj Obj.ectDcValid 0; a.awake && t.bit Obj.tsStatus 0 && a.bit Obj.tsStatus 0 && decide (a.obj Obj.tsUnlockWindow < (-1000000 : Int).natAbs)] : List Bool).all id = true := by decide +kernel

theorem witness_LinkEventsComplete : ([
    holds (up.modSp 15 fun x => { x with trainFrom := some 0 }) fun a => a.awake && decide ((a.sp 15).trainFrom = some 0) && a.bit Obj.clockStatus 1 && !a.bit Obj.live 50,
    holds (up.modSp 0 fun x => { x with trainFrom := some 5 }) fun a => decide ((a.sp 0).trainFrom = some 5),
    holds (((up.modSp 0 fun x => { x with retryAt := some 5 }).setObj (Obj.portEnable 0) 1).setObj (Obj.linkState 0) 3) fun a => decide ((a.sp 0).retryAt = some 5) && decide (a.obj Obj.autoRetrain = 1) && decide (a.obj (Obj.portEnable 0) = 1) && decide (a.obj (Obj.linkState 0) = 3),
    holds (linked 15) fun a => a.linkActive 15,
    holds (linked 0) fun a => a.linkActive 0,
    holds ((linked 1).modSp 1 fun x => { x with unacked := [sentPacket] }) fun a => let t := a.modSp 1 fun x => { x with unacked := dropAcked 6 x.unacked }; a.linkActive 1 && decide ((t.sp 1).unacked ≠ []) && (t.sp 1).unacked.all fun u => u.waiting || decide (u.replays < 4),
    holds ((linked 1).modSp 1 fun x => { x with ackOwed := 1 }) fun a => decide (0 < (a.sp 1).ackOwed),
    holds ((linked 1).modSp 1 fun x => { x with unacked := [sentPacket] }) fun a => a.linkActive 1 && match (a.sp 1).unacked.find? (fun u => !u.waiting) with | some u => ((a.advanceTo (u.sentAt + 4 * usTicks)).sp 1).unacked.all fun x => x.waiting || decide (x.replays < 4) | none => false,
    holds ((linked 1).modSp 1 fun x => { x with txq := [packet] }) fun a => a.linkActive 1 && decide ((a.sp 1).unacked.find? (fun u => u.waiting) = none) && decide ((a.sp 1).unacked.length < 256) && (let t := a.advanceTo (a.sp 1).busyUntil; decide (t.nextResponse 1 = some packet) && t.laneRoom 1 packet),
    holds ((linked 1).modSp 1 fun x => { x with unacked := [{ sentPacket with waiting := true }] }) fun a => a.linkActive 1 && match (a.sp 1).unacked.find? (fun u => u.waiting) with | some u => (let t := a.advanceTo (a.sp 1).busyUntil; !(t.nextResponse 1).any Packet.after && t.laneRoom 1 u.packet) | none => false,
    holds (linked 1) fun a => let t := a.requestWakes.rxControls 1 ([0x87] : List Nat); !a.ingressClosed && a.requestWakes.linkActive 1 && decide ((t.sp 1).rxSeq < 4096)] : List Bool).all id = true := by decide +kernel

theorem witness_StreamDeadlinesComplete : ([
    holds ({ linked 1 with reqs := [{ serial := 3, rq := 16, kind := .read, lockstep := true, stage := .lines, status := [none], depart := 9 }] }) fun a => match a.nextDeparture 1 with | some r => let d := (a.advanceCyc r.depart).slotArrivals; decide (r.stage ≠ .fabric) && ((d.each (d.ents.filter fun e => e.req == r.serial) fun e y => if e.first.isSome then y.bump (y.lateCause e) else (y.bump (y.lateCause e)).dropEnt e.serial).req? r.serial).isSome | none => false,
    holds ({ up with reqs := [{ serial := 3, rq := 255, kind := .read, due := some 7 }] }) fun a => a.awake && (a.nextWatchdog 255).isSome] : List Bool).all id = true := by decide +kernel

theorem witness_StreamRequestsAreTaken : ([
    holds (({ linked 15 with credits := [(255, 1)] }).setObj (Obj.clientEnable 255) 1) fun a => let t := (a.requestWakes.modSp 15 fun x => { x with rxSeq := (x.rxSeq + 1) % 4096, discarding := false }).oweAck 15; a.awake && !a.ingressClosed && a.requestWakes.linkActive 15 && !(a.requestWakes.sp 15).discarding && decide (0 < t.credit 255) && t.clientServed 255 && (!(t.outstanding 255).any fun r => r.tag == 255) && decide ((t.outstanding 255).length < 64)] : List Bool).all id = true := by decide +kernel

theorem witness_RequestPathEventsComplete : ([
    holds ({ running 0 with mapped := true, reqs := [{ serial := 1, rq := 255, kind := .read }] }) fun a => match (a.atStage 255 .regulator).head? with | some r => a.clocked && a.tokensFor r && a.roomFor r | none => false,
    holds ({ running 0 with mapped := true, reqs := [{ serial := 1, rq := 0, kind := .read, stage := .crossbar }] }) fun a => ((a.atStage 0 .crossbar).find? fun x => x.kind != .fence && !a.heldAtCrossbar x && !a.lineBehind x).isSome,
    holds ({ running 0 with mapped := true, ents := [{ serial := 1, req := 1, rq := 0, ix := 0, ch := 0, line := 0, isWrite := false }] }) fun a => let x := (a.advanceCyc (max a.cyc (a.chan 0).grantAt)).slotArrivals; let y := x.advanceCyc (max x.cyc (x.chan 0).grantAt); let t := y.takeFree 0 y.cyc; t.chanGrants 0 && decide (t.ownerAt 0 t.cyc = ownFree) && !((t.chan 0).sub (t.wheelPos % 2)).took.contains t.cyc && match t.arbitrate 0 (t.wheelPos % 2) with | some rq => (t.headLine 0 rq).isSome | none => false,
    holds (running 3) fun a => let x := (a.advanceCyc (max a.cyc (a.chan 3).grantAt)).slotArrivals; let y := x.advanceCyc (max x.cyc (x.chan 3).grantAt); let t := y.takeFree 3 y.cyc; t.chanGrants 3 && decide (t.ownerAt 3 t.cyc = ownFree) && !((t.chan 3).sub (t.wheelPos % 2)).took.contains t.cyc && decide (t.arbitrate 3 (t.wheelPos % 2) = none) && decide (t.obj (Obj.fillState 3) ≠ 1),
    holds (((running 2).setBit Obj.channelsReady 2 false).setObj (Obj.fillState 2) 1) fun a => let x := (a.advanceCyc (max a.cyc (a.chan 2).grantAt)).slotArrivals; let y := x.advanceCyc (max x.cyc (x.chan 2).grantAt); let t := y.takeFree 2 y.cyc; t.chanGrants 2 && decide (t.ownerAt 2 t.cyc = ownFree) && !((t.chan 2).sub (t.wheelPos % 2)).took.contains t.cyc && decide (t.arbitrate 2 (t.wheelPos % 2) = none) && decide (t.obj (Obj.fillState 2) = 1) && !t.released 2 && decide ((t.chan 2).fillNext % 2 = t.wheelPos % 2) && decide (64 * (t.chan 2).fillNext < t.capacity 2) && decide ((t.queue 2 (t.wheelPos % 2) .writeQ).length < 64),
    holds ((running 1).modSub 1 0 fun x => { x with took := [0] }) fun a => let x := (a.advanceCyc (max a.cyc (a.chan 1).grantAt)).slotArrivals; let y := x.advanceCyc (max x.cyc (x.chan 1).grantAt); let t := y.takeFree 1 y.cyc; t.chanGrants 1 && decide (t.ownerAt 1 t.cyc = ownFree) && ((t.chan 1).sub (t.wheelPos % 2)).took.contains t.cyc,
    holds (running 0) fun a => a.clocked && decide (a.quotaFirst 0 289 ≤ a.cyc),
    holds ((running 0).quotaFrom 289 5) fun a => decide (a.cyc < a.quotaFirst 0 289),
    holds ({ (running 0).modChan 0 fun c => { c with fsWait := some 0 } with ents := [{ serial := 1, req := 1, rq := rqFs, ix := 0, ch := 0, line := 0, isWrite := false }] }) fun a => decide (((a.noteFs 0).chan 0).fsWait ≠ none) && !(a.chan 0).guardFired,
    holds ({ up with reqs := [{ serial := 1, rq := 255, kind := .write, openData := true }] }) fun a => a.clocked && (a.reqs.find? fun x => x.rq == 255 && x.openData).isSome,
    holds (up) fun a => a.clocked,
    holds ({ (up.modChan 1 fun c => { c with pathHolder := some 9 }) with ents := [{ serial := 9, req := 1, rq := 0, ix := 0, ch := 1, line := 0, isWrite := true, isOpen := true, stage := .writeQ }] }) fun a => decide ((a.chan 1).pathHolder = some 9) && (a.ents.find? fun e => e.serial == 9).isSome,
    holds ({ up with locks := [{ holder := 0, start := 0, range := 1, lease := 1000, since := 0 }] }) fun a => a.clocked && (a.locks.find? fun l => l.start == 0).isSome,
    holds ({ up with locks := [{ holder := 255, start := 4, range := 1, lease := 1, since := 0 }], reqs := [{ serial := 1, rq := 255, kind := .unlock, addr := 256, stage := .lines }] }) fun a => match a.locks.find? (fun l => l.start == 4) with | some l => let t := a.advanceTo (a.now + (l.since + 800 * l.lease - a.ts) * 9); (t.reqs.find? fun r => r.rq == l.holder && t.unlockReady r && r.addr / 64 == l.start).isSome | none => false,
    holds ({ running 0 with mapped := true, locks := [{ holder := 255, start := 4, range := 1, lease := 1, since := 0 }], reqs := [{ serial := 1, rq := 255, kind := .lock, addr := 256, range := 1, lease := 5, stage := .crossbar }] }) fun a => match a.locks.find? (fun l => l.start == 4) with | some l => let t := a.advanceTo (a.now + (l.since + 800 * l.lease - a.ts) * 9); (t.reqs.find? fun r => r.rq == l.holder && r.kind == .lock && r.stage == .crossbar && t.renews r && r.addr / 64 == l.start && !t.heldAtCrossbar r).isSome && !(t.reqs.find? fun r => r.rq == l.holder && t.unlockReady r && r.addr / 64 == l.start).isSome | none => false,
    holds ({ up with locks := [{ holder := 255, start := 4, range := 1, lease := 1, since := 0 }], reqs := [{ serial := 1, rq := 255, kind := .unlock, addr := 256, stage := .lines }] }) fun a => match a.reqs.find? (fun x => x.rq == 255 && a.unlockReady x) with | some r => (a.locks.find? fun x => x.holder == r.rq && x.start == r.addr / 64).isSome | none => false,
    holds ({ up with reqs := [{ serial := 1, rq := 0, kind := .fence, stage := .crossbar }] }) fun a => (a.reqs.find? fun x => x.rq == 0 && a.fenceReady x).isSome] : List Bool).all id = true := by decide +kernel

theorem witness_SchedulerEventsComplete : ([
    holds ({ running 0 with ents := [{ serial := 4, req := 1, rq := 0, ix := 0, ch := 0, line := 0, isWrite := false, stage := .readQ }] }) fun a => let h := max (2 * a.cyc) (a.chan 0).cmdA; a.awake && a.chanRuns 0 && ((List.range 8).foldl (fun (p : State × Bool) n => if p.2 then p else p.1.trySlot 0 0 (h + n)) (a, false)).2,
    holds ({ running 0 with ents := [{ serial := 4, req := 1, rq := 0, ix := 0, ch := 0, line := 0, isWrite := false, got := zeros 64, check := List.replicate 16 0xFF#8, stage := .issued }] }) fun a => match a.inFlight 0 0 with | some e => !e.reread && !(a.advanceCyc (e.issued + readData (a.obj Obj.opCurrent))).isPeek e && decide (e.stage = .issued) && decide (failMask (xorBytes e.got ((([] : List Byte) ++ zeros 80).take 80)) (xorBytes e.check ((([] : List Byte) ++ zeros 80).take 80 |>.drop 64)) = 0) | none => false,
    holds ({ running 0 with ents := [{ serial := 4, req := 1, rq := 0, ix := 0, ch := 0, line := 0, isWrite := false, got := zeros 64, check := List.replicate 16 0xFF#8, stage := .issued }] }) fun a => match a.inFlight 0 0 with | some e => let n : List Byte := [1]; !e.reread && decide (e.stage = .issued) && decide (failMask (xorBytes e.got ((n ++ zeros 80).take 80)) (xorBytes e.check (((n ++ zeros 80).take 80).drop 64)) ≠ 0) | none => false,
    holds ({ running 0 with ents := [{ serial := 4, req := 1, rq := 0, ix := 0, ch := 0, line := 0, isWrite := false, got := zeros 64, check := zeros 16, first := some (zeros 64, zeros 16), firstMask := 3, stage := .replayed }] }) fun a => match a.inFlight 0 0 with | some e => !e.reread && !a.isPeek e && decide (e.stage ≠ .issued) && decide (e.pos = 0) && e.first.isSome | none => false,
    holds ((running 3).modSub 3 1 fun x => { x with rows := [(127, some (5, 0))] }) fun a => decide ((((a.chan 3).sub 1).rowOf 127) = some (5, 0)),
    holds (({ running 0 with ents := [{ serial := 4, req := 1, rq := 0, ix := 0, ch := 0, line := 0, isWrite := false, stage := .readQ }] }).modSub 0 0 fun x => { x with drain := true }) fun a => a.clocked && (a.queue 0 0 .readQ).head?.isSome && ((a.chan 0).sub 0).drain,
    holds ({ running 0 with ents := [{ serial := 4, req := 1, rq := 0, ix := 0, ch := 0, line := 0, isWrite := false, watch := some 0, stage := .readQ }] }) fun a => a.clocked && a.chanRuns 0 && (a.firstWatched 0).isSome] : List Bool).all id = true := by decide +kernel

theorem witness_RefreshEventsComplete : ([
    holds ((running 3).modChan 3 fun c => { c with dimms := [{ ranks := 2 }, { ranks := 2 }] }) fun a => a.awake && a.chanRuns 3 && decide (3 < rankCount (a.chan 3).dimms),
    holds (running 0) fun a => a.awake && a.chanRuns 0 && decide (0 < rankCount (a.chan 0).dimms),
    holds (running 0) fun a => let x := (a.chan 0).rank 0 0; !bitOf x.overdue 3 && decide (a.obj (Obj.refMode 0) ≠ 0) && !bitOf x.overdue 0,
    holds ((running 0).setBit (Obj.nrStatus 0) 0 true) fun a => a.awake && (a.chan 0).accepted && a.bit (Obj.nrStatus 0) 0,
    holds ((running 0).setBit (Obj.nrStatus 0) 0 false) fun a => a.awake && (a.chan 0).accepted && !a.bit (Obj.nrStatus 0) 0] : List Bool).all id = true := by decide +kernel

set_option maxRecDepth 20000 in
/-- The clause of the channel that resumes with a stored set. -/
theorem witness_TrainingEventsComplete_resume : (holds (running 0 |>.modChan 0 fun c => { c with resuming := true, keptOffsets := true, sets := [{}, {}, {}, { valid := true, bytes := setBytes [{}] 3 0 0 0 0 [] }] }) fun a => let b : List Byte := []; let c := (b ++ zeros 768).take 768; let t := a.modChan 0 (fun c => { c with keptOffsets := true }); a.awake && (a.chan 0).resuming && (a.chan 0).keptOffsets && decide ((t.chan 0).opsLeft = []) && t.resumes? 0 && (((t.bump (Obj.resumes 0)).setObj (Obj.lastWay 0) 1).exitSelfRefresh 0).checkPasses 0 c) = true := by decide +kernel

theorem witness_TrainingEventsComplete : ([
    holds ((running 0).modChan 0 fun c => { c with train := some { ops := [3], running := false, times := List.replicate 10 0 } }) fun a => a.awake && a.queuesEmpty 0 && match (a.chan 0).train with | some x => !x.running && decide (x.ops.headD 3 = a.obj Obj.opCurrent) && (x.command || decide (a.trainTarget = a.obj Obj.opCurrent)) | none => false,
    holds ((running 0).modChan 0 fun c => { c with train := some { ops := [3], running := true, times := List.replicate 10 100 } }) fun a => a.awake && decide (a.marginFault 0 0xFFFFFFFF 0 = none) && match (a.chan 0).train with | some x => x.running && x.full && (x.stepStart (a.chan 0).dimms 11).isSome | none => false,
    holds ((running 0).modChan 0 fun c => { c with train := some { ops := [3], running := true, times := List.replicate 10 100 } }) fun a => a.awake && match (a.chan 0).train, a.trainingWord 0 none 0 0 0 with | some x, some w => x.running && (match x.stepStart (a.chan 0).dimms (fld 0 4 w + 1) with | some us => decide (a.now ≤ x.started + us * usTicks) | none => false) | _, _ => false,
    holds ((running 0).modChan 0 fun c => { c with train := some { ops := [3], running := true, times := List.replicate 10 10001 } }) fun a => a.awake && match (a.chan 0).train with | some x => x.running && (x.overruns (a.chan 0).dimms).isSome | none => false,
    holds (running 0 |>.modChan 0 fun c => { c with resuming := true, keptOffsets := true, opsLeft := [2] }) fun a => let t := a.modChan 0 (fun c => { c with keptOffsets := true }); a.awake && (a.chan 0).resuming && (a.chan 0).keptOffsets && decide ((t.chan 0).opsLeft ≠ []),
    holds (running 0 |>.modChan 0 fun c => { c with resuming := true, keptOffsets := true }) fun a => let t := a.modChan 0 (fun c => { c with keptOffsets := true }); a.awake && (a.chan 0).resuming && (a.chan 0).keptOffsets && decide ((t.chan 0).opsLeft = []) && !t.resumes? 0,
    holds ((running 0).modChan 0 fun c => { c with readAt := [(1, 5)], oscAt := [(0, 5)] }) fun a => a.awake && a.tracks 0 && a.chanRuns 0 && decide (0 < rankCount (a.chan 0).dimms) && (a.laneDue 0 1 89 (96 * (2 * ((rankNos (a.chan 0).dimms).getD 0 0) + 1) + (tracked 89).headD 89)).isSome && (a.laneDue 0 0 0 (96 * (2 * ((rankNos (a.chan 0).dimms).getD 0 0)) + (tracked 0).headD 0)).isSome,
    holds (running 0) fun a => a.awake && a.released 0 && decide (a.act (Obj.trackEnable 0) = 1) && decide (0 < rankCount (a.chan 0).dimms) && !bitOf (a.causesOf 1) 1] : List Bool).all id = true := by decide +kernel

theorem witness_StoreCareEventsComplete : ([
    holds ({ running 0 with ents := [{ serial := 4, req := 1, rq := 0, ix := 0, ch := 0, line := 0, isWrite := true, stage := .retry, attempts := 2, windowEnd := 9 }] }) fun a => a.clocked && decide ((a.openWindows 0 0).length = 1) && (a.openWindows 0 0).all fun e => decide (e.attempts < 3),
    holds ({ running 0 with ents := [{ serial := 4, req := 1, rq := 0, ix := 0, ch := 0, line := 0, isWrite := true, stage := .retry, attempts := 3, windowEnd := 9 }] }) fun a => a.clocked && match a.openWindows 0 0 with | [e] => decide (3 ≤ e.attempts) | _ => false,
    holds ({ running 0 with ents := [{ serial := 4, req := 1, rq := 0, ix := 0, ch := 0, line := 0, isWrite := true, stage := .retry, attempts := 1, windowEnd := 9 }] }) fun a => a.clocked && (a.firstWindow 0 0).isSome,
    holds ((running 1).setObj (Obj.fillState 1) 1) fun a => decide (a.obj (Obj.fillState 1) = 1) && a.chanRuns 1 && decide ((a.chan 1).train = none) && !(a.chan 1).resuming,
    holds ((running 1).setObj (Obj.scrubEnable 1) 1) fun a => !a.ingressClosed && decide (a.obj (Obj.scrubEnable 1) = 1) && a.released 1 && a.chanRuns 1,
    holds ((running 1).setObj (Obj.scrubEnable 1) 1) fun a => a.clocked && decide (a.obj (Obj.scrubEnable 1) = 1) && a.released 1] : List Bool).all id = true := by decide +kernel

theorem witness_SequencerInstructionsComplete : ([
    holds ((up.setObj (Obj.pbState 0) pbIdle).modPb 0 fun x => { x with queue := [2 * 2 ^ 62 + 4 * 2 ^ 56] }) fun a => a.burstReady 0,
    holds ((up.setObj (Obj.pbState 1) pbRunning).modPb 1 fun x => { x with queue := [(27 + 2 ^ 48)] }) fun a => let w := (27 + 2 ^ 48); let p := a.seqTake 1 (fld 40 8 w); let cs := (p.1.sitesOf 1 (fld 48 8 w)).map (fun i => guardCmd (caClass (fld 0 14 w) (bitOf (p.1.pb 1).lowPower i)) i (fld 0 14 w) p.2); a.awake && decide (a.seqHead 1 = some (.command, w)) && decide ((p.1.guard 1 cs p.2 (bitOf w 58)).2 ≠ none),
    holds (((((up.setObj (Obj.pbState 1) pbRunning).setObj (Obj.siteConfig 1 0) 1).setObj (Obj.guardMode 1) 2).putDom (Obj.guardRules 1) (leBytes 8 (0xFFFFFFFF + 2 ^ 34 + 0xFFFF * 2 ^ 40))).modPb 1 fun x => { x with queue := [27 + 2 ^ 48], hist := [guardCmd 2 0 27 1] }) fun a => let w := (27 + 2 ^ 48); let p := a.seqTake 1 (fld 40 8 w); let cs := (p.1.sitesOf 1 (fld 48 8 w)).map (fun i => guardCmd (caClass (fld 0 14 w) (bitOf (p.1.pb 1).lowPower i)) i (fld 0 14 w) p.2); a.awake && decide (a.seqHead 1 = some (.command, w)) && decide ((p.1.guard 1 cs p.2 (bitOf w 58)).2 = none),
    holds ((up.setObj (Obj.pbState 1) pbRunning).modPb 1 fun x => { x with queue := [2 ^ 62 + 0xFFFFFFFF] }) fun a => a.awake && decide (a.part = .ft4216) && decide (a.seqHead 1 = some (.wait, 2 ^ 62 + 0xFFFFFFFF)),
    holds ((up.setObj (Obj.pbState 1) pbRunning).modPb 1 fun x => { x with queue := [2 ^ 63 + 2 ^ 56] }) fun a => a.awake && decide (a.part = .ft4216) && decide (a.seqHead 1 = some (.resetAssert, 2 ^ 63 + 2 ^ 56)),
    holds ((up.setObj (Obj.pbState 1) pbRunning).modPb 1 fun x => { x with queue := [2 ^ 63 + 2 * 2 ^ 56] }) fun a => a.awake && decide (a.part = .ft4216) && decide (a.seqHead 1 = some (.resetRelease, 2 ^ 63 + 2 * 2 ^ 56)),
    holds ((up.setObj (Obj.pbState 1) pbRunning).modPb 1 fun x => { x with queue := [2 ^ 63 + 3 * 2 ^ 56] }) fun a => a.awake && decide (a.part = .ft4216) && decide (a.seqHead 1 = some (.mark, 2 ^ 63 + 3 * 2 ^ 56)),
    holds ((up.setObj (Obj.pbState 1) pbRunning).modPb 1 fun x => { x with queue := [2 ^ 63 + 4 * 2 ^ 56] }) fun a => a.awake && decide (a.part = .ft4216) && decide (a.seqHead 1 = some (.fin, 2 ^ 63 + 4 * 2 ^ 56)),
    holds ((up.setObj (Obj.pbState 1) pbRunning).modPb 1 fun x => { x with queue := [2 ^ 63 + 5 * 2 ^ 56] }) fun a => a.awake && decide (a.part = .ft4216) && decide (a.seqHead 1 = some (.ckStop, 2 ^ 63 + 5 * 2 ^ 56)),
    holds ((up.setObj (Obj.pbState 1) pbRunning).modPb 1 fun x => { x with queue := [2 ^ 63 + 6 * 2 ^ 56] }) fun a => a.awake && decide (a.part = .ft4216) && decide (a.seqHead 1 = some (.ckStart, 2 ^ 63 + 6 * 2 ^ 56)),
    holds (up.setObj (Obj.pbState 1) pbRunning) fun a => a.pbIs 1 pbRunning && decide ((a.pb 1).cal = none) && decide ((a.pb 1).mr = none) && decide ((a.pb 1).queue = []) && !((a.advanceCyc (((a.pb 1).last + 1) / a.pbMult 1 - pbPipe + 1)).pb 1).late] : List Bool).all id = true := by decide +kernel

theorem witness_SupplyEventsComplete : ([
    holds (up.setObj (Obj.powerState 0) psUp) fun a => a.awake && decide (a.part = .ft4216) && a.powerIs 0 psUp,
    holds (up.setObj (Obj.powerState 0) psDown) fun a => a.powerIs 0 psDown,
    holds (up.setObj (Obj.powerState 1) psDischarge) fun a => a.powerIs 1 psDischarge,
    holds (up) fun a => a.awake && decide (a.part = .ft4216),
    holds (up.setObj (Obj.powerState 1) psGood) fun a => a.supplyOn 1 && a.supplyFaultDue 1 2 2 true && !bitOf (a.causesOf (supplyLine 1)) 10,
    holds ((up.setObj (Obj.powerState 1) psGood).modSupply 1 0 fun x => { x with openFor := 10 }) fun a => a.supplyOn 1 && a.supplyFaultDue 1 0 3 false && !bitOf (a.causesOf (supplyLine 1)) 3,
    holds (up.modPb 0 fun x => { x with mr := some 2 }) fun a => decide ((a.pb 0).mr = some 2)] : List Bool).all id = true := by decide +kernel

theorem witness_DutPowerUpCompletes : ([
    holds (up) fun a => a.powerIs 0 psOff && takenWr a (wrOf .sideband (Obj.dutPower 0) 1 1) && decide ((rowOf (Obj.dutPower 0)).map (fun x => x.ty.size) = some 1)] : List Bool).all id = true := by decide +kernel

theorem witness_CompareEventsComplete : ([
    holds (up.modPb 0 fun x => { x with cal := some (true, true) }) fun a => a.awake && decide (a.part = .ft4216) && decide ((a.pb 0).cal = some (true, true)),
    holds (up.modPb 0 fun x => { x with cal := some (false, true) }) fun a => decide ((a.pb 0).cal = some (false, true)),
    holds (up.setObj (Obj.pbState 0) pbIdle) fun a => a.pbOn 0 && !(a.advanceTo (a.pb 0).replicaAt).bit (Obj.calStatus 0) 0,
    holds ((up.setObj (Obj.pbState 0) pbIdle).modPb 0 fun x => { x with calOwed := true }) fun a => decide (a.calWanted 0 = some true),
    holds (up) fun a => decide ((a.pb 0).expAt ≠ a.cyc ∨ a.cyc = 0),
    holds (up.modPb 0 fun x => { x with due := [{ sites := 129 }] }) fun a => decide ((a.pb 0).due ≠ []),
    holds (up.modPb 1 fun x => { x with cap := [(7, [[5, 6]])] }) fun a => decide (0 < a.edgeSpace (capPort 1 7)) && decide (a.capPartOf 1 7 = []) && decide (a.capOf 1 7 = [[5, 6]]),
    holds (up.modPb 1 fun x => { x with capPart := [(0, [6])] }) fun a => decide (0 < a.edgeSpace (capPort 1 0)) && decide (a.capPartOf 1 0 = [6]),
    holds (up.modPb 1 fun x => { x with failHigh := true }) fun a => (a.pb 1).failHigh && decide (a.obj (Obj.failMode 1) = 0),
    holds ({ up.setObj (Obj.pbState 1) pbIdle with edgeOut := [(48, [{ data := 1, ready := 3 }]), (49, [{ data := 1 }])] }) fun a => match a.edgeOutQ 48, a.edgeOutQ 49 with | h :: _, l :: _ => let t := a.advanceCyc (max (max h.ready l.ready) (a.pb 1).pairAt); a.clocked && t.pbOn 1 && decide ((t.pb 1).queue.length < 64) | _, _ => false,
    holds ({ up with edgeOut := [(32, [{ data := 1 }]), (33, [{ data := 1 }])] }) fun a => match a.edgeOutQ 32, a.edgeOutQ 33 with | h :: _, l :: _ => let t := a.advanceCyc (max (max h.ready l.ready) (a.pb 0).pairAt); a.clocked && !t.pbOn 0 | _, _ => false] : List Bool).all id = true := by decide +kernel

theorem witness_TwoOperandInstructions : ([
    holds (tileWith (19 * 2 ^ 26 + 1 * 2 ^ 21 + 2 * 2 ^ 16 + 3 * 2 ^ 11) { run := 1 }) fun a => a.clocked && issues a 255 0 a.cyc (19 * 2 ^ 26 + 1 * 2 ^ 21 + 2 * 2 ^ 16 + 3 * 2 ^ 11) && decide (iOp (19 * 2 ^ 26 + 1 * 2 ^ 21 + 2 * 2 ^ 16 + 3 * 2 ^ 11) = 19),
    holds (tileWith (1 * 2 ^ 26 + 0 * 2 ^ 21 + 0 * 2 ^ 16 + 15 * 2 ^ 11) { run := 1 }) fun a => a.clocked && issues a 255 0 a.cyc (1 * 2 ^ 26 + 0 * 2 ^ 21 + 0 * 2 ^ 16 + 15 * 2 ^ 11) && decide (iOp (1 * 2 ^ 26 + 0 * 2 ^ 21 + 0 * 2 ^ 16 + 15 * 2 ^ 11) = 1)] : List Bool).all id = true := by decide +kernel

theorem witness_OneOperandInstructions : ([
    holds (tileWith (0x28 * 2 ^ 26 + 15 * 2 ^ 21 + 2 * 2 ^ 16 + 0xFFFF) { run := 1 }) fun a => a.clocked && issues a 255 0 a.cyc (0x28 * 2 ^ 26 + 15 * 2 ^ 21 + 2 * 2 ^ 16 + 0xFFFF) && decide (iOp (0x28 * 2 ^ 26 + 15 * 2 ^ 21 + 2 * 2 ^ 16 + 0xFFFF) = 40)] : List Bool).all id = true := by decide +kernel

theorem witness_RegisterInstructionsChangeOneRegister : ([
    holds (tileWith (1 * 2 ^ 26 + 15 * 2 ^ 21 + 0 * 2 ^ 16 + 15 * 2 ^ 11) { run := 1 }) fun a => a.clocked && issues a 255 0 a.cyc (1 * 2 ^ 26 + 15 * 2 ^ 21 + 0 * 2 ^ 16 + 15 * 2 ^ 11) && decide (iOp (1 * 2 ^ 26 + 15 * 2 ^ 21 + 0 * 2 ^ 16 + 15 * 2 ^ 11) = 1) && decide (iA (1 * 2 ^ 26 + 15 * 2 ^ 21 + 0 * 2 ^ 16 + 15 * 2 ^ 11) < 16 ∧ iB (1 * 2 ^ 26 + 15 * 2 ^ 21 + 0 * 2 ^ 16 + 15 * 2 ^ 11) < 16 ∧ iD (1 * 2 ^ 26 + 15 * 2 ^ 21 + 0 * 2 ^ 16 + 15 * 2 ^ 11) < 16 ∧ (a.ctx 255 0).pc ≠ 63)] : List Bool).all id = true := by decide +kernel

theorem witness_OtherInstructionsComplete : ([
    holds (tileWith (0 * 2 ^ 26 + 0) { run := 1 }) fun a => a.clocked && issues a 255 0 a.cyc (0 * 2 ^ 26 + 0) && decide (iOp (0 * 2 ^ 26 + 0) = 0),
    holds (tileWith (39 * 2 ^ 26 + 1 * 2 ^ 21 + 0xFFFF) { run := 1 }) fun a => a.clocked && issues a 255 0 a.cyc (39 * 2 ^ 26 + 1 * 2 ^ 21 + 0xFFFF) && decide (iOp (39 * 2 ^ 26 + 1 * 2 ^ 21 + 0xFFFF) = 39),
    holds (tileWith (56 * 2 ^ 26 + 1 * 2 ^ 21 + 16) { run := 1 }) fun a => a.clocked && issues a 255 0 a.cyc (56 * 2 ^ 26 + 1 * 2 ^ 21 + 16) && decide (iOp (56 * 2 ^ 26 + 1 * 2 ^ 21 + 16) = 56),
    holds (tileWith (48 * 2 ^ 26 + 2 * 2 ^ 16 + 63) { run := 1 }) fun a => a.clocked && issues a 255 0 a.cyc (48 * 2 ^ 26 + 2 * 2 ^ 16 + 63) && decide (iOp (48 * 2 ^ 26 + 2 * 2 ^ 16 + 63) = 48) && !((a.issued 255 a.cyc).readOp 255 0 (iA (48 * 2 ^ 26 + 2 * 2 ^ 16 + 63))).2.poison,
    holds (tileWith (49 * 2 ^ 26 + 2 * 2 ^ 16 + 63) { run := 1 }) fun a => a.clocked && issues a 255 0 a.cyc (49 * 2 ^ 26 + 2 * 2 ^ 16 + 63) && decide (iOp (49 * 2 ^ 26 + 2 * 2 ^ 16 + 63) = 49) && !((a.issued 255 a.cyc).readOp 255 0 (iA (49 * 2 ^ 26 + 2 * 2 ^ 16 + 63))).2.poison,
    holds (tileWith (50 * 2 ^ 26 + 63) { run := 1 }) fun a => a.clocked && issues a 255 0 a.cyc (50 * 2 ^ 26 + 63) && decide (iOp (50 * 2 ^ 26 + 63) = 50),
    holds (tileWith (51 * 2 ^ 26 + 15 * 2 ^ 21 + 63) { run := 1 }) fun a => a.clocked && issues a 255 0 a.cyc (51 * 2 ^ 26 + 15 * 2 ^ 21 + 63) && decide (iOp (51 * 2 ^ 26 + 15 * 2 ^ 21 + 63) = 51) && !bitOf ((a.issued 255 a.cyc).ctx 255 0).poison (iD (51 * 2 ^ 26 + 15 * 2 ^ 21 + 63)),
    holds (tileWith (52 * 2 ^ 26 + 1) { run := 1 }) fun a => a.clocked && issues a 255 0 a.cyc (52 * 2 ^ 26 + 1) && decide (iOp (52 * 2 ^ 26 + 1) = 52),
    holds (tileWith (53 * 2 ^ 26 + 0) { run := 1 }) fun a => a.clocked && issues a 255 0 a.cyc (53 * 2 ^ 26 + 0) && decide (iOp (53 * 2 ^ 26 + 0) = 53),
    holds (tileWith (54 * 2 ^ 26 + 0xFFFF) { run := 1 }) fun a => a.clocked && issues a 255 0 a.cyc (54 * 2 ^ 26 + 0xFFFF) && decide (iOp (54 * 2 ^ 26 + 0xFFFF) = 54),
    holds (tileWith (55 * 2 ^ 26 + 20 * 2 ^ 21 + 2 * 2 ^ 16 + 3) { run := 1 }) fun a => a.clocked && issues a 255 0 a.cyc (55 * 2 ^ 26 + 20 * 2 ^ 21 + 2 * 2 ^ 16 + 3) && decide (iOp (55 * 2 ^ 26 + 20 * 2 ^ 21 + 2 * 2 ^ 16 + 3) = 55),
    holds (tileWith (57 * 2 ^ 26 + 23 * 2 ^ 21 + 0xFFFF) { run := 1 }) fun a => a.clocked && issues a 255 0 a.cyc (57 * 2 ^ 26 + 23 * 2 ^ 21 + 0xFFFF) && decide (iOp (57 * 2 ^ 26 + 23 * 2 ^ 21 + 0xFFFF) = 57),
    holds (tileWith (58 * 2 ^ 26 + 20 * 2 ^ 21 + 2 * 2 ^ 16) { run := 1 }) fun a => a.clocked && issues a 255 0 a.cyc (58 * 2 ^ 26 + 20 * 2 ^ 21 + 2 * 2 ^ 16) && decide (iOp (58 * 2 ^ 26 + 20 * 2 ^ 21 + 2 * 2 ^ 16) = 58) && !((a.issued 255 a.cyc).readOp 255 0 (iA (58 * 2 ^ 26 + 20 * 2 ^ 21 + 2 * 2 ^ 16))).2.poison] : List Bool).all id = true := by decide +kernel

theorem witness_WaitcCountEnds : ([
    holds ((up.modCtx 0 1 fun x => { x with run := 1, wait := 9 })) fun a => a.clocked && decide ((a.ctx 0 1).run = 1) && decide (a.cyc < (a.ctx 0 1).wait)] : List Bool).all id = true := by decide +kernel

theorem witness_TileTraps : ([
    holds (tileWith (1 * 2 ^ 26 + 1 * 2 ^ 21 + 2 * 2 ^ 16 + 3 * 2 ^ 11) { run := 1 }) fun a => a.clocked && decide (a.issuer 255 = some (0, a.cyc)) && decide (((a.ctx 255 0).mem.getD (a.ctx 255 0).pc 0).toNat = 1 * 2 ^ 26 + 1 * 2 ^ 21 + 2 * 2 ^ 16 + 3 * 2 ^ 11) && decide (iOp (1 * 2 ^ 26 + 1 * 2 ^ 21 + 2 * 2 ^ 16 + 3 * 2 ^ 11) = 1),
    holds (tileWith (0x20 * 2 ^ 26) { run := 1 }) fun a => a.clocked && decide (a.issuer 255 = some (0, a.cyc)) && decide (((a.ctx 255 0).mem.getD (a.ctx 255 0).pc 0).toNat = 0x20 * 2 ^ 26) && decide (iOp (0x20 * 2 ^ 26) = 0x20),
    holds (tileWith (1 * 2 ^ 26 + 1 * 2 ^ 21 + 2 * 2 ^ 16 + 3 * 2 ^ 11 + 1) { run := 1 }) fun a => a.clocked && decide (a.issuer 255 = some (0, a.cyc)) && decide (((a.ctx 255 0).mem.getD (a.ctx 255 0).pc 0).toNat = 1 * 2 ^ 26 + 1 * 2 ^ 21 + 2 * 2 ^ 16 + 3 * 2 ^ 11 + 1) && decide (iOp (1 * 2 ^ 26 + 1 * 2 ^ 21 + 2 * 2 ^ 16 + 3 * 2 ^ 11 + 1) = 1) && illegal (1 * 2 ^ 26 + 1 * 2 ^ 21 + 2 * 2 ^ 16 + 3 * 2 ^ 11 + 1),
    holds (tileWith (0x14 * 2 ^ 26 + 1) { run := 1 }) fun a => a.clocked && decide (a.issuer 255 = some (0, a.cyc)) && decide (((a.ctx 255 0).mem.getD (a.ctx 255 0).pc 0).toNat = 0x14 * 2 ^ 26 + 1) && decide (iOp (0x14 * 2 ^ 26 + 1) = 0x14) && illegal (0x14 * 2 ^ 26 + 1),
    holds (tileWith (0x3F * 2 ^ 26) { run := 1 }) fun a => a.clocked && decide (a.issuer 255 = some (0, a.cyc)) && decide (((a.ctx 255 0).mem.getD (a.ctx 255 0).pc 0).toNat = 0x3F * 2 ^ 26) && decide (formOf (iOp (0x3F * 2 ^ 26)) = .reserved),
    holds (tileWith (0x30 * 2 ^ 26 + 2 * 2 ^ 16) { run := 1, poison := 0x8004 }) fun a => a.clocked && decide (a.issuer 255 = some (0, a.cyc)) && decide (((a.ctx 255 0).mem.getD (a.ctx 255 0).pc 0).toNat = 0x30 * 2 ^ 26 + 2 * 2 ^ 16) && !illegal (0x30 * 2 ^ 26 + 2 * 2 ^ 16) && decide (iA (0x30 * 2 ^ 26 + 2 * 2 ^ 16) < 16) && decide (iOp (0x30 * 2 ^ 26 + 2 * 2 ^ 16) = 48) && ((a.issued 255 a.cyc).readOp 255 0 (iA (0x30 * 2 ^ 26 + 2 * 2 ^ 16))).2.poison,
    holds (tileWith (0x31 * 2 ^ 26 + 15 * 2 ^ 16) { run := 1, poison := 0x8004 }) fun a => a.clocked && decide (a.issuer 255 = some (0, a.cyc)) && decide (((a.ctx 255 0).mem.getD (a.ctx 255 0).pc 0).toNat = 0x31 * 2 ^ 26 + 15 * 2 ^ 16) && !illegal (0x31 * 2 ^ 26 + 15 * 2 ^ 16) && decide (iA (0x31 * 2 ^ 26 + 15 * 2 ^ 16) < 16) && decide (iOp (0x31 * 2 ^ 26 + 15 * 2 ^ 16) = 49) && ((a.issued 255 a.cyc).readOp 255 0 (iA (0x31 * 2 ^ 26 + 15 * 2 ^ 16))).2.poison,
    holds (tileWith (0x3A * 2 ^ 26 + 20 * 2 ^ 21 + 2 * 2 ^ 16) { run := 1, poison := 0x8004 }) fun a => a.clocked && decide (a.issuer 255 = some (0, a.cyc)) && decide (((a.ctx 255 0).mem.getD (a.ctx 255 0).pc 0).toNat = 0x3A * 2 ^ 26 + 20 * 2 ^ 21 + 2 * 2 ^ 16) && !illegal (0x3A * 2 ^ 26 + 20 * 2 ^ 21 + 2 * 2 ^ 16) && decide (iA (0x3A * 2 ^ 26 + 20 * 2 ^ 21 + 2 * 2 ^ 16) < 16) && decide (iOp (0x3A * 2 ^ 26 + 20 * 2 ^ 21 + 2 * 2 ^ 16) = 58) && ((a.issued 255 a.cyc).readOp 255 0 (iA (0x3A * 2 ^ 26 + 20 * 2 ^ 21 + 2 * 2 ^ 16))).2.poison] : List Bool).all id = true := by decide +kernel

theorem witness_MeshEventsComplete : ([
    holds (up.modTile 0 fun x => { x with queues := x.queues.set 4 [{ data := 5, dest := 1, ready := 3 }] }) fun a => a.clocked && (List.range 4).any fun o => match a.served 0 o with | some _ => !a.meshScan | none => false,
    holds (up.modTile 255 fun x => { x with queues := x.queues.set 0 [{ data := 5, dest := 0xFF, ready := 3 }] }) fun a => (match a.served 255 4 with | some (_, f) => a.aheadRoom 255 4 f && !a.meshScan | none => false),
    holds ((up.modCtx 0 0 fun x => { x with run := 1 }).modTile 0 fun x => { x with queues := x.queues.set 4 (List.replicate 4 { data := 0 }) }) fun a => match a.stalled 0 4 with | some x => !bitOf (a.causesOf 25) x.key | none => false] : List Bool).all id = true := by decide +kernel

theorem witness_FabricRequestsComplete : ([
    holds ({ up with edgeOut := [(15, [{ data := 0x10000000 }, { data := 0 }, { data := 0, ready := 9 }])] }) fun a => let l := a.feWords 15; let head := feHead l; let need := feNeed l; let kind := ReqKind.read; let r := feReq 15 (if a.bindOf 15 = 3 then 1 else 0) kind l; let t := a.advanceCyc ((l.take head).foldl (fun c x => max c x.ready) a.cyc); a.clocked && !a.ingressClosed && decide (l ≠ []) && decide (head ≤ l.length) && decide (need ≤ l.length) && decide (feOp (wordAt l 0) = kind.opcode) && decide (mapGet (fun _ => none) a.feOpen 15 = none) && decide (a.returnUse 15 + r.lines ≤ 8) && ((l.take need).drop head).all fun x => decide (x.ready ≤ t.cyc),
    holds ({ up.setObj (Obj.feEnable 15) 1 with edgeOut := [(15, [{ data := 0x20000000 }, { data := 0 }, { data := 0, ready := 9 }])] }) fun a => let l := a.feWords 15; let head := feHead l; let kind := ReqKind.write; let t := a.advanceCyc ((l.take head).foldl (fun c x => max c x.ready) a.cyc); a.clocked && !a.ingressClosed && decide (l ≠ []) && decide (head ≤ l.length) && decide (l.length < feNeed l) && decide (feOp (wordAt l 0) = kind.opcode) && decide (mapGet (fun _ => none) a.feOpen 15 = none) && decide (t.obj (Obj.feEnable 15) = 1),
    holds ({ up with edgeOut := [(31, [{ data := 0x40000000 }, { data := 0 }])], reqs := [{ serial := 1, rq := 240, kind := .fence, stage := .fabric }] }) fun a => let l := a.edgeOutQ 31; let h := wordAt l 0 * 2 ^ 32 + wordAt l 1; a.clocked && decide (2 ≤ l.length) && decide (respNeed l ≤ l.length) && match a.reqs.find? (fun r => r.rq == 16 * 15 + fld 56 4 h && r.stage == .fabric && r.tag == fld 48 8 h) with | some r => decide (r.kind.opcode = fld 60 4 h) && decide (r.lines = fld 42 2 h + 1) && !r.lockstep | none => false] : List Bool).all id = true := by decide +kernel

theorem witness_ConfigurationEndsComplete : ([
    holds ({ up with imageJob := some { ctx := 0, bytes := image } }) fun a => match a.imageJob with | some j => a.awake && !j.reading && (({ a with imageJob := none }).loadImage j.ctx j.bytes (!j.bad)).2 | none => false,
    holds ({ up with imageJob := some { ctx := 0 } }) fun a => match a.imageJob with | some j => a.awake && !j.reading && !(({ a with imageJob := none }).loadImage j.ctx j.bytes (!j.bad)).2 | none => false,
    holds ({ up with scan := some { op := 1, target := 3, out := 5, inn := 0, flags := 0, ends := 9 } }) fun a => a.awake && a.scan.isSome,
    holds ({ up with scan := some { op := 2, target := 0, out := 0, inn := 7, flags := 3, ends := 9 } }) fun a => a.awake && decide (a.scan.map (fun j => j.op) = some 2),
    holds ({ up with moveJob := some { op := 1, frame := 7, addr := 0 } }) fun a => match a.moveJob with | some j => a.awake && !j.waiting && !j.bad && decide (j.op = 1) | none => false,
    holds ({ up with moveJob := some { op := 1, frame := 0, addr := 0, bad := true } }) fun a => match a.moveJob with | some j => a.awake && !j.waiting && j.bad | none => false,
    holds ({ up with moveJob := some { op := 2, frame := 0, addr := 0 } }) fun a => match a.moveJob with | some j => a.awake && !j.waiting && !j.bad && decide (j.op ≠ 1) | none => false,
    holds ({ up with drain := some { op := 1, target := 1, out := 5, inn := 0, flags := 0, ends := 9 } }) fun a => a.awake && decide (a.drain.map (fun j => j.target) = some 1)] : List Bool).all id = true := by decide +kernel

theorem witness_MessageEventsComplete : ([
    holds (up.setObj (Obj.msgState 31) mcEmpty) fun a => takenWr a (wrOf .sideband (Obj.msgReg 31 15) 4 0xFFFFFFFF),
    holds (((up.setObj (Obj.msgState 3) mcFull).setObj (Obj.msgReceiver 3) 0x3000)) fun a => a.canRead .sideband && decide (a.obj (Obj.msgState 3) = mcFull) && !a.mcEmptyIrq 3 && decide (a.obj (Obj.msgReceiver 3) = partyOf .sideband) && (let b := 4 * a.mcWidth 3 - 4; decide (b + 4 ≤ 64) && (pageSubs b 4).contains (a.mcWidth 3)),
    holds (((up.setObj (Obj.msgState 3) mcFull).setObj (Obj.msgReceiver 3) 0x3000).setObj (Obj.msgMode 3) 0) fun a => a.awake && decide (a.obj (Obj.msgState 3) = mcFull) && !a.mcWaits 3,
    holds ((up.setObj (Obj.msgState 3) mcFilling).modMc 3 fun x => { x with filler := 0x3000 }) fun a => a.awake && decide (a.obj (Obj.msgState 3) = mcFilling) && !a.partyDown (a.mc 3).filler,
    holds ((up.setObj (Obj.msgState 3) mcFilling).modMc 3 fun x => { x with filler := 0x1000 }) fun a => a.awake && decide (a.obj (Obj.msgState 3) = mcFilling) && a.partyDown (a.mc 3).filler,
    holds (((up.setObj (Obj.msgState 3) mcFull).setObj (Obj.msgReceiver 3) 0x3000).setBit (Obj.msgFlags 3) 2 true) fun a => a.awake && a.bit (Obj.msgFlags 3) 2 && decide (a.obj (Obj.msgState 3) = mcFull) && !a.partyDown (a.obj (Obj.msgReceiver 3)),
    holds ({ ((up.setObj (Obj.msgState 3) mcFilling).modMc 3 fun x => { x with filler := fabricParty (up.mbCtx 3) 3 }).setMb 3 { chan := some 3 } with edgeOut := [(63, [{ data := 5 }])] }) fun a => a.clocked && decide ((a.edgeOutQ (mbPort 3)).length = 1) && !(a.mb 3).drop && decide ((a.mb 3).chan = some 3) && decide (a.obj (Obj.msgState 3) ≠ mcDisabled) && decide (a.obj (Obj.msgState 3) ≠ mcFull) && a.mcIs 3 mcFilling && decide ((a.mc 3).filler = fabricParty (a.mbCtx 3) 3),
    holds ({ up.setObj (Obj.msgState 31) mcEmpty with edgeOut := [(46, [{ data := 0x101F0000 }])] }) fun a => a.clocked && !(a.mb 0).drop && decide ((a.mb 0).chan = none) && decide (a.obj (Obj.msgState 31) = mcEmpty) && decide (mcEmpty ≠ mcDisabled) && match a.edgeOutQ (mbPort 0) with | [w] => decide (w.data.toNat = 2 ^ 28 + 31 * 2 ^ 16) && !w.last | _ => false,
    holds ({ ((up.setObj (Obj.msgState 31) mcFull).setObj (Obj.msgMode 31) 2).setObj (Obj.msgReceiver 31) 0x4002 with edgeOut := [(62, [{ data := 0x201F0000, last := true }])] }) fun a => a.clocked && !(a.mb 2).drop && decide ((a.mb 2).chan = none) && match a.edgeOutQ (mbPort 2) with | w :: l => decide (w.data.toNat = 2 * 2 ^ 28 + 31 * 2 ^ 16) && w.last && let t := (a.advanceCyc w.ready).setEdgeOut (mbPort 2) l; decide (t.msgReleaseRefused 31 (fabricParty (t.mbCtx 2) 2) = none) | [] => false] : List Bool).all id = true := by decide +kernel

theorem witness_HostPortEventsComplete : ([
    holds (host) fun a => a.awake && !a.ingressClosed && a.requestWakes.bit Obj.pcieLink 9 && tlpOk (2 ^ 36 - 512) 512 512,
    holds (host) fun a => a.awake && !a.ingressClosed && a.requestWakes.bit Obj.pcieLink 9 && tlpOk 0 4096 4096,
    holds (up.modHq 3 fun h => { h with openLine := some { req := 0, addr := 0, next := 0, data := [], mask := 0, poisoned := false, due := 9 } }) fun a => a.clocked && (a.hq 3).openLine.isSome,
    holds (host) fun a => a.awake && !a.ingressClosed && a.requestWakes.bit Obj.pcieLink 9 && !(a.requestWakes.hq 3).waiting,
    holds (host) fun a => a.awake && a.bit Obj.pcieLink 9 && decide (a.obj Obj.runPhase ≠ 1),
    holds (up) fun a => a.pcie.perst,
    holds (up.modPcie fun x => { x with perst := false }) fun a => a.awake && !a.bit Obj.pcieLink 9 && !a.pcie.perst && a.bit Obj.clockStatus 2 && linkWidths.contains 8,
    holds ((host.setObj Obj.runPhase 1).modPcie fun x => { x with crsUntil := 9 }) fun a => a.awake && a.bit Obj.pcieLink 9 && decide (a.obj Obj.runPhase = 1) && decide (a.now < a.pcie.crsUntil),
    holds (host) fun a => let w := wrOf .sideband Obj.pcieRetrain 1 1; let w := { w with path := .pcie }; takenWr a w && match a.look .pcie w.index w.sub with | .found r => let t := a.accepting w r 1 fun _ y => if y.bit Obj.pcieLink 9 then y.setObj Obj.pcieRetrain 1 else (y.bump Obj.pcieRetrains).cmdDone Obj.pcieRetrain; decide (t.obj Obj.pcieRetrain = 1) && (t.cmdDone Obj.pcieRetrain).bit Obj.pcieLink 9 | .gone _ => false] : List Bool).all id = true := by decide +kernel

theorem witness_FieldbusEventsComplete : ([
    holds ((up.setObj Obj.ectAlState 2)) fun a => a.awake && decide (a.obj Obj.runPhase ≠ 1) && decide ((a.modEct fun e => { e with set := {} }).alRefusal 2 = 0),
    holds ((up.setObj Obj.ectAlState 1)) fun a => a.awake && decide (a.obj Obj.runPhase ≠ 1) && decide ((a.modEct fun e => { e with set := {} }).alRefusal 15 ≠ 0),
    holds (up.setObj Obj.runPhase 1) fun a => a.awake && decide (a.obj Obj.runPhase = 1),
    holds ({ (up.modEct fun e => { e with link0 := true }).setObj Obj.ectAlState 2 with session := { owner := 1, due := 10 } }) fun a => a.pathUp .coe,
    holds ({ (up.modEct fun e => { e with link0 := true }).setObj Obj.ectAlState 2 with session := { owner := 1, due := 10 } }) fun a => a.canRead .coe && (a.uploadSubs 0x2010 7 false).all (fun b => decide (a.readRefused .coe 0x2010 b 0 true = none)) && (a.uploadSubs 0x1018 0 true).all (fun b => decide (a.readRefused .coe 0x1018 b 0 true = none)),
    holds ({ (up.modEct fun e => { e with link0 := true }).setObj Obj.ectAlState 2 with session := { owner := 1, due := 10 } }) fun a => a.canRead .coe && match a.look .coe 0x2010 7 with | .found _ => true | .gone _ => false,
    holds ({ (up.modEct fun e => { e with link0 := true }).setObj Obj.ectAlState 2 with session := { owner := 1, due := 10 } }) fun a => a.awake && decide (a.obj Obj.ectAlState ≠ 1),
    holds ((up.setObj Obj.ectAlState 8)) fun a => a.awake && decide (a.obj Obj.ectAlState = 4 ∨ a.obj Obj.ectAlState = 8),
    holds ({ (up.modEct fun e => { e with link0 := true }).setObj Obj.ectAlState 2 with session := { owner := 1, due := 10 } }) fun a => a.foeUp && decide (a.foeRefused 0 = none) && decide ((a.stagedFile 1 0 ++ image).length ≤ 98304) && decide ((a.setObj Obj.imageSource 0).loadRefused 0 = none) && decide ((a.setObj Obj.imageSource 0).loadRefused 1 = none),
    holds ({ (up.modEct fun e => { e with link0 := true }).setObj Obj.ectAlState 2 with session := { owner := 1, due := 10 } }) fun a => a.foeUp && decide (a.foeRefused 0 = none) && decide ((a.stagedFile 3 99 ++ image).length ≤ 98304) && decide (a.nvsRefused false = none) && a.areaFits (a.stagedFile 3 99 ++ image).length && !(a.pastA0 && a.entryForbids Obj.areaWrite 99),
    holds ((up.modEct fun e => { e with link0 := true }).setObj Obj.ectAlState 3) fun a => a.foeUp && decide (a.obj Obj.ectAlState = 3),
    holds ((up.modEct fun e => { e with set := { pdWatchdogUs := 1 } }).setObj Obj.ectAlState 8) fun a => a.awake && decide (a.ect.set.pdWatchdogUs ≠ 0) && decide (a.obj Obj.ectAlState = 8),
    holds ((up.modEct fun e => { e with set := { pdWatchdogUs := 1 } }).setObj Obj.ectAlState 4) fun a => a.awake && decide (a.ect.set.pdWatchdogUs ≠ 0) && decide (a.obj Obj.ectAlState = 4)] : List Bool).all id = true := by decide +kernel

theorem witness_SidebandTransfersComplete : ([
    holds (up) fun a => let t := a.bump Obj.sbTransfers; a.reachable && match t.look .sideband 0x2010 7 with | .found r => !r.bytes | .gone _ => false,
    holds (up) fun a => let t := a.bump Obj.sbTransfers; match t.look .sideband 0x4850 5 with | .found r => r.bytes | .gone _ => false,
    holds (up) fun a => let t := a.bump Obj.sbTransfers; decide (t.readRefused .sideband 0x2010 7 2 true = none) && match t.look .sideband 0x2010 7 with | .found r => !r.bytes | .gone _ => false,
    holds (up) fun a => let t := a.bump Obj.sbTransfers; decide (t.readRefused .sideband 0x1008 0 4 false = none) && match t.look .sideband 0x1008 0 with | .found r => r.bytes && decide (t.pwr.mode ≠ 2) && t.mgUp | .gone _ => false] : List Bool).all id = true := by decide +kernel

theorem witness_SettingsAndFaultEventsComplete : ([
    holds ({ up with nvs := { op := some { status := Obj.areaWrite, started := 0, slot := some (0, {}) } } }) fun a => a.nvs.op.any fun o => o.entry.isNone && o.bank.isNone && o.slot.isSome,
    holds ({ up with nvs := { op := some { status := Obj.areaWrite, started := 0, bank := some (1, {}) } } }) fun a => a.nvs.op.any fun o => o.entry.isNone && o.bank.isSome,
    holds ({ up with nvs := { op := some { status := Obj.areaWrite, started := 0, entry := some { number := 1, seq := 1, ts := 0, content := [], pages := [] } } } }) fun a => a.nvs.op.any fun o => o.entry.isSome,
    holds (up) fun a => a.awake,
    holds (up) fun a => let t := (a.advanceTo ((a.now / (10 * usTicks) + 1) * (10 * usTicks))).setObj Obj.dieTemp (ofInt 16 1250); let u := t.setObj Obj.maxDieTemp (ofInt 16 1250); decide (toInt 16 (t.obj Obj.maxDieTemp) < 1250) && decide (10 * (u.obj Obj.thermWarn : Int) ≤ 1250),
    holds (up) fun a => let t := (a.advanceTo ((a.now / (10 * usTicks) + 1) * (10 * usTicks))).setObj Obj.dieTemp (ofInt 16 (-400)); decide (-400 ≤ toInt 16 (t.obj Obj.maxDieTemp)) && decide (-400 ≤ 10 * (t.obj Obj.thermWarn : Int) - 50),
    holds (up.beginCause 49 0 0) fun a => a.awake && !a.mgUp,
    holds (up) fun a => a.awake && (a.advanceTo ((a.now / (500 * msTicks) + 1) * (500 * msTicks))).mgUp] : List Bool).all id = true := by decide +kernel

theorem witness_EntryEventsComplete : ([
    holds (up.modPwr fun p => { p with entry := some { target := 2, began := 0, asked := [0, 14] } }) fun a => a.awake && a.pwr.entry.any fun e => decide (e.point = none) && e.asked.contains 14,
    holds (up.modPwr fun p => { p with entry := some { target := 2, began := 0, asked := [] } }) fun a => a.pwr.entry.any fun e => decide (e.point = none) && e.delaying.isEmpty && e.asked.isEmpty,
    holds (up.modPwr fun p => { p with entry := some { target := 2, began := 0, delaying := [(6, 0x31, 0)] } }) fun a => a.pwr.entry.any fun e => decide (e.point = none) && decide (e.delaying ≠ []) && (match e.delaying.mergeSort (fun a b => decide (a.1 ≤ b.1)) with | _ :: _ => true | [] => false),
    holds (up.modPwr fun p => { p with entry := some { target := 2, began := 0, point := some 0, abandon := false } }) fun a => a.awake && true && a.pwr.entry.any fun e => decide (e.point = some 0) && decide (e.abandon = false),
    holds (up.modPwr fun p => { p with entry := some { target := 2, began := 0, point := some 1, abandon := false } }) fun a => a.awake && decide (a.ents = []) && a.pwr.entry.any fun e => decide (e.point = some 1) && decide (e.abandon = false),
    holds (up.modPwr fun p => { p with entry := some { target := 2, began := 0, point := some 2, abandon := false } }) fun a => a.awake && true && a.pwr.entry.any fun e => decide (e.point = some 2) && decide (e.abandon = false),
    holds (up.modPwr fun p => { p with entry := some { target := 2, began := 0, point := some 3, abandon := false } }) fun a => a.awake && true && a.pwr.entry.any fun e => decide (e.point = some 3) && decide (e.abandon = false),
    holds (up.modPwr fun p => { p with entry := some { target := 2, began := 0, point := some 4, abandon := false } }) fun a => a.awake && true && a.pwr.entry.any fun e => decide (e.point = some 4) && decide (e.abandon = false),
    holds (up.modPwr fun p => { p with entry := some { target := 2, began := 0, point := some 5, abandon := false } }) fun a => a.awake && true && a.pwr.entry.any fun e => decide (e.point = some 5) && decide (e.abandon = false),
    holds (up.modPwr fun p => { p with entry := some { target := 2, began := 0, point := some 2, abandon := true } }) fun a => a.awake && true && a.pwr.entry.any fun e => decide (e.point = some 2) && decide (e.abandon = true),
    holds (up.modPwr fun p => { p with holdoff := 9 }) fun a => decide (a.pwr.holdoff ≠ 0)] : List Bool).all id = true := by decide +kernel

theorem witness_WakeEventsComplete : ([
    holds (up.modPwr fun p => { p with mode := 1, waking := true }) fun a => a.awake && decide (a.requestWakes.pwr.mode = 1) && a.requestWakes.pwr.waking,
    holds (up.modPwr fun p => { p with mode := 4, owlArmed := true }) fun a => a.pwr.owlArmed && decide (3 ≤ a.pwr.mode) && decide (a.pwr.owlAt = none) && decide ((0x4E#7).toNat = a.pwr.record.address) && decide ((0x4F#7).toNat ≠ a.pwr.record.address),
    holds (up.modPwr fun p => { p with mode := 4, owlAt := some 9 }) fun a => decide (a.pwr.owlAt = some 9),
    holds (up.modPwr fun p => { p with mode := 2, waking := true, sampling := true }) fun a => a.pwr.waking && decide (a.pwr.mode = 2) && a.pwr.sampling,
    holds (up.modPwr fun p => { p with mode := 2, waking := true }) fun a => a.pwr.waking && decide (a.pwr.mode = 2) && !a.pwr.sampling && a.vinOn && decide (a.obj Obj.phasesInService ≠ 0),
    holds (up.modPwr fun p => { p with mode := 3, waking := true }) fun a => a.pwr.waking && decide (a.pwr.mode = 3) && a.vinOn && decide (a.obj Obj.phasesInService ≠ 0),
    holds (up.modPwr fun p => { p with mode := 2 }) fun a => decide (a.pwr.mode = 2) && !a.pwr.waking && !a.pwr.sampling,
    holds ((up.modPwr fun p => { p with mode := 2, sampling := true, sampleAt := 10 ^ 9 }).setObj Obj.dmEnableMask 0) fun a => decide (a.pwr.mode = 2) && !a.pwr.waking && a.pwr.sampling && let t := a.advanceTo (a.now + min 9 (321 + 125 * popCount 8 (a.obj Obj.dmEnableMask / 256)) * usTicks); decide (t.dmItems 250 48000 0 [] = []) && decide (t.now ≤ t.pwr.sampleAt),
    holds ((up.modPwr fun p => { p with mode := 2, sampling := true, sampleAt := 10 ^ 9 }).setObj Obj.dmEnableMask 1) fun a => decide (a.pwr.mode = 2) && !a.pwr.waking && a.pwr.sampling && let t := a.advanceTo (a.now + min 9 (321 + 125 * popCount 8 (a.obj Obj.dmEnableMask / 256)) * usTicks); match t.dmItems 2000 48000 0 [] with | (item, off, some r, v, lo, hi) :: _ => decide (hi < v) && decide (lo ≤ hi) && ((t.dmNote off r).violation item r true false).pwr.sampling | _ => false] : List Bool).all id = true := by decide +kernel

theorem witness_RegulatorEventsComplete : ([
    holds (up) fun a => a.awake && a.supplyExists 0 && a.supplyRuns 0 && (phasesOf 0).contains 5,
    holds (up.setObj (Obj.powerState 1) psGood) fun a => a.supplyExists 4 && a.supplyRuns 4 && (phasesOf 4).contains 5,
    holds (up) fun a => let t := a.advanceTo ((a.now / (10 * usTicks) + 1) * (10 * usTicks)); let l := ((phasesOf 0).zipIdx.map fun x => (x.1, ([10, 10, 10, 10, 10, 10] : List Nat).getD x.2 0)).filter (fun x => (t.phasesIn 0).contains x.1); !senseBad 0 (l.map (·.2)).sum 60,
    holds (up) fun a => a.regs.on && !a.regs.fold,
    holds (up.setObj (Obj.powerState 1) psGood) fun a => decide (a.part = .ft4216) && a.supplyOn 1 && !((a.pb 1).supply 1).fold,
    holds ({ up with regs := { fold := true } }) fun a => a.regs.fold,
    holds (up.modSupply 0 1 fun x => { x with fold := true }) fun a => ((a.pb 0).supply 1).fold,
    holds ({ up with regs := { fold := true, forcedEnd := some 0 } }) fun a => a.awake && a.mustShutDown,
    holds ({ up with regs := { restoreFrom := [(0, 1), (2, 9)] } }) fun a => decide (mapGet (fun _ => 0) a.regs.restoreFrom 0 ≠ 0) && decide (mapGet (fun _ => 0) a.regs.restoreFrom 2 ≠ 0)] : List Bool).all id = true := by decide +kernel

theorem witness_SupplyInputEventsComplete : ([
    holds (up) fun a => a.vinOn && decide (a.pwr.mode = 0) && decide (a.rst.wait = 0),
    holds (up.modPwr fun p => { p with mode := 3 }) fun a => a.vinOn && decide (a.pwr.mode = 3 ∨ a.pwr.mode = 4) && decide (a.rst.wait = 0),
    holds ((up.setBit Obj.vinStatus 0 false).modRst fun r => { r with vinParked := true }) fun a => !a.vinOn && decide (a.pwr.mode ≠ 5) && decide (a.pwr.mode ≠ 4) && decide (a.rst.wait = 0) && a.vinBack.rst.vinParked,
    holds ((up.modPwr fun p => { p with mode := 4 }).setBit Obj.vinStatus 0 false) fun a => !a.vinOn && decide (a.pwr.mode = 4) && decide (a.rst.wait = 0),
    holds ((up.setBit Obj.vinStatus 0 false).modRst fun r => { r with vinParked := true }) fun a => a.rst.vinParked && a.awake && a.vinSleepDue,
    holds (up.setBit Obj.holdupStatus 1 true) fun a => a.vinOn && decide (a.regs.testFrom = none) && a.bit Obj.holdupStatus 1,
    holds ({ up.setBit Obj.holdupStatus 1 true with regs := { chargeFrom := some 0 } }) fun a => decide (a.regs.chargeFrom = some 0) && a.vinOn && a.bit Obj.holdupStatus 1,
    holds (up.setBit Obj.holdupStatus 7 false) fun a => let t := a.advanceTo ((a.now / (10 * usTicks) + 1) * (10 * usTicks)); let u := (t.setObj Obj.vinMeas (min 0xFFFF 48000)).setObj Obj.holdupV (min 0xFFFF 13800); decide (a.pwr.mode < 3) && !u.bit Obj.holdupStatus 7 && a.vinOn && (u.setObj Obj.holdupQ (clampQ u.cEff ((u.obj Obj.holdupQ : Int) + 5))).estimate.vinOn,
    holds (up.setBit Obj.holdupStatus 0 true) fun a => takenWr a (wrOf .sideband Obj.holdupTest 1 1) && decide ((rowOf Obj.holdupTest).map (fun x => x.ty.size) = some 1),
    holds ({ up.setBit Obj.holdupStatus 0 true with regs := { testDue := some 9 } }) fun a => decide (a.regs.testDue = some 9) && decide ((a.advanceTo 9).testRefused = none),
    holds ({ up.setObj Obj.holdupTestPeriod 0 with regs := { testFrom := some 0 } }) fun a => let t := a.advanceTo (0 + 20 * msTicks); let c := 2000000 / 700; let u := (((t.drew 0).setObj Obj.holdupCMeas c).setObj Obj.holdupCEff (min 3300 c)).setBit Obj.holdupStatus 5 false; decide (a.regs.testFrom = some 0) && decide (c ≤ 0xFFFF) && decide (u.obj Obj.holdupTestPeriod = 0) && decide (2640 ≤ c) && !u.cmdRunning Obj.holdupTest] : List Bool).all id = true := by decide +kernel

theorem witness_ResetEventsComplete : ([
    holds (up.modPwr fun p => { p with mode := 5 }) fun a => decide (a.pwr.mode = 5),
    holds (up.modRst fun r => { r with wait := 3 }) fun a => decide (a.rst.wait = 3 ∨ a.rst.wait = 4) && decide (a.rst.follow = 0) && decide ((a.testPhases 63).obj Obj.phasesInService ≠ 0) && decide ((a.testPhases 0).obj Obj.phasesInService = 0),
    holds (up.setObj Obj.runPhase 1) fun a => decide (a.obj Obj.runPhase = 1) && decide (a.rst.wait = 0) && a.regs.on && !a.rst.coldLow && !a.rst.warmLow && decide (a.nvs.op = none) && decide (a.rst.follow = 0),
    holds (up) fun a => !a.rst.coldLow && decide (a.pwr.mode ≠ 5) && !a.rst.warmLow && decide (a.pwr.mode = 0 ∨ a.pwr.mode = 1) && decide (a.rst.wait = 0),
    holds (up.modRst fun r => { r with coldLow := true, wait := 2 }) fun a => let t := a.modRst fun r => { r with coldLow := false }; a.rst.coldLow && decide (t.rst.wait = 2) && t.vinOn && !t.pwr.hotHold,
    holds (up.modPwr fun p => { p with mode := 4 }) fun a => !a.rst.coldLow && !a.rst.warmLow && decide (a.pwr.mode = 4) && decide (a.rst.wait = 0),
    holds ((up.setObj Obj.runPhase 1).modRst fun r => { r with warmLow := true, follow := 1 }) fun a => let t := a.modRst fun r => { r with warmLow := false }; a.rst.warmLow && decide (t.rst.follow = 1) && decide (t.obj Obj.runPhase = 1),
    holds ((up.setBit Obj.vinStatus 0 false).modRst fun r => { r with vinParked := true }) fun a => !a.vinOn && a.awake && a.rst.vinParked,
    holds (up.modRst fun r => { r with wait := 5 }) fun a => decide (a.rst.wait = 5) && decide (((a.advanceTo (a.now + 1000 * msTicks)).testPhases 1).obj Obj.phasesInService ≠ 0)] : List Bool).all id = true := by decide +kernel

theorem witness_StepRunsFront : ([
    holds ({ up with pending := [.claim .sideband, .frameBoundary] }) fun a => decide (a.pending = [.claim .sideband, .frameBoundary]) && decide (up.pending = [])] : List Bool).all id = true := by decide +kernel

theorem witness_FusedOffObjectsDoNotExist : ([
    holds ({ host with part := .ft4016 }) fun a => decide (a.part = .ft4016) && a.pathUp .pcie && decide (a.port.held = []) && a.canRead .pcie && !indexExists 0x1002 && (([0x3800, 0x39FF, 0x3A00, 0x3A7F] : List Nat).all fun x => match a.look .pcie x 0 with | .gone e => decide (e = 1) | .found _ => false)] : List Bool).all id = true := by decide +kernel

theorem witness_CountersFollowTheRule : ([
    holds (up) fun a => let w := wrOf .sideband Obj.swaps 4 5; match a.look w.path w.index w.sub with | .found r => decide (r.acc = .ctr) && !w.lengthBad r && decide (a.obj Obj.runPhase ≠ 1) && !a.rst.warmLow && decide (a.pwr.mode ≠ 2) && !w.poisoned && decide (a.wrValue r w ≠ 0) | .gone _ => false,
    holds (up) fun a => decide (a.obj Obj.swaps ≤ objMax Obj.swaps)] : List Bool).all id = true := by decide +kernel

theorem witness_SessionCommandsDecide : ([
    holds (host) fun a => let w := wrOf .sideband Obj.sessionCmd 1 1; a.pathUp .sideband && decide (a.port.held = []) && decide (a.portRefuses w = none) && decide (a.batchFor w = none) && decide (a.session.owner ≠ pathCode .sideband) && decide (a.session.owner ≠ 0) && !a.pastA0 && match a.look .sideband w.index w.sub with | .found _ => true | .gone _ => false,
    holds (host) fun a => let w := wrOf .sideband Obj.sessionCmd 1 3; decide (a.portRefuses w = none) && decide (a.batchFor w = none) && decide (a.session.owner ≠ pathCode .sideband),
    holds (up) fun a => decide (a.session.owner = pathCode .sideband),
    holds ({ up with session := {} }) fun a => decide (a.session.owner = 0)] : List Bool).all id = true := by decide +kernel

theorem witness_ClosingAnEpisodeCopiesIt : ([
    holds (up.setObj Obj.ftw (2 ^ 51 + 1)) fun a => let v := 2 ^ 51 + 1; decide (a.obj Obj.ftw ≠ 0) && decide (v &&& a.obj Obj.ftw = a.obj Obj.ftw) && ((List.range 52).all fun n => !a.bit Obj.live n) && decide (a.obj Obj.ftw < 2 ^ 64)] : List Bool).all id = true := by decide +kernel

theorem witness_MalformedInstructionsEnd : ([
    holds ((up.setObj (Obj.pbState 1) pbRunning).modPb 1 fun x => { x with queue := [3 * 2 ^ 62] }) fun a => a.awake && decide (a.part = .ft4216) && decide (a.seqHead 1 = some (.malformed, 3 * 2 ^ 62)),
    holds ((up.setObj (Obj.pbState 1) pbRunning).modPb 1 fun x => { x with queue := [2 ^ 62] }) fun a => decide (a.seqHead 1 = some (.malformed, 2 ^ 62))] : List Bool).all id = true := by decide +kernel

theorem witness_SilentParticipantsAndSlowSteps : ([
    holds (up.modPwr fun p => { p with entry := some { target := 2, began := 0, asked := [0, 13] } }) fun a => a.awake && a.pwr.entry.any fun e => decide (e.point = none) && e.asked.contains 0 && e.asked.contains 13 && ((a.partConds 0).find? fun z => z.2.1 == 2).isSome && ((a.partConds 13).find? fun z => z.2.1 == 2).isNone && decide (a.partConds 13 ≠ []),
    holds (up.modPwr fun p => { p with entry := some { target := 2, began := 0, point := some 4 } }) fun a => a.awake && a.pwr.entry.any fun e => decide (e.point = some 4)] : List Bool).all id = true := by decide +kernel

theorem witness_AddressMapIsOneToOne : ([
    holds ({ (running 0).modChan 3 fun c => { c with accepted := true, dimms := [{}, { ranks := 2 }] } with mapped := true }) fun a => a.mapped && decide (6 ≤ a.obj Obj.interleaveGrain ∧ a.obj Obj.interleaveGrain ≤ 20) && (a.chan 0).accepted && (a.chan 3).accepted && decide (0 < a.capacity 0 ∧ a.capacity 0 < a.capacity 3) && decide (0 < a.mapTop)] : List Bool).all id = true := by decide +kernel

theorem witness_LockTableStaysInOrder : ([
    holds ({ running 0 with mapped := true, locks := [{ holder := 1, start := 0, range := 4, lease := 1, since := 0 }] }) fun a => let r : Req := { serial := 1, rq := 0, kind := .lock, addr := 256, range := 4, lease := 1000 }; !a.lockWaits r && decide (a.locks.length ≤ 64) && decide (0 < a.mapTop) && a.locks.all fun l => decide (0 < l.range ∧ (l.start + l.range) * 64 ≤ a.mapTop)] : List Bool).all id = true := by decide +kernel

theorem witness_WaitingCommandsStayWellFormed : ([
    holds ({ up with pending := [.frameBoundary, .claim .sideband] }) fun a => a.pending.all Instr.wf && match step a with | .next t => t.pending.all Instr.wf | _ => false] : List Bool).all id = true := by decide +kernel

theorem witness_PlainWriteChangesOneObject : ([
    holds (up) fun a => let w : Wr := { path := .sideband, index := 0x30B0, sub := 1, data := [7, 0, 0, 0, 0, 0, 0, 0], aligned := true, poisoned := false, form := .slot }; takenWr a w && match a.look w.path w.index w.sub with | .found r => decide (r.acc = .rw ∨ r.acc = .wo) && decide (r.live = .imm) && !r.bytes && decide (a.pwr.mode = 0) && !w.merges r && decide (rqOfKey w.key = none) && decide ((a.hq 0).items = []) | .gone _ => false] : List Bool).all id = true := by decide +kernel

theorem witness_RequestPacketsSpellTheirRequests : (15 < 16 ∧ 15 < 16 ∧ 255 < 256 ∧ 1 ≤ 4 ∧ 4 ≤ 4 ∧ 2 ^ 40 - 64 < 2 ^ 40 ∧
    headOf (h0Of 15 15 255 true false true 4 (2 ^ 40 - 64)) =
      { opcode := 15, sub := 15, tag := 255, posted := true, ordered := false, lockstep := true, lines := 4, addr := 2 ^ 40 - 64 }) := by decide +kernel

theorem witness_BurstsAreReadAsWritten : 63 < 64 ∧ byteFails (writeBurst (zeros 64, zeros 16) [] (2 ^ 63) 0 none none).1
    (writeBurst (zeros 64, zeros 16) [] (2 ^ 63) 0 none none).2 63 = false := by decide +kernel

theorem witness_BurstWritesOneLine : (2 ^ 40 - 1 < 2 ^ 40) ∧ State.reset.storeWf = true := by decide +kernel

/-- The write of FLIP_MASK_A is one that no block acts on. -/
theorem witness_PlainWriteChangesOneObject_block (x : State) (v old : Nat) (d : List Byte) : x.blockWrite .sideband 0x30B001 v old d = x := by
  have h : sizingKey 0x30B001 = none := by decide
  simp [State.blockWrite, State.storeWrite, h]

/-- Nothing falls due after it. -/
theorem witness_PlainWriteChangesOneObject_calm :
    let w : Wr := { path := .sideband, index := 0x30B0, sub := 1, data := [7, 0, 0, 0, 0, 0, 0, 0], aligned := true, poisoned := false, form := .slot }
    let a := (up.modRst fun r => { r with counting := false }).fresh
    (match a.look .sideband 0x30B0 1 with
      | .found r => let t := a.accepting w r (a.wrValue r w) fun _ x => x
        takenWr a w && decide (t.finish = t)
      | .gone _ => false) = true := by decide +kernel

/-! Values that the spec gives. -/

/-- The condition holds after the command. -/
def after (c : Instr) (s : State) (f : State → Bool) : Bool := match exec c s with | .next t => f t | _ => false

/-- R68, R70: CLAIM of a free session gives it to the path for 500 ms. -/
theorem test_claim : after (.claim .sideband) { up with session := {} } (fun t => decide (t.session.owner = 3 ∧ t.session.due = 500 * msTicks)) = true := by decide +kernel

/-- R68, R79: CLAIM of a session that is held is refused with NOT_OWNER, and the record names the object, the reason and the path. -/
theorem test_claim_refused : after (.claim .sideband) host (fun t => decide (t.session.owner = 2 ∧ t.answer.reason = 7 ∧
    t.obj Obj.lastRefusal = Obj.sessionCmd / 256 + Obj.sessionCmd % 256 * 2 ^ 16 + 7 * 2 ^ 24 + 3 * 2 ^ 28)) = true := by decide +kernel

/-- R58, R84: a write of a read-only object is refused with reason 3. -/
theorem test_read_only : after (.objectWrite .sideband 0x1018 0 [1] true false) up (fun t => decide (t.answer.reason = 3)) = true := by decide +kernel

/-- R402: ADD wraps. -/
theorem test_add_wraps : after (.add 255 false) (tileWith (1 * 2 ^ 26 + 1 * 2 ^ 21 + 2 * 2 ^ 16 + 3 * 2 ^ 11) { run := 1, regs := [(2, 0xFFFFFFFF), (3, 2)] })
    (fun t => decide (mapGet (fun _ => 0) (t.ctx 255 0).regs 1 = 1 ∧ (t.ctx 255 0).pc = 1)) = true := by decide +kernel

/-- R402: SAR keeps the sign, and takes its count modulo 32. -/
theorem test_sar : after (.sar 255 false) (tileWith (8 * 2 ^ 26 + 2 * 2 ^ 21 + 2 * 2 ^ 16 + 3 * 2 ^ 11) { run := 1, regs := [(2, 0x80000000), (3, 36)] })
    (fun t => decide (mapGet (fun _ => 0) (t.ctx 255 0).regs 2 = 0xF8000000)) = true := by decide +kernel

/-- R402: the high half of a product, and the bit instructions. -/
theorem test_bits : (pext 0xABCD1234 0xF0F0F0F0 = 0xAC13) ∧ pdep 0xAC13 0xF0F0F0F0 = 0xA0C01030 ∧ popc 0xFFFFFFFF = 32 ∧ clz 0 = 32 ∧ clz 1 = 31 ∧
    brev 1 = 0x80000000 := by decide +kernel

/-- R421: the word 3F000000 hexadecimal times four has a reserved opcode: the tile traps ILLEGAL. -/
theorem test_illegal : after (.trap 255 false) (tileWith (0x3F * 2 ^ 26) { run := 1 }) (fun t => decide ((t.ctx 255 0).run = 4 ∧ (t.ctx 255 0).trapCause = 1)) = true := by
  decide +kernel

/-- R111: the header of a request has its opcode in bits 63 to 60, SUB in 59 to 56, the tag in 55 to 48 and the address in the low bits. -/
theorem test_header : h0Of 1 2 3 false false false 1 64 / 2 ^ 48 = 0x1203 ∧ h0Of 1 2 3 false false false 1 64 % 2 ^ 40 = 64 := by decide +kernel

/-- The polynomial, reflection and inversions of the CRC-32 that the records, the images and the links use: its check value. -/
theorem test_crc32 : crc32 [0x31, 0x32, 0x33, 0x34, 0x35, 0x36, 0x37, 0x38, 0x39] = 0xCBF43926 := by decide +kernel

/-- One clock passes when no command waits. -/
theorem test_idle : (match step up with | .next t => decide (t.cyc = up.cyc + 1) | _ => false) = true := by decide +kernel

end Sys2Proof.Tests
end

section
/-! PROOFS. The fused-off objects of the FT-4016 (R23): what the dictionary port makes of an index that does not exist, and that the indices of the
probe channels and of their supplies are such indices there. -/

namespace Sys2Proof.Machine

/-! An object that does not exist, as reads and writes meet it. -/

/-- No path sees an index that no object of the tables has. -/
theorem look_absent {ix : Nat} (s : State) (p : Path) (sb : Nat) (h : indexExists ix = false) : s.look p ix sb = .gone 1 :=
  look_gone (by simp [State.indexOn, h])

/-- What is gone for its path is refused with the reason it is gone for, whatever else is wrong with the write (R696). -/
theorem portRefuses_gone {s : State} {w : Wr} {e : Nat} (h : s.look w.path w.index w.sub = .gone e) : s.portRefuses w = some e := by
  simp only [State.portRefuses, h]

/-- The mute of the sideband (R91) is for strings and domains that exist. -/
theorem sidebandMute_gone {s : State} {w : Wr} {e : Nat} (h : s.look w.path w.index w.sub = .gone e) : s.sidebandMute w = false := by
  simp only [State.sidebandMute, h, Bool.and_false]

/-- A path that can read can carry a request. -/
theorem pathUp_of_canRead {s : State} {p : Path} (h : s.canRead p = true) : s.pathUp p = true := by
  simp only [State.canRead, Bool.and_eq_true] at h
  exact h.1

/-- A write of an object that is gone is refused at once by a port that is free. -/
theorem submit_gone {s : State} {w : Wr} {e : Nat} (up : s.pathUp w.path = true) (free : s.port.held = [])
    (plain : w.key ≠ Obj.domainCommit ∨ w.path ≠ .pcie) (h : s.look w.path w.index w.sub = .gone e) :
    s.submit w = (s.rejectWrite w 0 e false).pumpHosts :=
  submit_refused up (sidebandMute_gone h) free plain (portRefuses_gone h)

/-- A read of an object that is gone is refused, whatever its size and alignment (R84). -/
theorem objectRead_gone {s : State} {p : Path} {ix sb e : Nat} (n : Nat) (aligned : Bool) (ready : s.canRead p = true)
    (h : s.look p ix sb = .gone e) : s.objectRead p ix sb n aligned = s.rejectRead p ix sb n e := by
  have refused : s.readRefused p ix sb n aligned = some e := by simp only [State.readRefused, h]
  simp only [State.objectRead, pathUp_of_canRead ready, ready, Bool.not_true, Bool.false_eq_true, if_false, if_true, State.readNow, refused]

/-! The indices that R23 names. -/

/-- The index is one of a probe channel or of a supply of one (R23). -/
def probeIndex (ix : Nat) : Prop := (0x3800 ≤ ix ∧ ix ≤ 0x39FF) ∨ (0x3A00 ≤ ix ∧ ix ≤ 0x3A7F)

/-- The FT-4016 has these indices fused off. -/
theorem fusedOff_probeIndex {s : State} {ix : Nat} (hp : s.part = .ft4016) (h : probeIndex ix) : s.fusedOff ix = true := by
  have hr : 0x3800 ≤ ix ∧ ix < 0x3A80 := by unfold probeIndex at h; omega
  simp [State.fusedOff, hp, hr]

/-- No path of the FT-4016 sees them. -/
theorem look_probeIndex {s : State} {ix : Nat} (p : Path) (sb : Nat) (hp : s.part = .ft4016) (h : probeIndex ix) : s.look p ix sb = .gone 1 :=
  look_gone (by simp [State.indexOn, fusedOff_probeIndex hp h])

/-- DOMAIN_COMMIT, whose write stands for another (R77), is none of their objects. -/
theorem key_ne_domainCommit_of_probeIndex {w : Wr} (h : probeIndex w.index) : w.key ≠ Obj.domainCommit := by
  have low : 0x3800 ≤ w.index := by unfold probeIndex at h; omega
  simp only [Wr.key, Obj.domainCommit]
  omega

/-- Settles O47: on the FT-4016 these indices are gone for every path, and the port refuses what is gone with the reason it is gone for. -/
theorem fusedOffObjectsDoNotExist : Obligations.FusedOffObjectsDoNotExist := by
  intro s a p index sub ha part (range : probeIndex index)
  have gone : a.look p index sub = .gone 1 := look_probeIndex p sub (ha ▸ part) range
  refine ⟨gone, fun other absent => ?seenAsAbsent, fun data aligned poisoned w hw up free _ => ?write, fun n aligned ready => ?read⟩
  case seenAsAbsent => rw [gone, look_absent a p sub absent]
  case write =>
    subst hw
    have refused := submit_gone (w := ⟨p, index, sub, data, aligned, poisoned, .slot⟩) up free
      (.inl (key_ne_domainCommit_of_probeIndex range)) gone
    rw [← refused, ha]
    exact run_eq s _
  case read =>
    rw [← objectRead_gone n aligned ready gone, ha]
    exact run_eq s _

end Sys2Proof.Machine
end

section
/-! PROOFS. What a command answers when the effect of its own event is known, and what a group of updates keeps. -/

namespace Sys2Proof.Machine

/-- A command whose effect is known ends with it. -/
theorem run_next {s e : State} {f : State → State} (effect : f s.fresh = e) : run s f = .next (s.ends e) := effect ▸ run_eq s f

/-- A command of logic that is awake ends with its effect. -/
theorem runAwake_next {s e : State} {f : State → State} (awake : s.fresh.awake = true) (effect : f s.fresh = e) :
    runAwake s f = .next (s.ends e) := effect ▸ runAwake_eq s f awake

/-- What every update of a group keeps, the group keeps. -/
theorem each_keeps {α β : Type} (g : State → β) {f : α → State → State} (keeps : ∀ x t, g (f x t) = g t) (l : List α) (s : State) :
    g (s.each l f) = g s := by
  induction l generalizing s with
  | nil => rfl
  | cons x xs ih => exact (ih (f x s)).trans (keeps x s)

@[simp] theorem State.advanceTo_pwr (s : State) (t : Nat) : (s.advanceTo t).pwr = s.pwr := by rw [advanceTo_eq]
@[simp] theorem State.advanceTo_clk (s : State) (t : Nat) : (s.advanceTo t).clk = s.clk := by rw [advanceTo_eq]
@[simp] theorem State.advanceTo_shadows (s : State) (t : Nat) : (s.advanceTo t).shadows = s.shadows := by rw [advanceTo_eq]

@[simp] theorem State.modRst_rst (s : State) (f : Rst → Rst) : (s.modRst f).rst = f s.rst := rfl

@[simp] theorem bit_advanceTo (s : State) (t k i : Nat) : (s.advanceTo t).bit k i = s.bit k i := by simp only [State.bit, obj_advanceTo]

/-- A bit of another object reads as before. -/
theorem bit_setBit_ne (s : State) {k j : Nat} (i n : Nat) (b : Bool) (h : j ≠ k) : (s.setBit k i b).bit j n = s.bit j n := by
  simp only [State.bit, obj_setBit, if_neg h]

end Sys2Proof.Machine
end

section
/-! PROOFS. The clocks, the wheel and the operating points (R31 to R51, R215, R238, R610 to R612): each operation in the case of its event. -/

namespace Sys2Proof.Machine

/-! The phase frame (R31, R63). -/

theorem frameBoundary_of_tsMode_waits {s : State} (waits : (s.shadows.any fun h => h.key == Obj.tsMode) = true) :
    s.frameBoundary = ((s.advanceTo s.nextFrame).dropShadows fun h => h.bound == .frame).tsModeActs.realign := by
  simp only [State.frameBoundary, State.advanceTo_shadows, waits, if_true]

theorem frameBoundary_of_no_tsMode {s : State} (noMode : (s.shadows.any fun h => h.key == Obj.tsMode) = false) :
    s.frameBoundary = ((s.advanceTo s.nextFrame).dropShadows fun h => h.bound == .frame).realign := by
  simp only [State.frameBoundary, State.advanceTo_shadows, noMode, Bool.false_eq_true, if_false]

/-! Operating-point changes (R48, R610 to R612). -/

/-- The state in which a waiting request is checked: it waits no longer. -/
def State.requestTaken (s : State) : State := { s with clk := { s.clk with waiting := none } }

/-- It starts where it passes its checks, and is refused with the first that fails (R610). -/
theorem opRequestStart_of_waiting {s : State} {op : Nat} (waiting : s.clk.waiting = some op) (idle : s.clk.run = none) :
    s.opRequestStart = (s.requestTaken.opFirstFail op false).elim (s.requestTaken.opBegin op)
      fun fail => (s.requestTaken.opRefusal fail.1).cmdFailed Obj.opRequest fail.2 := by
  have free : ¬s.clk.run.isSome = true := by simp [idle]
  unfold State.opRequestStart
  rw [waiting]
  refine (if_neg free).trans ?_
  dsimp only
  split
  · next code reason fails => rw [show s.requestTaken.opFirstFail op false = some (code, reason) from fails]; rfl
  · next passes => rw [show s.requestTaken.opFirstFail op false = none from passes]; rfl

theorem pllRelock_of_retuning {s : State} {r : OpRun} (us : Nat) (run : s.clk.run = some r) (step : r.step = 4) :
    s.pllRelock us =
      if r.fromOp < r.target || r.forced then
        (((s.advanceTo (r.retuneAt + min us 10 * usTicks)).setOp r.target).opSlew r).opStep 5
      else ((s.advanceTo (r.retuneAt + min us 10 * usTicks)).setOp r.target).opResume r := by
  simp only [State.pllRelock, run, step, if_true]

theorem vcoreSlewDone_before_retune {s : State} {r : OpRun} (run : s.clk.run = some r) (step : r.step = 3) :
    s.vcoreSlewDone = (s.advanceTo (s.vcoreReach (max (s.regs.target - 100) (min s.regs.target (vMin r.target))))).opRetune := by
  simp only [State.vcoreSlewDone, run, step, if_true]

theorem vcoreSlewDone_after_retune {s : State} {r : OpRun} (run : s.clk.run = some r) (step : r.step = 5) :
    s.vcoreSlewDone =
      (s.advanceTo (s.vcoreReach (if s.regs.target < s.regs.v0 then s.regs.target + 100 else s.regs.target - 100))).opResume r := by
  have notBefore : ¬ r.step = 3 := by omega
  simp only [State.vcoreSlewDone, run, if_neg notBefore, if_pos step]

/-! Fine shmoo (R35). -/

/-- A step towards the target, at its time. -/
def State.shmooMoves (s : State) : State :=
  let t := s.advanceTo (max (s.clk.slewAt + usTicks) s.now)
  (({ t with clk := { t.clk with slewAt := t.now } }).setObj Obj.shmooActual
    (ofInt 16 (if s.shmooActual < s.shmooTarget then s.shmooActual + 1 else s.shmooActual - 1))).shmooShow

theorem shmooStep_of_apart {s : State} (apart : s.shmooActual ≠ s.shmooTarget) (locked : s.bit Obj.clockStatus 4 = false) :
    s.shmooStep = s.shmooMoves.each s.shmooMoves.acceptedChans fun ch x => x.calcWdqs ch := by
  simp only [State.shmooStep, apart, locked, Bool.false_eq_true, or_self, if_false, State.shmooMoves]

/-- Settles O9: each event's operation in its own case. The time of an event, the values bound to its boundary and the counts of c under shmoo are those
of the log entries 6, 11 and 12. -/
theorem clockEventsComplete : Obligations.ClockEventsComplete := by
  rintro s a rfl
  refine ⟨?frame, ?frameWithMode, ?wheel, ?refresh, ?opStarts, ?opRefused, ?relock, ?slewBefore, ?slewAfter, ?shmoo⟩
  case frame =>
    rintro t awake rfl noMode
    exact runAwake_next awake (frameBoundary_of_no_tsMode noMode)
  case frameWithMode =>
    rintro t awake rfl waits
    exact runAwake_next awake (frameBoundary_of_tsMode_waits waits)
  case wheel =>
    rintro t awake rfl
    exact runAwake_next awake rfl
  case refresh =>
    rintro ch t awake runs rfl
    exact runAwake_next awake (if_pos runs)
  case opStarts =>
    rintro op t awake waiting idle rfl passes
    exact runAwake_next awake ((opRequestStart_of_waiting waiting idle).trans (congrArg (Option.elim · _ _) passes))
  case opRefused =>
    rintro op t code reason awake waiting idle rfl fails
    exact runAwake_next awake ((opRequestStart_of_waiting waiting idle).trans (congrArg (Option.elim · _ _) fails))
  case relock =>
    rintro us r t awake run step rfl
    exact runAwake_next awake (pllRelock_of_retuning us run step)
  case slewBefore =>
    rintro r t awake run step rfl
    exact runAwake_next awake (vcoreSlewDone_before_retune run step)
  case slewAfter =>
    rintro r t awake run step rfl
    exact runAwake_next awake (vcoreSlewDone_after_retune run step)
  case shmoo =>
    rintro t u awake apart locked rfl rfl
    exact runAwake_next awake (shmooStep_of_apart apart locked)

end Sys2Proof.Machine
end

section
/-! PROOFS. A clock failure and the recovery from it (R49 to R51). -/

namespace Sys2Proof.Machine

/-- The PLLs that a failure takes out of lock: with the reference gone the lane and the fixed PLL read unlocked too (R49). -/
def State.locksLost (s : State) (why : Nat) : State :=
  if why = 0 then ((s.setBit Obj.clockStatus 3 false).setBit Obj.clockStatus 1 false).setBit Obj.clockStatus 2 false
  else if why = 2 ∨ why = 3 then s.setBit Obj.clockStatus (why - 1) false else s

/-- A failure does not raise line 50 by the lock bits alone. -/
theorem bit_live_locksLost (s : State) (why n : Nat) : (s.locksLost why).bit Obj.live n = s.bit Obj.live n := by
  have other : Obj.live ≠ Obj.clockStatus := by decide
  unfold State.locksLost
  split
  · simp only [bit_setBit_ne _ _ _ _ other]
  · split
    · exact bit_setBit_ne _ _ _ _ other
    · rfl

/-- The counter of a failure: REF_LOSS_COUNT for the reference, UNLOCK_COUNT for a PLL (R49). -/
theorem locksLost_bump (s : State) (why : Nat) :
    (s.locksLost why).bump (if why = 0 then Obj.refLossCount else Obj.unlockCount) =
      if why = 0 then (((s.setBit Obj.clockStatus 3 false).setBit Obj.clockStatus 1 false).setBit Obj.clockStatus 2 false).bump Obj.refLossCount
      else if why = 2 ∨ why = 3 then (s.setBit Obj.clockStatus (why - 1) false).bump Obj.unlockCount
      else s.bump Obj.unlockCount := by
  unfold State.locksLost
  split
  · rfl
  · split <;> rfl

/-- When a failure is seen: at once, but for a relock at the end of the 10 µs it may take (R48, R49). -/
def State.failureSeen (s : State) (why : Nat) (r : OpRun) : State :=
  let b := if why = 4 then s.advanceTo (r.retuneAt + 10 * usTicks) else s
  { b with clk := { b.clk with failedAt := b.now } }

theorem bit_failureSeen (s : State) (why : Nat) (r : OpRun) (k i : Nat) : (s.failureSeen why r).bit k i = s.bit k i := by
  unfold State.failureSeen
  split
  · exact bit_advanceTo ..
  · rfl

/-- Everything a counted failure does once its locks are gone and it is counted (R49). -/
def State.failureActs (u : State) : State :=
  let x := (((((u.setBit Obj.clockStatus 0 false).setBit Obj.clockStatus 4 true).setBit Obj.clockStatus 6 false).stampsUnsure).opCut).beginCause 50 0
    (sourceWord 0 0xFF)
  (((x.each x.probeChans fun n y => y.curl n 4 false).parkStore).each (List.range 16) fun p y => y.linkGoesDown p 7).stopFabric

theorem clockFailure_of_line_clear {s : State} {why : Nat} {r : OpRun} (known : why ≤ 4) (clear : s.bit Obj.live 50 = false)
    (relocking : why = 4 → s.clk.run = some r ∧ r.step = 4) :
    s.clockFailure why =
      (((s.failureSeen why r).locksLost why).bump (if why = 0 then Obj.refLossCount else Obj.unlockCount)).failureActs := by
  have retuning : why = 4 → (match s.clk.run with | some r => r.step == 4 | none => false) = true := by
    intro four
    obtain ⟨run, step⟩ := relocking four
    simp only [run, step, beq_self_eq_true]
  have possible : ¬(4 < why ∨ (why = 4 ∧ (!(match s.clk.run with | some r => r.step == 4 | none => false)) = true)) := by
    rintro (beyond | ⟨four, idle⟩)
    · omega
    · rw [retuning four] at idle
      exact Bool.false_ne_true idle
  have seen : (if why = 4 then s.advanceTo (((s.clk.run.map OpRun.retuneAt).getD 0) + 10 * usTicks) else s) =
      if why = 4 then s.advanceTo (r.retuneAt + 10 * usTicks) else s := by
    split
    · next four => rw [(relocking four).1]; rfl
    · rfl
  have line : ((s.failureSeen why r).locksLost why).bit Obj.live 50 = false := by rw [bit_live_locksLost, bit_failureSeen, clear]
  have uncounted : ¬((s.failureSeen why r).locksLost why).bit Obj.live 50 = true := by rw [line]; exact Bool.false_ne_true
  unfold State.clockFailure
  refine (if_neg possible).trans ?_
  rw [seen]
  exact if_neg uncounted

/-! The recovery (R51). -/

/-- Zeroing the offset keeps the note of a forced move that the failure cut (R51). -/
theorem zeroShmoo_recoverAt3 (s : State) : s.zeroShmoo.clk.recoverAt3 = s.clk.recoverAt3 := rfl

/-- What the recovery does once the clocks read locked and the offset is zero; `at3` says that the failure cut a forced move. -/
def State.holdoverEnds (t : State) (at3 : Bool) : State :=
  let t := { t with clk := { t.clk with recoverAt3 := false } }
  let op := if at3 then 3 else t.obj Obj.opCurrent
  let t := (((t.llZero).raiseFirst op).setOp op).applySetpoint
  let t := if at3 then { t with regs := { t.regs with forcedEnd := some t.now } } else t
  let t := t.endCause 50 0
  let t := (if at3 then t.each t.acceptedChans fun ch x => x.placeFresh ch 3 else t).resumeParked (!at3)
  t.each ((List.range 16).filter fun p => t.obj (Obj.portEnable p) == 1) fun p x => x.startTraining p

/-- The state 1 ms after the reference is back: every PLL reads locked, and the offset is zero (R51). -/
def State.relocked (s : State) : State :=
  (((((s.advanceTo (s.clk.failedAt + msTicks)).setBit Obj.clockStatus 0 true).setBit Obj.clockStatus 1 true).setBit Obj.clockStatus 2 true).setBit
    Obj.clockStatus 3 true).zeroShmoo.setBit Obj.clockStatus 4 false

theorem relocked_recoverAt3 (s : State) : s.relocked.clk.recoverAt3 = s.clk.recoverAt3 := by
  rw [State.relocked, State.setBit_clk, zeroShmoo_recoverAt3, State.setBit_clk, State.setBit_clk, State.setBit_clk, State.setBit_clk,
    State.advanceTo_clk]

theorem clockRecovery_of_line_live {s : State} (live : s.bit Obj.live 50 = true) :
    s.clockRecovery = s.relocked.holdoverEnds s.clk.recoverAt3 := by
  have raised : ¬(!s.bit Obj.live 50) = true := by rw [live]; exact Bool.false_ne_true
  rw [← relocked_recoverAt3]
  unfold State.clockRecovery
  rw [if_neg raised]
  unfold State.relocked State.holdoverEnds
  rfl

/-- Settles O10: the failure with line 50 clear, and the recovery with it live (log entries 6 and 16). -/
theorem clockFailureAndRecovery : Obligations.ClockFailureAndRecovery := by
  rintro s a rfl
  refine ⟨?failure, ?recovery⟩
  case failure =>
    rintro why r b t u awake clear relocking rfl rfl rfl x rfl
    refine runAwake_next awake ((clockFailure_of_line_clear (Nat.le_of_lt_succ why.isLt) clear relocking).trans ?_)
    rw [locksLost_bump]
    rfl
  case recovery =>
    intro t at3 awake live cut locked
    have relocks : s.fresh.relocked = t.zeroShmoo.setBit Obj.clockStatus 4 false := by rw [locked]; rfl
    have recovers := clockRecovery_of_line_live live
    rw [relocks, ← cut] at recovers
    exact runAwake_next awake recovers

end Sys2Proof.Machine
end

section
/-! PROOFS. The timestamp (R38, R40). -/

namespace Sys2Proof.Machine

/-- The timestamp set from the system time at an instant: the offset makes TIMESTAMP read `new` there (R40). -/
def State.tsSetTo (t : State) (new : Nat) : State :=
  let u := { t with tsOff := (new + 2 ^ 64 - (t.now / 9) % 2 ^ 64) % 2 ^ 64,
                    clk := { t.clk with armed := false, adjustAt := t.now, unsure := t.bit Obj.clockStatus 4 } }
  let u := ((u.setObj Obj.tsLastStep ((new + 2 ^ 64 - t.ts) % 2 ^ 64)).setObj Obj.ectDcValid 1).setBit Obj.tsStatus 0 true
  (u.setBit Obj.tsStatus 1 true).showUnsure

theorem tsAlignStep_of_armed {s : State} (ns : Nat) (armed : s.clk.armed = true) (mode : s.obj Obj.tsMode = 1) :
    s.tsAlignStep ns = (s.advanceTo s.nextFrame).tsSetTo (tsOfNs ns) := by
  simp only [State.tsAlignStep, armed, mode, Bool.not_true, bne_self_eq_false, Bool.or_self, Bool.false_eq_true, if_false, State.tsSetTo]

theorem tsSlewAdjust_of_aligned {s : State} (double : Bool) (err : Int) (aligned : s.bit Obj.tsStatus 0 = true) :
    s.tsSlewAdjust double err =
      let t := s.advanceTo (max s.slewDue (s.now + 9))
      (({ t with tsOff := (if double then t.tsOff + 1 else t.tsOff + 2 ^ 64 - 1) % 2 ^ 64, clk := { t.clk with adjustAt := t.now } }).setObj
        Obj.tsDcError (ofInt 32 err)).setBit Obj.tsStatus 3 (!decide (s.slewDue ≤ s.now)) := by
  simp only [State.tsSlewAdjust, aligned, Bool.not_true, Bool.false_eq_true, if_false]

/-- The state in which the loss of alignment is judged: an invalid system time clears ECT_DC_VALID first (R40). -/
def State.systemTimeSeen (s : State) (invalid : Bool) : State := if invalid then s.setObj Obj.ectDcValid 0 else s

theorem tsUnlock_of_lost {s : State} (invalid : Bool) (err : Int) (aligned : (s.systemTimeSeen invalid).bit Obj.tsStatus 0 = true)
    (lost : invalid = true ∨ (s.systemTimeSeen invalid).obj Obj.tsUnlockWindow < err.natAbs) :
    s.tsUnlock invalid err = ((((s.systemTimeSeen invalid).setObj Obj.tsDcError (ofInt 32 err)).setBit Obj.tsStatus 0 false).setBit Obj.tsStatus 3
      false).bump Obj.tsUnlockCount := by
  have unlocks : ((s.systemTimeSeen invalid).bit Obj.tsStatus 0 &&
      (invalid || decide ((s.systemTimeSeen invalid).obj Obj.tsUnlockWindow < err.natAbs))) = true := by simpa [aligned] using lost
  exact if_pos unlocks

/-- Settles O11: the step, the slew and the loss of alignment, each in its own case (log entry 153 for a step taken in a holdover). -/
theorem timestampEventsComplete : Obligations.TimestampEventsComplete := by
  rintro s a rfl
  refine ⟨?step, ?slew, ?unlock⟩
  case step =>
    rintro ns t new awake armed mode rfl rfl
    exact runAwake_next awake (tsAlignStep_of_armed ns armed mode)
  case slew =>
    rintro double err t awake aligned rfl
    exact runAwake_next awake (tsSlewAdjust_of_aligned double err aligned)
  case unlock =>
    rintro invalid err t awake rfl aligned lost
    exact runAwake_next awake (tsUnlock_of_lost invalid err aligned lost)

end Sys2Proof.Machine
end

section
/-! PROOFS. Start-up, resets and shutdowns (R52, R94, R629 to R651, R692, R693). -/

namespace Sys2Proof.Machine

/-! Power on (R632). -/

theorem chargeStart_pwr (s : State) : s.chargeStart.pwr = s.pwr := rfl

/-- A start that waits at step 2 leaves the power state alone. -/
theorem startVin_pwr (s : State) : s.startVin.pwr = s.pwr := by
  unfold State.startVin
  split
  · rw [chargeStart_pwr, State.modRst_pwr, State.advanceTo_pwr]
  · rfl

theorem startWaits_pwr (s : State) (follow code : Nat) : (s.startWaits follow code).pwr = s.pwr := by
  rw [State.startWaits, startVin_pwr, State.modRst_pwr]

theorem powerOn_mode {s : State} (vin : Bool) (off : s.pwr.mode = 5) : (s.powerOn vin).pwr.mode = 0 := by
  unfold State.powerOn
  rw [if_neg (not_not_intro off), startWaits_pwr, State.setBit_pwr, State.setBit_pwr, each_keeps State.pwr fun ch t => State.modChan_pwr t ch _]

theorem vauxLoss_mode {s : State} (on : s.pwr.mode ≠ 5) : s.vauxLoss.pwr.mode = 5 := by
  unfold State.vauxLoss
  rw [if_neg on]
  rfl

/-! REF_CLK and the self-test (R52, R632, R649). -/

/-- The self-test runs where one is due: at step 3 of a cold start, or of a wake that follows a shutdown (R607, R624). -/
def State.selfTested (s : State) (pass : Nat) : State := if s.rst.wait = 3 ∧ (s.rst.follow = 0 ∨ s.rst.shutdown = true) then s.testPhases pass else s

theorem refClkValid_of_passing {s : State} {pass : Nat} {newFw running : Bool} (waits : s.rst.wait = 3 ∨ s.rst.wait = 4)
    (phases : (s.selfTested pass).obj Obj.phasesInService ≠ 0)
    (firmware : running = true ∨ (newFw = true ∧ (s.selfTested pass).nvs.fwIdle.isSome = true)) :
    s.refClkValid pass newFw running = (s.selfTested pass).lockAndBoot newFw := by
  have due : ¬(s.rst.wait ≠ 3 ∧ s.rst.wait ≠ 4) := by omega
  have bank : ¬(!running && !(newFw && (s.selfTested pass).nvs.fwIdle.isSome)) = true := by
    rcases firmware with runs | ⟨new, idle⟩
    · simp [runs]
    · simp [new, idle]
  unfold State.refClkValid
  rw [if_neg due]
  exact (if_neg phases).trans (if_neg bank)

theorem refClkValid_of_no_phase {s : State} {pass : Nat} (newFw running : Bool) (waits : s.rst.wait = 3) (cold : s.rst.follow = 0)
    (noPhase : (s.testPhases pass).obj Obj.phasesInService = 0) : s.refClkValid pass newFw running = (s.testPhases pass).startFails true := by
  have due : ¬(s.rst.wait ≠ 3 ∧ s.rst.wait ≠ 4) := by omega
  have tested : s.rst.wait = 3 ∧ (s.rst.follow = 0 ∨ s.rst.shutdown = true) := ⟨waits, .inl cold⟩
  unfold State.refClkValid
  rw [if_neg due]
  simp only [if_pos tested, if_pos noPhase]

theorem selfTestAgain_of_passing {s : State} {pass : Nat} (waits : s.rst.wait = 5)
    (phases : ((s.advanceTo (s.now + 1000 * msTicks)).testPhases pass).obj Obj.phasesInService ≠ 0) :
    s.selfTestAgain pass true = ((s.advanceTo (s.now + 1000 * msTicks)).testPhases pass).modRst fun r => { r with wait := 4 } := by
  unfold State.selfTestAgain
  rw [if_neg (not_not_intro waits)]
  simp only [phases, decide_false, Bool.not_true, Bool.or_self, Bool.false_eq_true, if_false]

/-! The end of BOOT (R94, R632). -/

/-- The slot's records, the map and the care of the channels, for a cold start. -/
def State.bootPopulated (t : State) (x : Option NvsSlot) (population : List (List Dimm)) : State :=
  let u := (((t.systemRecords x).appliedEffects.scanArea).each channels4 fun ch t => t.modChan ch fun c => { c with shed := [] }).populate population
  u.each u.acceptedChans fun ch t => t.careStarts ch true

/-- RUN begins: the start is recorded, images, held supplies and links come back, and step 6 is owed (R94, R632). -/
def State.runBegins (u : State) : State :=
  let v := (((u.setObj Obj.lastStart u.rst.start).setObj Obj.lastStartTs u.ts).setObj Obj.runPhase 4).freeSession.bootImages
  let y := v.each v.probeChans fun n t => if t.powerIs n psHeld then t.setObj (Obj.powerState n) psGood else t
  let z := y.each ((List.range 16).filter fun p => y.obj (Obj.portEnable p) == 1 && !y.bit Obj.live 50) fun p t => t.startTraining p
  ((z.modRst fun r => { r with step6 := true }).trySix).alHeld.modRst fun r => { r with shutdown := false }

theorem bootCompletes_of_cold_start {s t : State} {x : Option NvsSlot} (population : List (List Dimm)) (booting : s.obj Obj.runPhase = 1)
    (started : s.rst.wait = 0) (on : s.regs.on = true) (notCold : s.rst.coldLow = false) (notWarm : s.rst.warmLow = false) (idle : s.nvs.op = none)
    (follows : s.rst.follow = 0) (slot : s.chooseSlot = (t, x)) : s.bootCompletes population = (t.bootPopulated x population).runBegins := by
  have ready : ¬(s.obj Obj.runPhase ≠ 1 || s.rst.wait != 0 || !s.regs.on || s.rst.coldLow || s.rst.warmLow || s.nvs.op.isSome) = true := by
    simp [booting, started, on, notCold, notWarm, idle]
  have noReset : ¬(0 : Nat) = 1 := Nat.zero_ne_one
  have contents : ((0 : Nat) != 1) = true := rfl
  unfold State.bootCompletes
  rw [if_neg ready, slot, follows]
  simp only [noReset, if_false, if_true, contents, State.bootPopulated, State.runBegins]

/-! Resets (R629 to R640). -/

theorem coldDetected_of_allowed {s : State} (code : Nat) (high : s.rst.coldLow = false) (powered : s.pwr.mode ≠ 5) :
    s.coldDetected code = (s.coldActs code).modRst fun r => { r with coldLow := true } := by
  simp [State.coldDetected, high, powered]

theorem startVin_of_ready {s : State} (waits : s.rst.wait = 2) (vin : s.vinOn = true) (cool : s.pwr.hotHold = false) (high : s.rst.coldLow = false) :
    s.startVin = ((s.advanceTo s.rst.rampsUntil).modRst fun r =>
      { r with wait := 3, began := if r.start = 2 ∨ r.start = 3 then r.began else s.now }).chargeStart :=
  if_pos ⟨waits, vin, by rw [cool]; rfl, by rw [high]; rfl⟩

theorem coldReleased_of_low {s : State} (low : s.rst.coldLow = true) : s.coldReleased = (s.modRst fun r => { r with coldLow := false }).startVin :=
  if_pos low

/-- The pin is low: a warm reset has been detected. -/
def State.warmLowered (s : State) : State := s.modRst fun r => { r with warmLow := true }

/-- A warm reset acts at its detection where neither reset is low and no start waits (R629, R648). -/
structure State.TakesWarm (s : State) : Prop where
  notCold : s.rst.coldLow = false
  notWarm : s.rst.warmLow = false
  started : s.rst.wait = 0

theorem warmDetected_of_awake {s : State} (code : Nat) (takes : s.TakesWarm) (mode : s.pwr.mode = 0 ∨ s.pwr.mode = 1) :
    s.warmDetected code = s.warmLowered.warmActs code := by
  rcases mode with run | doze
  · simp [State.warmDetected, takes.notCold, takes.notWarm, takes.started, run, State.warmLowered]
  · simp [State.warmDetected, takes.notCold, takes.notWarm, takes.started, doze, State.warmLowered]

theorem warmDetected_of_watch {s : State} (code : Nat) (takes : s.TakesWarm) (watch : s.pwr.mode = 4) :
    s.warmDetected code = (s.warmLowered.sleepError.dieReset true).startWaits 2 code := by
  simp [State.warmDetected, takes.notCold, takes.notWarm, takes.started, watch, State.warmLowered]

/-- What is left of the dictionary when a warm reset is released (R636). -/
def State.warmKept (t : State) : State :=
  { t with dict := t.dict.filter fun e => t.warmKeeps e.1, doms := t.doms.filter fun e => t.warmKeeps e.1 }

theorem warmReleased_of_low {s : State} (newFw : Bool) (low : s.rst.warmLow = true) (follows : s.rst.follow = 1) (booting : s.obj Obj.runPhase = 1) :
    s.warmReleased newFw = (((s.modRst fun r => { r with warmLow := false }).warmKept).endCause 49 0).bootFirmware newFw := by
  simp [State.warmReleased, low, follows, booting, State.warmKept]

theorem railCollapse_of_on {s : State} (on : s.regs.on = true) :
    s.railCollapse =
      let u := s.each s.openChans fun ch t => t.loseDram ch
      (((u.setObj Obj.padStatus (u.obj Obj.padStatus ||| u.latchMask)).modRst fun r => { r with coldErase := false }).coldActs 7).startVin := by
  simp only [State.railCollapse, on, Bool.not_true, Bool.false_eq_true, if_false]

theorem thermalShutdown_of_powered {s : State} (powered : s.pwr.mode ≠ 5) :
    s.thermalShutdown = (s.modPwr fun p => { p with hotHold := true }).shutDown := if_neg powered

/-- Settles O44: each event in its own case (log entries 112, 113 and 114). -/
theorem resetEventsComplete : Obligations.ResetEventsComplete := by
  rintro s a rfl
  refine ⟨?powerOn, ?refClk, ?noPhase, ?boot, ?cold, ?coldRelease, ?warm, ?warmInWatch, ?warmRelease, ?vaux, ?rail, ?thermal, ?thermalRelease,
    ?retry⟩
  case powerOn =>
    intro vin off
    exact ⟨run_next rfl, powerOn_mode vin off⟩
  case refClk =>
    rintro pass newFw running t waits rfl phases firmware
    exact run_next (refClkValid_of_passing waits phases firmware)
  case noPhase =>
    rintro pass newFw running t waits cold rfl noPhase
    exact run_next (refClkValid_of_no_phase newFw running waits cold noPhase)
  case boot =>
    intro population t x u u' v booting started on notCold notWarm idle follows slot hu hu' hv y z hy hz
    have completes := bootCompletes_of_cold_start population booting started on notCold notWarm idle follows slot
    have populated : t.bootPopulated x population = u' := by rw [hu', hu]; rfl
    have begins : u'.runBegins = (z.modRst fun r => { r with step6 := true }).trySix.alHeld.modRst fun r => { r with shutdown := false } := by
      rw [hz, hy, hv]; rfl
    rw [populated, begins] at completes
    exact run_next completes
  case cold =>
    intro high powered
    exact run_next (coldDetected_of_allowed 2 high powered)
  case coldRelease =>
    rintro t low rfl waits vin cool
    exact run_next ((coldReleased_of_low low).trans (startVin_of_ready waits vin cool rfl))
  case warm =>
    rintro t notCold notWarm mode started rfl
    exact run_next (warmDetected_of_awake 4 ⟨notCold, notWarm, started⟩ mode)
  case warmInWatch =>
    rintro t notCold notWarm watch started rfl
    exact run_next (warmDetected_of_watch 4 ⟨notCold, notWarm, started⟩ watch)
  case warmRelease =>
    rintro newFw t low rfl follows booting
    exact run_next (warmReleased_of_low newFw low follows booting)
  case vaux =>
    intro powered
    exact ⟨run_next rfl, vauxLoss_mode powered⟩
  case rail =>
    rintro u t on rfl rfl
    exact run_next (railCollapse_of_on on)
  case thermal =>
    intro powered
    exact run_next (thermalShutdown_of_powered powered)
  case thermalRelease => exact run_next rfl
  case retry =>
    rintro pass t waits rfl phases
    exact run_next (selfTestAgain_of_passing waits phases)

end Sys2Proof.Machine
end

section
/-! PROOFS. Commands, steps and runs: every command answers, a step takes the front of the queue, and no run stops (R81; log entries 4, 5 and 7). -/

namespace Sys2Proof.Machine

/-- Every command is an effect and what follows it at once: none is rejected, and an event that cannot happen has the effect that changes nothing. -/
theorem exec_answers (c : Instr) (s : State) : ∃ e, exec c s = .next (s.ends e) := by
  cases c <;> exact ⟨_, rfl⟩

theorem step_of_pending {s : State} {c : Instr} {rest : List Instr} (waiting : s.pending = c :: rest) :
    step s = exec c { s with pending := rest } := by
  simp only [step, waiting]

theorem step_of_idle {s : State} (none : s.pending = []) : step s = .next s.idle := by
  simp only [step, none]

theorem idle_pending (s : State) : s.idle.pending = s.pending := by rw [State.idle, State.after]

/-- A step answers, and leaves the commands behind the first. -/
theorem step_next (s : State) : ∃ t, step s = .next t ∧ t.pending = s.pending.tail := by
  cases waiting : s.pending with
  | nil => exact ⟨s.idle, step_of_idle waiting, (idle_pending s).trans waiting⟩
  | cons c rest =>
    obtain ⟨e, answers⟩ := exec_answers c { s with pending := rest }
    exact ⟨_, (step_of_pending waiting).trans answers, ends_pending _ e⟩

/-- So do n steps: each takes the front of what the steps before it left. -/
theorem stepsN_next (n : Nat) (s : State) : ∃ t, stepsN n s = .next t ∧ t.pending = s.pending.drop n := by
  induction n generalizing s with
  | zero => exact ⟨s, rfl, rfl⟩
  | succ n ih =>
    obtain ⟨t, answers, left⟩ := step_next s
    obtain ⟨u, run, drop⟩ := ih t
    exact ⟨u, by simp only [stepsN, answers, run], by rw [drop, left, List.drop_tail]⟩

theorem safeRun_of_next {n : Nat} {s t : State} (run : stepsN n s = .next t) : safeRun n s = true := by
  simp only [safeRun, run]

/-- Settles O58, by induction on the number of steps (log entries 4, 5 and 7 for the queue, the idle step and an event that cannot happen). -/
theorem runsNeverStop : Obligations.RunsNeverStop := by
  intro n s
  obtain ⟨t, run, left⟩ := stepsN_next n s
  exact ⟨safeRun_of_next run, t, run, left⟩

/-- Settles O57: the effect is the one that the command's arm of exec gives. -/
theorem everyCommandAnswers : Obligations.EveryCommandAnswers := by
  intro c s
  obtain ⟨e, answers⟩ := exec_answers c s
  exact ⟨e, answers, ends_pending s e⟩

/-- Settles O59: a step leaves a tail of the queue, so what held of every waiting command still does. -/
theorem waitingCommandsStayWellFormed : Obligations.WaitingCommandsStayWellFormed := by
  intro s t wf runs
  obtain ⟨u, answers, left⟩ := step_next s
  obtain rfl : u = t := by simpa [answers] using runs
  exact ⟨fun c waits => wf c (List.mem_of_mem_tail (left ▸ waits)), left⟩

/-- Settles O1: the two cases of a step (log entry 5 for the clock that passes when no command waits). -/
theorem stepRunsFront : Obligations.StepRunsFront :=
  fun _ _ _ => ⟨step_of_pending, step_of_idle⟩

end Sys2Proof.Machine
end

section
/-! PROOFS. The commands that write one object of the dictionary (R58 to R62): each is a write at the port, of a value that its object can hold, and
does to its block what the command's own rule says. -/

namespace Sys2Proof.Machine

/-- A command that writes one object is that write at the port. -/
theorem exec_writes {c : Instr} {p : Path} {k v0 : Nat} (h : c.writes = some (p, k, v0)) (s : State) :
    exec c s = run s fun t => t.write p k v0 := by
  unfold Instr.writes at h
  split at h <;> cases h <;> rfl

/-! The value that the port reads out of such a write. -/

/-- The largest value of an object, by its row. -/
theorem objMax_of_row {k : Nat} {x : Row} (row : rowOf k = some x) : objMax k = 2 ^ (8 * x.ty.size) - 1 := by
  simp only [objMax, row, Option.map_some, Option.getD_some]

/-- The key of a write of a whole object. -/
theorem wrOf_key (p : Path) (k n v : Nat) : (wrOf p k n v).key = k := Nat.div_add_mod' k 0x100

/-- A write of a whole object takes no half from HIGH_WRITE (R76). -/
theorem wrOf_not_merges (p : Path) (k v : Nat) (x : Row) : (wrOf p k x.ty.size v).merges x = false := by
  have whole : (x.ty.size == 8 && (leBytes x.ty.size v).length == 4) = false := by
    rw [length_leBytes, Bool.and_eq_false_iff, beq_eq_false_iff_ne, beq_eq_false_iff_ne]
    omega
  simp only [Wr.merges, wrOf, Bool.and_assoc, whole, Bool.and_false]

/-- An object of bytes has no size of a number. -/
theorem size_of_bytes {x : Row} (bytes : x.bytes = true) : x.ty.size = 0 := by
  rcases Bool.or_eq_true_iff.1 bytes with dom | str
  · rw [eq_of_beq dom]; rfl
  · rw [eq_of_beq str]; rfl

/-- The port reads the value that the command writes. -/
theorem wrValue_wrOf {s : State} {p : Path} {k v0 : Nat} {x : Row} (row : rowOf k = some x) (fits : v0 ≤ objMax k) :
    s.wrValue x (wrOf p k x.ty.size v0) = v0 := by
  have most := objMax_of_row row ▸ fits
  unfold State.wrValue
  split
  · next bytes => simp only [size_of_bytes bytes, Nat.mul_zero, Nat.pow_zero] at most; omega
  · have small : v0 < 2 ^ (8 * x.ty.size) := by have := Nat.two_pow_pos (8 * x.ty.size); omega
    have data : leNat (wrOf p k x.ty.size v0).data = v0 := by
      rw [wrOf, leNat_leBytes, show 256 = 2 ^ 8 from rfl, ← Nat.pow_mul, Nat.mod_eq_of_lt small]
    simp only [State.rawValue, wrOf_not_merges, Bool.false_eq_true, if_false, data, Nat.mod_eq_of_lt small]

/-! The largest value of each object that a command writes, by the block it belongs to. -/

theorem objMax_ofDictionary : objMax Obj.sessionCmd = 0xFF ∧ objMax Obj.batchCmd = 0xFF ∧ objMax Obj.domainSelect = 0xFFFFFFFF ∧
    objMax Obj.domainData = 0xFFFFFFFF ∧ objMax Obj.opRequest = 0xFF ∧ objMax Obj.shmooOffset = 0xFFFF ∧
    (∀ n : Fin 2, objMax (Obj.pb0CkMult + n) = 0xFF) := by decide +kernel

theorem objMax_ofPower : objMax Obj.pwrRequest = 0xFF ∧ objMax Obj.padRelease = 0xFF ∧ objMax Obj.phaseRestore = 0xFF ∧
    objMax Obj.resetCmd = 0xFF ∧ objMax Obj.hhRequest = 0xFF ∧ objMax Obj.fltResume = 0xFF ∧ objMax Obj.ftw = 0xFFFFFFFFFFFFFFFF ∧
    (∀ op : Fin 4, objMax (Obj.vcoreTrimOp op) = 0xFFFF) ∧ ∀ n : Fin 2, objMax (Obj.dutPhaseRestore n) = 0xFF := by decide +kernel

theorem objMax_ofSettings : objMax Obj.areaWrite = 0xFF ∧ objMax Obj.areaErase = 0xFF ∧
    ∀ (profile restore : Bool) (i : Fin 4), objMax (saveKey profile restore i) = 0xFFFFFFFF := by decide +kernel

theorem objMax_ofStore : objMax Obj.decodeAddress = 0xFFFFFFFFFFFFFFFF ∧ objMax Obj.lockReleaseAll = 0xFF ∧
    objMax Obj.retireAdd = 0xFFFFFFFFFFFFFFFF ∧ objMax Obj.retireRemove = 0xFFFFFFFFFFFFFFFF ∧ objMax Obj.retireClear = 0xFF ∧
    ∀ ch : Fin 4, objMax (Obj.trainCmd ch) = 0xFF ∧ objMax (Obj.flipArm ch) = 0xFF ∧
      objMax (Obj.peekAddress ch) = 0xFFFFFFFFFFFFFFFF := by decide +kernel

theorem objMax_ofProbe (n : Fin 2) : objMax (Obj.pbEnable n) = 0xFF ∧ objMax (Obj.pbCurl n) = 0xFF ∧ objMax (Obj.mrCmd n) = 0xFF ∧
    objMax (Obj.calCmd n) = 0xFF ∧ objMax (Obj.failClear n) = 0xFF ∧ objMax (Obj.dutPower n) = 0xFF ∧
    (∀ site : Fin 8, objMax (Obj.ffArm n site) = 0xFF) ∧
    ∀ k : Fin 3, objMax (Obj.setpoint n k) = 0xFFFF ∧ objMax (Obj.trackReset n k) = 0xFF := by decide +kernel +revert

theorem objMax_ofClient (c : Fin 256) : objMax (Obj.clientEnable c) = 0xFF ∧ objMax (Obj.clientAbort c) = 0xFF := by decide +kernel +revert

theorem objMax_ofHostQueue (q : Fin 4) : objMax (Obj.hqAbort q) = 0xFF ∧ objMax (Obj.hqEnable q) = 0xFF ∧
    objMax (Obj.hqWindowBase q) = 0xFFFFFFFFFFFFFFFF := by decide +kernel +revert

theorem objMax_ofPort (q : Fin 16) : objMax (Obj.portEnable q) = 0xFF ∧ objMax (Obj.portAbort q) = 0xFF ∧ objMax (Obj.retrain q) = 0xFF := by
  decide +kernel +revert

theorem objMax_ofMessage (m : Fin 32) : objMax (Obj.msgGo m) = 0xFF ∧ objMax (Obj.msgRelease m) = 0xFF ∧ objMax (Obj.msgEnable m) = 0xFF := by
  decide +kernel +revert

theorem objMax_ofFabric : objMax Obj.fabAbortFg = 0xFF ∧ objMax Obj.fabAbortBg = 0xFF ∧ objMax Obj.swap = 0xFF ∧ objMax Obj.imageCmd = 0xFF ∧
    objMax Obj.scanCmd = 0xFF ∧ (∀ i : Fin 2, objMax (Obj.ctxCmd i) = 0xFF) ∧ ∀ f : Fin 8, objMax (Obj.frameMove f) = 0xFF := by decide +kernel

/-- Every command that writes one object writes a value that the object can hold. -/
theorem writes_le_objMax {c : Instr} {p : Path} {k v0 : Nat} (h : c.writes = some (p, k, v0)) : v0 ≤ objMax k := by
  unfold Instr.writes at h
  split at h <;> cases h <;>
    simp only [objMax_ofDictionary, objMax_ofPower, objMax_ofSettings, objMax_ofStore, objMax_ofProbe, objMax_ofClient, objMax_ofHostQueue,
      objMax_ofPort, objMax_ofMessage, objMax_ofFabric, saveWord, loadWord] <;> omega

/-! What such a write does to its block. -/

/-- A command's value is 1 where its number is. -/
theorem toNat_eq_one {v : BitVec 8} : v.toNat = 1 ↔ v = 1 := BitVec.toNat_inj (y := 1#8)

theorem blockWrite_hqEnable (t : State) (p : Path) (q : Fin 4) (v : BitVec 8) (old : Nat) (d : List Byte) :
    t.blockWrite p (Obj.hqEnable q) v.toNat old d =
      if old = v.toNat then t else if v.toNat = 1 then t.fillBucket (0x100 + q) else t.startAbort (.host q) 1 false := by
  fin_cases q <;> rfl

/-- The block does what the command's own rule says. The index of a client, a port or a message channel is found by its quotient; every other key is a
number once its index is, and its rule is found by evaluation. -/
theorem blockWrite_of_writes {c : Instr} {p : Path} {k v0 : Nat} {x : Row} (h : c.writes = some (p, k, v0)) (row : rowOf k = some x) (t : State)
    (old : Nat) : t.blockWrite p k v0 old (leBytes x.ty.size v0) = c.effect old t := by
  cases c with
  | hqEnable _ q v => cases h; simp only [blockWrite_hqEnable, toNat_eq_one, Instr.effect]
  | portEnable | portAbort | retrain | clientEnable | clientAbort | msgGo | msgRelease | msgEnable =>
    cases h
    simp (disch := omega) only [State.blockWrite, State.clientWrite, Nat.add_mul_div_right, Nat.add_mul_mod_self_right, Nat.reduceDiv, Nat.reduceMod,
      Nat.add_sub_cancel_left, if_pos, if_neg, if_true, true_or, toNat_eq_one, Instr.effect]
  | nvsStore _ profile i | nvsRestore _ profile i => cases h; cases profile <;> fin_cases i <;> rfl
  | dutSetpoint _ n i _ | trackReset _ n i _ | ffArm _ n i _ => cases h; fin_cases n <;> fin_cases i <;> rfl
  | pbCkMult _ n _ | pbEnable _ n _ | pbCurlOutputs _ n | pbCurlDischarge _ n | mrWrite _ n | mrRead _ n | dutPowerDown _ n | calFull _ n
  | calTrack _ n | failClear _ n _ | ctxStart _ n | ctxStop _ n | ctxUnload _ n | dutPhaseRestore _ n | hqAbort _ n _ | trainCmdSeeded _ n
  | trainCmdFull _ n | flipArm _ n _ | peekAddress _ n _ | hqWindowBase _ n _ | vcoreTrim _ n _ | frameSave _ n | frameFetch _ n
  | frameRelease _ n | frameClear _ n => cases h; fin_cases n <;> rfl
  | domainDataWrite v => cases h; cases row; rfl
  | _ => cases h <;> rfl

/-- The row of the object that a write names. -/
theorem row_of_found {s : State} {w : Wr} {r : Row} (found : s.look w.path w.index w.sub = .found r) : rowOf w.key = some r := row_of_look found

/-- A command that writes one object completes when the port takes its write at once. -/
theorem writeCommand_completes {c : Instr} {p : Path} {k v0 v : Nat} {x r : Row} {s : State} (h : c.writes = some (p, k, v0))
    (row : rowOf k = some x) (takes : s.fresh.Takes (wrOf p k x.ty.size v0) r v) :
    exec c s = .next (s.ends (s.fresh.accepting (wrOf p k x.ty.size v0) r v c.effect)) := by
  have key := wrOf_key p k x.ty.size v0
  obtain rfl : r = x := Option.some.inj ((row_of_found takes.found).symm.trans ((congrArg rowOf key).trans row))
  obtain rfl : v0 = v := (wrValue_wrOf row (writes_le_objMax h)).symm.trans takes.value
  rw [exec_writes h s]
  refine run_next ((write_takes row takes).trans (accept_eq _ _ _ _ _ fun t old => ?_))
  rw [key]
  exact blockWrite_of_writes h row t old

/-- Settles O2 (log entry 26 for the commands that read DONE at once). -/
theorem engineWriteCommandsComplete : Obligations.EngineWriteCommandsComplete := by
  rintro c p k v0 v x r w s a rfl writes - row rfl takes
  exact writeCommand_completes writes row takes

/-- Settles O3 (log entry 26 for RETIRE_*, FLIP_ARM and LOCK_RELEASE_ALL, which read DONE at the end of their own command). -/
theorem storeWriteCommandsComplete : Obligations.StoreWriteCommandsComplete := by
  rintro c p k v0 v x r w s a rfl writes - - row rfl takes
  exact writeCommand_completes writes row takes

/-- Settles O4 (log entry 26 for TRACK_RESET, which reads DONE at once). -/
theorem probeWriteCommandsComplete : Obligations.ProbeWriteCommandsComplete := by
  rintro c p k v0 v x r w s a rfl writes - - row rfl takes
  exact writeCommand_completes writes row takes

/-- Settles O5 (log entries 26 and 31). -/
theorem clientWriteCommandsComplete : Obligations.ClientWriteCommandsComplete := by
  rintro c p k v0 v x r w s a rfl writes - row rfl takes
  exact writeCommand_completes writes row takes

end Sys2Proof.Machine
end

section
/-! PROOFS. What becomes of a write at the dictionary port once the checks before those of acceptance have admitted it (R73, R81, R86). -/

namespace Sys2Proof.Machine

/-- The port lets a write through at once: it passes the checks before those of acceptance, and neither a batch nor the management core holds it. -/
structure State.Passes (s : State) (w : Wr) : Prop where
  up : s.pathUp w.path = true
  heard : s.sidebandMute w = false
  free : s.port.held = []
  plain : w.key ≠ Obj.domainCommit ∨ w.path ≠ .pcie
  admitted : s.portRefuses w = none
  unbatched : s.batchFor w = none
  alone : s.needsCore [w] = false

theorem submit_plain {s : State} {w : Wr} (up : s.pathUp w.path = true) (heard : s.sidebandMute w = false) (free : s.port.held = [])
    (plain : w.key ≠ Obj.domainCommit ∨ w.path ≠ .pcie) : s.submit w = (s.takePlain w).pumpHosts := by
  simp only [State.submit, State.submitGroup, free, List.isEmpty_nil, if_true, State.takeGroup, State.takeWrite, up, heard, Bool.not_true,
    Bool.or_self, Bool.false_eq_true, if_false, if_pos plain]

theorem submit_passes {s : State} {w : Wr} (h : s.Passes w) : s.submit w = (s.conclude [w]).pumpHosts := by
  rw [submit_plain h.up h.heard h.free h.plain]
  simp only [State.takePlain, h.admitted, h.unbatched, State.proceed, h.alone, Bool.not_false, if_true]

theorem conclude_single {s : State} {w : Wr} (single : w.commits = false) : s.conclude [w] = s.decideWrite w := by
  simp only [State.conclude, single, Bool.false_eq_true, if_false]

theorem decideWrite_fits {s : State} {w : Wr} {r : Row} {v : Nat} (spelled : s.spelled w = some (r, v))
    (fits : s.lateCheck (s.tentative r w.key v w.data) w.path r w.key v = none) : s.decideWrite w = s.acceptWrite w r v := by
  simp only [State.decideWrite, spelled, fits]

theorem decideWrite_fails {s : State} {w : Wr} {r : Row} {v e : Nat} (spelled : s.spelled w = some (r, v))
    (fails : s.lateCheck (s.tentative r w.key v w.data) w.path r w.key v = some e) : s.decideWrite w = s.rejectWrite w v e true := by
  simp only [State.decideWrite, spelled, fails]

theorem spelled_of_found {s : State} {w : Wr} {r : Row} (found : s.look w.path w.index w.sub = .found r) : s.spelled w = some (r, s.wrValue r w) := by
  simp only [State.spelled, found]

/-- A write of a number is mute on no path (R91). -/
theorem sidebandMute_of_number {s : State} {w : Wr} (number : ∀ r, rowOf w.key = some r → r.bytes = false) : s.sidebandMute w = false := by
  unfold State.sidebandMute
  split
  · rw [Bool.and_false]
  · next r found => rw [number r (row_of_found found), Bool.and_false]

end Sys2Proof.Machine
end

section
/-! PROOFS. The configuration session (R68 to R72). -/

namespace Sys2Proof.Machine

/-! SESSION_CMD. -/

/-- The row of SESSION_CMD. -/
theorem rowOf_sessionCmd {r : Row} (row : rowOf Obj.sessionCmd = some r) : r.acc = .cmd ∧ r.live = .imm ∧ r.bytes = false ∧ r.ty.size = 1 := by
  cases row
  decide

theorem owns_iff {s : State} {p : Path} (control : p ≠ .fabric) : s.owns p = true ↔ s.session.owner = pathCode p := by
  simp [State.owns, control]

/-- A control path has a code of its own, and 0 names none of them. -/
theorem pathCode_ne_zero {p : Path} (control : p ≠ .fabric) : pathCode p ≠ 0 := by
  cases p with
  | fabric => exact absurd rfl control
  | coe | pcie | sideband => decide

theorem sessionRefused_eq {s : State} {p : Path} (v : Nat) (control : p ≠ .fabric) :
    s.sessionRefused p v = if s.session.owner = pathCode p ∨ (v = 1 ∧ s.session.owner = 0) then none else some 7 := by
  by_cases claim : v = 1
  · simp only [State.sessionRefused, claim, owns_iff control, if_true, true_and, or_comm]
  · simp only [State.sessionRefused, claim, owns_iff control, if_false, false_and, or_false]

theorem sessionCommand_of_free {s : State} (p : Path) (free : s.session.owner = 0) :
    s.sessionCommand p 1 =
      { (s.cmdDone Obj.sessionCmd).bump Obj.sessionGrants with session := { owner := pathCode p, due := s.now + leaseTicks, batch := none } } := by
  have unowned : (s.cmdDone Obj.sessionCmd).session.owner = 0 := free
  simp only [State.sessionCommand, unowned, if_true]
  rfl

theorem sessionCommand_of_owned {s : State} {p : Path} {v : Nat} (renews : v = 1 ∨ v = 2) (control : p ≠ .fabric) (owned : s.session.owner = pathCode p) :
    (s.sessionCommand p v).session = { s.session with due := s.now + leaseTicks } := by
  have held : (s.cmdDone Obj.sessionCmd).session.owner ≠ 0 := owned ▸ pathCode_ne_zero control
  have stays : v ≠ 3 := by omega
  simp only [State.sessionCommand, if_neg stays, if_neg held]
  rfl

/-- No abort has SESSION_CMD for its command. -/
theorem abortTarget_cmd_ne_sessionCmd (t : AbortTarget) : t.cmd ≠ Obj.sessionCmd := by
  cases t with
  | client c => simp only [AbortTarget.cmd, Obj.clientAbort, Obj.sessionCmd]; omega
  | port q => simp only [AbortTarget.cmd, Obj.portAbort, Obj.sessionCmd]; omega
  | host q => simp only [AbortTarget.cmd, Obj.hqAbort, Obj.sessionCmd]; omega
  | ctx i => simp only [AbortTarget.cmd]; split <;> decide

/-- A session command meets the session's own check alone, once no entry has passed A0. -/
theorem lateCheck_sessionCmd {s t : State} {p : Path} {r : Row} {v e : Nat} (row : rowOf Obj.sessionCmd = some r) (awake : s.pastA0 = false)
    (refused : s.sessionRefused p v = some e) : s.lateCheck t p r Obj.sessionCmd v = some e := by
  obtain ⟨cmd, imm, -, -⟩ := rowOf_sessionCmd row
  have noAbort : (s.aborts.any fun a => a.target.cmd == Obj.sessionCmd) = false := by
    simp only [List.any_eq_false, beq_iff_eq]
    exact fun a _ => abortTarget_cmd_ne_sessionCmd a.target
  have own : s.blockCheck t p Obj.sessionCmd v = some e := refused
  have free : freeKey Obj.sessionCmd = true := by decide
  simp only [State.lateCheck, noAbort, cmd, imm, awake, own, firstOf, free, Bool.not_true, Bool.and_false, Bool.false_and, Bool.false_eq_true,
    ↓reduceIte, show (Acc.cmd == Acc.rwp) = false from rfl, show (Live.imm == Live.quiet) = false from rfl]

/-- The write of a session command. -/
abbrev sessionWrite (p : Path) (v : Nat) : Wr := wrOf p Obj.sessionCmd 1 v

/-- SESSION_CMD is neither a batch's end nor an object whose rule the management core checks, and it is mute on no path. -/
theorem passes_sessionCmd {s : State} {p : Path} {v : Nat} (up : s.pathUp p = true) (free : s.port.held = [])
    (admitted : s.portRefuses (sessionWrite p v) = none) (unbatched : s.batchFor (sessionWrite p v) = none) :
    s.Passes (sessionWrite p v) ∧ (sessionWrite p v).commits = false := by
  have key := wrOf_key p Obj.sessionCmd 1 v
  have single : (sessionWrite p v).commits = false := by
    simp only [Wr.commits, key, show (Obj.sessionCmd == Obj.batchCmd) = false by decide, Bool.false_and]
  refine ⟨⟨up, sidebandMute_of_number fun r row => ?number, free, .inl (by rw [key]; decide), admitted, unbatched, ?alone⟩, single⟩
  case number =>
    obtain ⟨-, -, number, -⟩ := rowOf_sessionCmd ((congrArg rowOf key).symm.trans row)
    exact number
  case alone => simp only [State.needsCore, single, key, Bool.false_eq_true, if_false, show crossKey Obj.sessionCmd = false by decide, Bool.false_and]

/-- A session command that its own check refuses is refused at acceptance. -/
theorem write_sessionCmd_refused {s : State} {p : Path} {v e : Nat} {r : Row} (small : v ≤ 0xFF) (up : s.pathUp p = true) (free : s.port.held = [])
    (admitted : s.portRefuses (sessionWrite p v) = none) (unbatched : s.batchFor (sessionWrite p v) = none)
    (found : s.look (sessionWrite p v).path (sessionWrite p v).index (sessionWrite p v).sub = .found r) (awake : s.pastA0 = false)
    (refused : s.sessionRefused p v = some e) : s.write p Obj.sessionCmd v = (s.rejectWrite (sessionWrite p v) v e true).pumpHosts := by
  have key := wrOf_key p Obj.sessionCmd 1 v
  have row : rowOf Obj.sessionCmd = some r := (congrArg rowOf key).symm.trans (row_of_found found)
  obtain ⟨-, -, -, size⟩ := rowOf_sessionCmd row
  have value : s.wrValue r (sessionWrite p v) = v := by
    have fits : v ≤ objMax Obj.sessionCmd := by simpa only [objMax_ofDictionary] using small
    simpa only [size] using wrValue_wrOf (s := s) (p := p) row fits
  have spelled := spelled_of_found found
  rw [value] at spelled
  have fails : s.lateCheck (s.tentative r (sessionWrite p v).key v (sessionWrite p v).data) p r (sessionWrite p v).key v = some e := by
    rw [key]
    exact lateCheck_sessionCmd row awake refused
  obtain ⟨passes, single⟩ := passes_sessionCmd up free admitted unbatched
  rw [← decideWrite_fails spelled fails, ← conclude_single single, ← submit_passes passes, State.write, row, Option.map_some, Option.getD_some, size]

/-- Settles O49 (log entry 6 for the time from which the lease of R70 counts). -/
theorem sessionCommandsDecide : Obligations.SessionCommandsDecide := by
  rintro s a p rfl control
  refine ⟨fun v _ => sessionRefused_eq v control, fun free => ?granted, fun v renews owned => sessionCommand_of_owned renews control owned,
    fun _ => rfl, ?refused⟩
  case granted =>
    have before : (s.fresh.cmdDone Obj.sessionCmd).obj Obj.sessionGrants = s.fresh.obj Obj.sessionGrants := obj_setObj_ne _ _ (by decide)
    have counted := obj_bump (s.fresh.cmdDone Obj.sessionCmd) Obj.sessionGrants Obj.sessionGrants
    rw [if_pos rfl, before] at counted
    rw [sessionCommand_of_free p free]
    exact ⟨rfl, (obj_congr rfl _).trans counted⟩
  case refused =>
    rintro v w r c command rfl up free found admitted unbatched unowned held awake
    obtain ⟨writes, small⟩ : c.writes = some (p, Obj.sessionCmd, v) ∧ v ≤ 0xFF := by
      simp only [List.mem_cons, Prod.mk.injEq, List.not_mem_nil, or_false] at command
      obtain ⟨rfl, rfl⟩ | ⟨rfl, rfl⟩ | ⟨rfl, rfl⟩ := command <;> exact ⟨rfl, by decide⟩
    have refused : s.fresh.sessionRefused p v = some 7 := by
      rw [sessionRefused_eq v control, if_neg]
      rintro (owner | ⟨claim, free⟩)
      · exact unowned owner
      · exact held claim free
    rw [exec_writes writes s]
    exact run_next (write_sessionCmd_refused small up free admitted unbatched found awake refused)

end Sys2Proof.Machine
end

section
/-! PROOFS. Plain, merged, batched, committed and held writes (R58 to R62, R73, R76 to R78, R81, R86). -/

namespace Sys2Proof.Machine

/-- A write that the port takes at once is accepted, with what it does to its block. -/
theorem submit_accepts {s : State} {w : Wr} {r : Row} {v : Nat} (takes : s.Takes w r v) :
    s.submit w = s.accepting w r v fun old t => t.blockWrite w.path w.key v old w.data :=
  (submit_takes takes).trans (accept_eq s w r v _ fun _ _ => rfl)

/-! A 4-byte write of a 64-bit object (R76). -/

/-- A 4-byte BAR0 write. -/
def lowHalf (index sub : Nat) (low : BitVec 32) (poisoned : Bool) : Wr :=
  { path := .pcie, index := index, sub := sub, data := leBytes 4 low.toNat, aligned := true, poisoned := poisoned, form := .slot }

/-- It takes its upper half from HIGH_WRITE. -/
theorem wrValue_lowHalf (s : State) {x : Row} (index sub : Nat) (low : BitVec 32) (poisoned : Bool) (wide : x.ty.size = 8) :
    s.wrValue x (lowHalf index sub low poisoned) = low.toNat + s.obj Obj.highWrite % 2 ^ 32 * 2 ^ 32 := by
  have number : ¬x.bytes = true := fun bytes => by have := size_of_bytes bytes; omega
  have merges : (lowHalf index sub low poisoned).merges x = true := by simp only [Wr.merges, Wr.whole, lowHalf, wide, length_leBytes]; rfl
  have data : leNat (lowHalf index sub low poisoned).data = low.toNat := by
    rw [lowHalf, leNat_leBytes]
    omega
  rw [State.wrValue, if_neg number, State.rawValue, if_pos merges, data, wide]
  omega

theorem highWriteMerge_of_wide {s e : State} {index sub : Nat} {low : BitVec 32} {poisoned : Bool} {x : Row}
    (row : rowOf (lowHalf index sub low poisoned).key = some x) (wide : x.ty.size = 8) (write : s.fresh.submit (lowHalf index sub low poisoned) = e) :
    exec (.highWriteMerge index sub low poisoned) s = .next (s.ends e) := by
  have named : (rowOf (index * 0x100 + sub)).map (fun r => r.ty.size) = some 8 := by
    rw [show rowOf (index * 0x100 + sub) = some x from row, Option.map_some, wide]
  exact run_next ((if_pos named).trans write)

/-! The end of a batch (R73). -/

theorem commitBatch_passes {s t : State} {w : Wr} {ws : List Wr} (batch : s.session.batch = some ws)
    (closed : t = { s with session := { s.session with batch := none } }) (passes : t.groupFails (t.groupTentative ws) ws = none) :
    s.commitBatch w = (((t.acceptAll ws).cmdDone Obj.batchCmd).renewLease).answerTo w.path 0 := by
  subst closed
  simp only [State.commitBatch, batch, passes]

/-- BATCH_CMD is a number. -/
theorem rowOf_batchCmd {r : Row} (row : rowOf Obj.batchCmd = some r) : r.bytes = false := by
  cases row
  rfl

theorem commits_batchCmd (p : Path) : (wrOf p Obj.batchCmd 1 2).commits = true := by
  have key := wrOf_key p Obj.batchCmd 1 2
  simp only [Wr.commits, key, beq_self_eq_true, Bool.true_and]
  rfl

/-! DOMAIN_COMMIT (R77). -/

/-- The number of bytes that DOMAIN_COMMIT names. -/
theorem leNat_domainCommit (count : BitVec 32) : leNat (wrOf .pcie Obj.domainCommit 4 count.toNat).data = count.toNat := by
  rw [wrOf, leNat_leBytes]
  omega

/-- It is the write of the selected object. -/
theorem submit_domainCommit {s : State} {count : BitVec 32} {w : Wr} (up : s.pathUp .pcie = true) (free : s.port.held = [])
    (admitted : s.portRefuses (wrOf .pcie Obj.domainCommit 4 count.toNat) = none) (fits : count.toNat ≤ 65536)
    (target : w = s.commitTarget (wrOf .pcie Obj.domainCommit 4 count.toNat)) : 
    s.submit (wrOf .pcie Obj.domainCommit 4 count.toNat) = (s.takePlain w).pumpHosts := by
  have reaches : s.pathUp (wrOf .pcie Obj.domainCommit 4 count.toNat).path = true := up
  have heard : s.sidebandMute (wrOf .pcie Obj.domainCommit 4 count.toNat) = false := rfl
  have commit : ¬((wrOf .pcie Obj.domainCommit 4 count.toNat).key ≠ Obj.domainCommit ∨ (wrOf .pcie Obj.domainCommit 4 count.toNat).path ≠ .pcie) := by
    rw [wrOf_key]
    simp [wrOf]
  have short : ¬65536 < leNat (wrOf .pcie Obj.domainCommit 4 count.toNat).data := by rw [leNat_domainCommit]; omega
  simp only [State.submit, State.submitGroup, free, List.isEmpty_nil, if_true, State.takeGroup, State.takeWrite, reaches, heard, Bool.not_true,
    Bool.or_self, Bool.false_eq_true, if_false, if_neg commit, admitted, if_neg short, target]

/-! The write that the management core checks (R81, R86). -/

theorem checkDone_accepts {s t u : State} {w : Wr} {r : Row} {v : Nat} (held : s.port.held = [w]) (single : w.commits = false)
    (resumed : t = { s with port := { s.port with held := [] } }) (spelled : t.spelled w = some (r, v))
    (fits : t.lateCheck (t.tentative r w.key v w.data) w.path r w.key v = none) (done : u = (t.acceptWrite w r v).groupDone) :
    s.checkDone = (u.drainPort u.port.queue.length).pumpHosts := by
  have decided : t.conclude [w] = t.acceptWrite w r v := (conclude_single single).trans (decideWrite_fits spelled fits)
  rw [done, ← decided, resumed]
  simp only [State.checkDone, held, List.isEmpty_cons, Bool.false_eq_true, if_false]

@[simp] theorem State.advanceTo_port (s : State) (t : Nat) : (s.advanceTo t).port = s.port := by rw [advanceTo_eq]

/-- Settles O6 (log entry 24 for the bytes of a DOMAIN_COMMIT beyond the staged ones, which read 0; entries 20 and 21 for the end of the management
core's check). -/
theorem portWritesComplete : Obligations.PortWritesComplete := by
  rintro s a rfl
  refine ⟨?plain, ?merged, ?batch, ?commit, ?checked⟩
  case plain =>
    rintro p index sub data aligned poisoned w r v rfl takes
    exact run_next (submit_accepts takes)
  case merged =>
    rintro index sub low poisoned w r v x rfl row wide takes
    obtain rfl : r = x := Option.some.inj ((row_of_found takes.found).symm.trans row)
    exact ⟨highWriteMerge_of_wide row wide (submit_accepts takes), takes.value.symm.trans (wrValue_lowHalf s.fresh index sub low poisoned wide)⟩
  case batch =>
    rintro p w ws t rfl up free admitted unbatched alone batch closed passes
    have key := wrOf_key p Obj.batchCmd 1 2
    have through : s.fresh.Passes (wrOf p Obj.batchCmd 1 2) :=
      ⟨up, sidebandMute_of_number fun r row => rowOf_batchCmd ((congrArg rowOf key).symm.trans row), free, .inl (by rw [key]; decide), admitted,
        unbatched, alone⟩
    have ended : s.fresh.conclude [wrOf p Obj.batchCmd 1 2] = s.fresh.commitBatch (wrOf p Obj.batchCmd 1 2) := by
      simp only [State.conclude, commits_batchCmd, if_true]
    have done := commitBatch_passes (w := wrOf p Obj.batchCmd 1 2) batch closed passes
    exact run_next ((submit_passes through).trans (congrArg State.pumpHosts (ended.trans done)))
  case commit =>
    rintro count w r v up free admitted fits target takes
    have taken : s.fresh.submit w = (s.fresh.takePlain w).pumpHosts := submit_plain takes.up takes.heard free takes.plain
    have path : w.path = .pcie := by rw [target]; rfl
    have accepted := submit_accepts takes
    rw [path] at accepted
    refine ⟨run_next ((submit_domainCommit up free admitted fits target).trans (taken.symm.trans accepted)), by rw [target]; rfl, ?_⟩
    rw [target, State.commitTarget, leNat_domainCommit]
  case checked =>
    rintro us w t r v u awake running held single resumed spelled fits done
    have held' : (s.fresh.advanceTo (s.fresh.now + us.val * usTicks)).port.held = [w] := by rw [State.advanceTo_port]; exact held
    rw [← State.advanceTo_port s.fresh (s.fresh.now + us.val * usTicks)] at resumed
    exact runAwake_next awake ((if_pos running).trans (checkDone_accepts held' single resumed spelled fits done))

end Sys2Proof.Machine
end

section
/-! PROOFS. Refused writes (R79, R84, R85): what a refusal records, and that counting it where a block does leaves the record alone. -/

namespace Sys2Proof.Machine

/-- The second state has the dictionary's status (0x2002), the session and the values that wait of the first. -/
def State.SameStatus (s t : State) : Prop :=
  (∀ k, k / 0x100 = 0x2002 → t.obj k = s.obj k) ∧ t.session = s.session ∧ t.shadows = s.shadows

namespace State.SameStatus

variable {s t u : State}

theorem refl (s : State) : SameStatus s s := ⟨fun _ _ => rfl, rfl, rfl⟩

theorem ite {c : Prop} [Decidable c] (ht : SameStatus s t) (hu : SameStatus s u) : SameStatus s (if c then t else u) := by
  split
  · exact ht
  · exact hu

theorem setObj (h : SameStatus s t) {k v : Nat} (other : k / 0x100 ≠ 0x2002) : SameStatus s (t.setObj k v) := by
  obtain ⟨obj, rest⟩ := h
  exact ⟨fun j status => (obj_setObj_ne t v fun same : j = k => other (same ▸ status)).trans (obj j status), rest⟩

theorem addTo (h : SameStatus s t) {k n : Nat} (other : k / 0x100 ≠ 0x2002) : SameStatus s (t.addTo k n) := h.setObj other

theorem bump (h : SameStatus s t) {k : Nat} (other : k / 0x100 ≠ 0x2002) : SameStatus s (t.bump k) := h.setObj other

theorem setBit (h : SameStatus s t) {k i : Nat} {b : Bool} (other : k / 0x100 ≠ 0x2002) : SameStatus s (t.setBit k i b) := h.setObj other

/-! Emergencies, messages and error lines (R490, R498, R544 to R551). -/

theorem sendEmcy (h : SameStatus s t) : SameStatus s t.sendEmcy := by
  refine ite (addTo ?_ (by decide)) h
  exact h

theorem emcy (h : SameStatus s t) (code : Nat) (d : List Byte) : SameStatus s (t.emcy code d) := by
  refine ite (sendEmcy ?_) (bump h (by decide))
  exact h

theorem msixOn (h : SameStatus s t) (v : Nat) : SameStatus s (t.msixOn v) := by
  refine ite h (ite (bump ?_ (by decide)) ?_)
  · exact h
  · exact h

theorem latchFtw (h : SameStatus s t) (n : Nat) (notify : Bool) : SameStatus s (t.latchFtw n notify) := by
  have sent : SameStatus s ((t.setBit Obj.ftw n true).emcy 0xFF20 (leBytes 1 n ++ leBytes 4 (t.setBit Obj.ftw n true).ts)) :=
    emcy (setBit h (by decide)) ..
  exact ite h (ite (msixOn sent _) sent)

theorem episode (h : SameStatus s t) (n src : Nat) : SameStatus s (t.episode n src) := by
  unfold State.episode
  split
  · repeat refine setObj ?_ (by decide)
    exact h
  · exact latchFtw (setObj (bump (bump (setBit h (by decide)) (by decide)) (by decide)) (by decide)) 63 false

theorem raise (h : SameStatus s t) (n src : Nat) : SameStatus s (t.raise n src) := by
  have counted : SameStatus s (t.bump (Obj.raises n)) := bump h (by unfold Obj.raises; omega)
  have stamped := setObj (v := (t.bump (Obj.raises n)).ts) counted (k := Obj.lastRaiseTs n) (by unfold Obj.lastRaiseTs; omega)
  have sourced := setObj (v := src) stamped (k := Obj.lastSource n) (by unfold Obj.lastSource; omega)
  refine ite ?_ h
  exact episode (latchFtw sourced ..) n src

/-! Reports on the host's link (R491). -/

theorem pcieError (h : SameStatus s t) (e : Nat) : SameStatus s (t.pcieError e) := by
  have counted {u : State} (hu : SameStatus s u) :
      SameStatus s (if e = 4 ∨ e = 13 ∨ e = 17 ∨ e = 18 then u.bump Obj.pcieUncorrectable else u) := ite (bump hu (by decide)) hu
  refine ite (ite ?_ (bump ?_ (by decide))) (ite (raise (counted ?_) ..) (counted ?_))
  all_goals exact h

theorem poisonedTlp (h : SameStatus s t) : SameStatus s t.poisonedTlp := by
  have counted : SameStatus s (t.bump Obj.pciePoisonedRx) := bump h (by decide)
  refine ite (pcieError counted 12) (pcieError ?_ (32 + 13))
  exact counted

end State.SameStatus

/-! What a refusal records (R79, R85). -/

theorem ts_setObj (s : State) (k v : Nat) : (s.setObj k v).ts = s.ts := by
  simp only [State.ts, State.setObj_now, State.setObj_tsOff]

/-- The record of a refusal, but for what a write that was not quiescent adds to it (R64). -/
def State.refusalNoted (s : State) (p : Path) (ix sub e : Nat) : State :=
  (((s.bump Obj.refusalCount).setBit Obj.dictStatus 0 true).setObj Obj.lastRefusal (ix + sub * 2 ^ 16 + e * 2 ^ 24 + pathCode p * 2 ^ 28)).setObj
    Obj.lastRefusalTs s.ts

theorem refuse_eq (s : State) (p : Path) (ix sub e : Nat) : s.refuse p ix sub e =
    if e = 8 then ((s.refusalNoted p ix sub e).bump Obj.quiescentRefusals).setBit Obj.dictStatus 1 true else s.refusalNoted p ix sub e := by
  have stamp : ((s.bump Obj.refusalCount).setBit Obj.dictStatus 0 true).ts = s.ts := by
    simp only [State.ts, State.setBit_now, State.setBit_tsOff, State.bump_now, State.bump_tsOff]
  simp only [State.refuse, State.refusalNoted, ts_setObj, stamp]

/-- The second state is the first with a refusal recorded: the session and the values that wait are as they were (R85). -/
structure State.Refused (s t : State) (p : Path) (ix sub e : Nat) : Prop where
  session : t.session = s.session
  shadows : t.shadows = s.shadows
  count : t.obj Obj.refusalCount = min (objMax Obj.refusalCount) (s.obj Obj.refusalCount + 1)
  last : t.obj Obj.lastRefusal = ix + sub * 2 ^ 16 + e * 2 ^ 24 + pathCode p * 2 ^ 28
  stamp : t.obj Obj.lastRefusalTs = s.ts

theorem refusalNoted_refused (s : State) (p : Path) (ix sub e : Nat) : s.Refused (s.refusalNoted p ix sub e) p ix sub e where
  session := by rw [State.refusalNoted, State.setObj_session, State.setObj_session, State.setBit_session, State.bump_session]
  shadows := by rw [State.refusalNoted, State.setObj_shadows, State.setObj_shadows, State.setBit_shadows, State.bump_shadows]
  count := by simp [State.refusalNoted, obj_setObj, obj_setBit, obj_bump]
  last := by simp [State.refusalNoted, obj_setObj]
  stamp := by simp [State.refusalNoted]

theorem refuse_obj_ne (s : State) (p : Path) (ix sub : Nat) {e k : Nat} (unsettled : e ≠ 8) (count : k ≠ Obj.refusalCount)
    (status : k ≠ Obj.dictStatus) (last : k ≠ Obj.lastRefusal) (stamp : k ≠ Obj.lastRefusalTs) : (s.refuse p ix sub e).obj k = s.obj k := by
  rw [refuse_eq, if_neg unsettled, State.refusalNoted, obj_setObj_ne _ _ stamp, obj_setObj_ne _ _ last, obj_setBit, if_neg status, obj_bump,
    if_neg count]

/-- An object that no part of the record is: its change leaves what was recorded. -/
theorem State.Refused.setObj {s t : State} {p : Path} {ix sub e k v : Nat} (h : s.Refused t p ix sub e) (count : Obj.refusalCount ≠ k)
    (last : Obj.lastRefusal ≠ k) (stamp : Obj.lastRefusalTs ≠ k) : s.Refused (t.setObj k v) p ix sub e :=
  ⟨h.session, h.shadows, (obj_setObj_ne t v count).trans h.count, (obj_setObj_ne t v last).trans h.last, (obj_setObj_ne t v stamp).trans h.stamp⟩

theorem refuse_refused (s : State) (p : Path) (ix sub e : Nat) : s.Refused (s.refuse p ix sub e) p ix sub e := by
  have noted := refusalNoted_refused s p ix sub e
  rw [refuse_eq]
  split
  · have counted : s.Refused ((s.refusalNoted p ix sub e).bump Obj.quiescentRefusals) p ix sub e :=
      noted.setObj (by decide) (by decide) (by decide)
    exact counted.setObj (by decide) (by decide) (by decide)
  · exact noted

/-- What leaves the dictionary's status alone leaves what was recorded. -/
theorem State.Refused.status {s t u : State} {p : Path} {ix sub e : Nat} (h : s.Refused t p ix sub e) (same : t.SameStatus u) :
    s.Refused u p ix sub e := by
  obtain ⟨obj, session, shadows⟩ := same
  exact ⟨session.trans h.session, shadows.trans h.shadows, (obj _ (by decide)).trans h.count, (obj _ (by decide)).trans h.last,
    (obj _ (by decide)).trans h.stamp⟩

/-- The answer of a path is no part of the record. -/
theorem State.Refused.answerTo {s t : State} {p : Path} {ix sub e : Nat} (h : s.Refused t p ix sub e) (q : Path) (reason : Nat) :
    s.Refused (t.answerTo q reason) p ix sub e := by
  cases q with
  | pcie =>
    have answered : s.Refused (t.setObj Obj.pcieLastResult reason) p ix sub e := h.setObj (by decide) (by decide) (by decide)
    exact ⟨answered.session, answered.shadows, answered.count, answered.last, answered.stamp⟩
  | coe | sideband | fabric => exact ⟨h.session, h.shadows, h.count, h.last, h.stamp⟩

theorem answerTo_obj_ne (s : State) (p : Path) (reason : Nat) {k : Nat} (other : k ≠ Obj.pcieLastResult) : (s.answerTo p reason).obj k = s.obj k := by
  cases p with
  | pcie => exact obj_setObj_ne s reason other
  | coe | sideband | fabric => rfl

/-! A write refused before the checks of acceptance. -/

/-- What a refused write counts beside the record: at its message channel (R479), and as a poisoned TLP (R491). -/
theorem rejectWrite_eq (s : State) (w : Wr) (v e : Nat) :
    s.rejectWrite w v e false =
      let t := s.refuse w.path w.index w.sub e
      let u := if 0x4400 ≤ w.index ∧ w.index < 0x4420 ∧ e ≠ 2 then t.bump (Obj.msgRefused (w.index - 0x4400)) else t
      (if w.poisoned ∧ w.path = .pcie then u.poisonedTlp else u).answerTo w.path e := rfl

theorem rejectWrite_refused (s : State) (w : Wr) (v e : Nat) : s.Refused (s.rejectWrite w v e false) w.path w.index w.sub e := by
  have recorded := refuse_refused s w.path w.index w.sub e
  have counted := State.SameStatus.ite (c := 0x4400 ≤ w.index ∧ w.index < 0x4420 ∧ e ≠ 2)
    (State.SameStatus.bump (.refl (s.refuse w.path w.index w.sub e)) (k := Obj.msgRefused (w.index - 0x4400)) (by unfold Obj.msgRefused; omega)) (.refl _)
  rw [rejectWrite_eq]
  exact (recorded.status (.ite counted.poisonedTlp counted)).answerTo ..

theorem rejectWrite_obj_ne (s : State) (w : Wr) (v : Nat) {e k : Nat} (unsettled : e ≠ 8) (intact : ¬(w.poisoned = true ∧ w.path = .pcie))
    (noMessage : ¬(0x4400 ≤ w.index ∧ w.index < 0x4420)) (count : k ≠ Obj.refusalCount) (status : k ≠ Obj.dictStatus) (last : k ≠ Obj.lastRefusal)
    (stamp : k ≠ Obj.lastRefusalTs) (result : k ≠ Obj.pcieLastResult) : (s.rejectWrite w v e false).obj k = s.obj k := by
  have uncounted : ¬(0x4400 ≤ w.index ∧ w.index < 0x4420 ∧ e ≠ 2) := fun h => noMessage ⟨h.1, h.2.1⟩
  simp only [rejectWrite_eq, if_neg uncounted, if_neg intact]
  rw [answerTo_obj_ne _ _ _ result, refuse_obj_ne s _ _ _ unsettled count status last stamp]

/-- Settles O8: the record is that of R85, whatever a message channel or the host's link counts beside it. -/
theorem refusedWriteChangesNothingElse : Obligations.RefusedWriteChangesNothingElse := by
  rintro s a p index sub data aligned poisoned w e rfl rfl up heard free plain refused
  obtain ⟨session, shadows, count, last, stamp⟩ := rejectWrite_refused s.fresh ⟨p, index, sub, data, aligned, poisoned, .slot⟩ 0 e
  refine ⟨run_next (submit_refused up heard free plain refused), ?_, shadows, session, count, last, stamp⟩
  intro k count status last stamp result unsettled intact noMessage
  exact rejectWrite_obj_ne _ _ _ unsettled (fun h => intact h.1 h.2) noMessage count status last stamp result

end Sys2Proof.Machine
end

section
/-! PROOFS. A write of an object that no block acts on (R58, R61, R553). -/

namespace Sys2Proof.Machine

/-! What an access may touch. -/

/-- The second state differs from the first in the objects, the values that wait, the session and the answer of a path alone. -/
def State.AccessOnly (s t : State) : Prop :=
  ∃ dict shadows session answer sb, t = { s with dict := dict, shadows := shadows, session := session, answer := answer, sb := sb }

namespace State.AccessOnly

variable {s t : State}

theorem refl (s : State) : AccessOnly s s := ⟨_, _, _, _, _, rfl⟩

theorem setObj (h : AccessOnly s t) (k v : Nat) : AccessOnly s (t.setObj k v) := by
  obtain ⟨_, _, _, _, _, rfl⟩ := h
  exact ⟨_, _, _, _, _, rfl⟩

theorem dropShadows (h : AccessOnly s t) (p : Shadow → Bool) : AccessOnly s (t.dropShadows p) := by
  obtain ⟨_, _, _, _, _, rfl⟩ := h
  exact ⟨_, _, _, _, _, rfl⟩

theorem renewLease (h : AccessOnly s t) : AccessOnly s t.renewLease := by
  obtain ⟨_, _, _, _, _, rfl⟩ := h
  exact ⟨_, _, _, _, _, rfl⟩

theorem answered (h : AccessOnly s t) (x : Answer) : AccessOnly s { t with answer := x } := by
  obtain ⟨_, _, _, _, _, rfl⟩ := h
  exact ⟨_, _, _, _, _, rfl⟩

theorem answerTo (h : AccessOnly s t) (p : Path) (reason : Nat) : AccessOnly s (t.answerTo p reason) := by
  cases p with
  | pcie => exact (h.setObj Obj.pcieLastResult reason).answered _
  | coe | fabric => exact h.answered _
  | sideband =>
    obtain ⟨_, _, _, _, _, rfl⟩ := h
    exact ⟨_, _, _, _, _, rfl⟩

end State.AccessOnly

/-! The port's part of such a write. -/

/-- With nothing waiting at the host queues, nothing goes on there. -/
theorem pumpHosts_of_empty {s : State} (empty : ∀ q, (s.hq q).items = []) : s.pumpHosts = s := by
  simp only [State.pumpHosts, State.each, List.foldl, empty, List.length_nil, State.pumpHost]

theorem writeWakes_of_run {s : State} (run : s.pwr.mode = 0) : s.writeWakes = s := by
  have awake : ¬s.pwr.mode = 1 := by omega
  exact if_neg awake

/-- The lease starts again where the owner of the session writes (R70). -/
def State.leaseSeen (s : State) (p : Path) : State := if s.owns p then s.renewLease else s

/-- An immediate object of a number takes its value, and no older one waits (R61). -/
theorem objectTakes_imm {s : State} {r : Row} (k v : Nat) (d : List Byte) (plain : r.acc = .rw ∨ r.acc = .wo) (imm : r.live = .imm)
    (number : r.bytes = false) : s.objectTakes r k v d = (s.dropShadows fun h => h.key == k).setObj k (v ||| alwaysSet k) := by
  have takes : s.takeValue r k (v ||| alwaysSet k) d = (s.dropShadows fun h => h.key == k).setObj k (v ||| alwaysSet k) := by
    simp only [State.takeValue, imm, number, Bool.false_eq_true, if_false]
  obtain rw | wo := plain
  · simpa only [State.objectTakes, rw] using takes
  · simpa only [State.objectTakes, wo] using takes

/-- All that an accepted write of an object without an effect does. -/
def State.plainly (s : State) (w : Wr) (v : Nat) : State :=
  (((s.leaseSeen w.path).dropShadows fun h => h.key == w.key).setObj w.key (v ||| alwaysSet w.key)).answerTo w.path 0

theorem plainly_accessOnly (s : State) (w : Wr) (v : Nat) : s.AccessOnly (s.plainly w v) := by
  have seen : s.AccessOnly (s.leaseSeen w.path) := by
    unfold State.leaseSeen
    split
    · exact .renewLease (.refl s)
    · exact .refl s
  exact .answerTo (.setObj (.dropShadows seen _) ..) ..

theorem plainly_obj_self (s : State) {w : Wr} (v : Nat) (other : w.key ≠ Obj.pcieLastResult) :
    (s.plainly w v).obj w.key = (v ||| alwaysSet w.key) := by
  rw [State.plainly, answerTo_obj_ne _ _ _ other, obj_setObj_self]

theorem plainly_obj_ne (s : State) {w : Wr} {k : Nat} (v : Nat) (other : k ≠ w.key) (result : k ≠ Obj.pcieLastResult) :
    (s.plainly w v).obj k = s.obj k := by
  have seen : (s.leaseSeen w.path).obj k = s.obj k := by
    unfold State.leaseSeen
    split
    · exact obj_renewLease ..
    · rfl
  rw [State.plainly, answerTo_obj_ne _ _ _ result, obj_setObj_ne _ _ other, obj_dropShadows, seen]

/-- An accepted write of an object without an effect, in RUN, is that and nothing else. -/
theorem accepting_plain {s : State} {w : Wr} {r : Row} {v : Nat} (plain : r.acc = .rw ∨ r.acc = .wo) (imm : r.live = .imm) (number : r.bytes = false)
    (run : s.pwr.mode = 0) (whole : w.merges r = false) (noQuota : rqOfKey w.key = none) (slot : w.form = .slot)
    (empty : ∀ q, (s.hq q).items = []) : s.accepting w r v (fun _ x => x) = s.plainly w v := by
  have still : ∀ q, ((s.plainly w v).hq q).items = [] := by
    obtain ⟨_, _, _, _, _, touched⟩ := plainly_accessOnly s w v
    rw [touched]
    exact empty
  have taken (t : State) (d : List Byte) := objectTakes_imm (s := t) w.key v d plain imm number
  have unquoted (t : State) : t.beforeWrite w.key = t := by simp only [State.beforeWrite, noQuota]
  have noCommit : ¬w.form = .commit := by rw [slot]; decide
  simp only [State.accepting, writeWakes_of_run run, ite_self, whole, Bool.false_eq_true, if_false, unquoted, taken, if_neg noCommit]
  exact pumpHosts_of_empty still

/-- Settles O60: the write is accepted, its block does nothing, and nothing falls due. -/
theorem plainWriteChangesOneObject : Obligations.PlainWriteChangesOneObject := by
  rintro s a t p index sub data w r v rfl hw takes plain imm number run whole noQuota noEffect empty ht calm
  have path : w.path = p := by rw [hw]
  have bytes : w.data = data := by rw [hw]
  have plainly : t = s.fresh.plainly w v := ht.trans (accepting_plain plain imm number run whole noQuota (by rw [hw]) empty)
  have result : w.key ≠ Obj.pcieLastResult := by
    intro same
    have row := row_of_found takes.found
    rw [same] at row
    cases row
    revert plain
    decide
  have accepted : s.fresh.submit w = t :=
    (submit_takes takes).trans ((accept_eq _ w r v _ fun x old => path ▸ bytes ▸ noEffect x old).trans ht.symm)
  have frame := plainly_accessOnly s.fresh w v
  rw [← plainly] at frame
  refine ⟨?completes, plainly ▸ plainly_obj_self _ _ result, fun k other last => plainly ▸ plainly_obj_ne _ _ other last, ?_⟩
  case completes =>
    have pending : t.pending = s.pending := by
      obtain ⟨_, _, _, _, _, touched⟩ := frame
      rw [touched]
      rfl
    rw [← ends_calm s t calm pending]
    subst hw
    exact run_next accepted
  obtain ⟨_, _, _, _, _, rfl⟩ := frame
  exact ⟨rfl, rfl, rfl, rfl, rfl, rfl, rfl, rfl, rfl, rfl, rfl⟩

end Sys2Proof.Machine
end

section
/-! PROOFS. Reads through the windows, refused reads and the ends of the session (R57, R70, R71, R75 to R79, R85). -/

namespace Sys2Proof.Machine

/-! A read that reaches the dictionary. -/

theorem objectRead_ready {s : State} {p : Path} (ix sb n : Nat) (aligned : Bool) (ready : s.canRead p = true) :
    s.objectRead p ix sb n aligned = s.readNow p ix sb n aligned := by
  simp only [State.objectRead, pathUp_of_canRead ready, ready, Bool.not_true, Bool.false_eq_true, if_false, if_true]

theorem objectRead_refused {s : State} {p : Path} {ix sb n e : Nat} {aligned : Bool} (ready : s.canRead p = true)
    (refused : s.readRefused p ix sb n aligned = some e) : s.objectRead p ix sb n aligned = s.rejectRead p ix sb n e := by
  simp only [objectRead_ready ix sb n aligned ready, State.readNow, refused]

theorem objectRead_given {s : State} {p : Path} {ix sb n : Nat} {aligned : Bool} {r : Row} (ready : s.canRead p = true)
    (admitted : s.readRefused p ix sb n aligned = none) (found : s.look p ix sb = .found r) :
    s.objectRead p ix sb n aligned = s.giveRead p r ix sb n := by
  simp only [objectRead_ready ix sb n aligned ready, State.readNow, admitted, found]

/-- A BAR0 read waits behind the host's writes that are not decided (R78). -/
theorem objectRead_waits {s : State} (ix sb n : Nat) (aligned : Bool) (up : s.pathUp .pcie = true) (waits : s.pcieWaits = true) :
    s.objectRead .pcie ix sb n aligned = s.waitRead ix sb n aligned := by
  have behind : s.canRead .pcie = false := by simp only [State.canRead, waits, Bool.not_true, bne_self_eq_false, Bool.or_self, Bool.and_false]
  simp only [State.objectRead, up, behind, Bool.not_true, Bool.false_eq_true, if_false]

/-- Four aligned bytes of an object that can be read are given over BAR0 (R75). -/
theorem readRefused_four {s : State} {ix sb : Nat} {r : Row} (found : s.look .pcie ix sb = .found r) (readable : r.acc ≠ .wo) :
    s.readRefused .pcie ix sb 4 true = none := by
  have size : r.sizeOk .pcie 4 true = true := rfl
  have access : ¬(r.acc == .wo) = true := by simpa using readable
  simp only [State.readRefused, found, size, Bool.not_true, Bool.false_eq_true, if_false, if_neg access]

/-! The windows of BAR0 (R76, R77). -/

/-- The row of DOMAIN_DATA: a number of four bytes, which is read and written. -/
theorem rowOf_domainData {r : Row} (row : rowOf Obj.domainData = some r) : r.ty.size = 4 ∧ r.acc = .rw := by
  cases row
  decide

theorem highRead_of_wide {s : State} {ix sb : Nat} {r : Row} (ready : s.canRead .pcie = true) (found : s.look .pcie ix sb = .found r)
    (wide : r.ty.size = 8) (number : r.bytes = false) (readable : r.acc ≠ .wo) : s.highRead ix sb = s.highCopy (ix * 0x100 + sb) := by
  have other : ix * 0x100 + sb ≠ Obj.domainData := by
    intro same
    have narrow := (rowOf_domainData (same ▸ row_of_look found)).1
    omega
  have given : s.giveRead .pcie r ix sb 4 = s.highCopy (ix * 0x100 + sb) := by
    simp only [State.giveRead, if_true, if_neg other, wide, number, Bool.not_false, and_self]
  have asked : r.ty.size = 8 ∧ (!r.bytes) = true ∧ r.acc ≠ .wo := ⟨wide, by rw [number]; rfl, readable⟩
  simp only [State.highRead, found, if_pos asked, objectRead_given ready (readRefused_four found readable) found, given]

/-- DOMAIN_DATA exists for the host on every part. -/
theorem look_domainData (s : State) : ∃ r, s.look .pcie (Obj.domainData / 256) (Obj.domainData % 256) = .found r ∧ r.acc = .rw := by
  obtain ⟨r, row⟩ : ∃ r, rowOf (0x2003 * 0x100 + 5) = some r := ⟨_, rfl⟩
  have seen : s.indexOn .pcie 0x2003 = true := by
    have listed : indexExists 0x2003 = true := by decide
    simp [State.indexOn, State.fusedOff, listed]
  have named : ¬(0x100 ≤ 5 ∨ s.part = .ft4016 ∧ (0x2003 * 0x100 + 5 = Obj.pb0CkMult ∨ 0x2003 * 0x100 + 5 = Obj.pb0CkMult + 1)) := by
    rintro (large | ⟨-, first | second⟩) <;> contradiction
  refine ⟨r, ?_, (rowOf_domainData row).2⟩
  rw [show Obj.domainData / 256 = 0x2003 from rfl, show Obj.domainData % 256 = 5 from rfl, State.look, seen]
  simp only [Bool.not_true, Bool.false_eq_true, if_false, if_neg named, row]

theorem domainRead_of_ready {s : State} (ready : s.canRead .pcie = true) : s.domainRead = s.domainMoves := by
  obtain ⟨r, found, rw⟩ := look_domainData s
  have readable : r.acc ≠ .wo := by rw [rw]; decide
  have given : s.giveRead .pcie r (Obj.domainData / 256) (Obj.domainData % 256) 4 = s.domainMoves := by
    simp only [State.giveRead, if_true]
    rfl
  exact (objectRead_given ready (readRefused_four found readable) found).trans given

theorem domainMoves_of_found {s : State} {r : Row}
    (found : s.look .pcie (s.obj Obj.domainSelect % 65536) (s.obj Obj.domainSelect / 65536) = .found r) :
    s.domainMoves = { s.setObj Obj.domainOffset ((s.obj Obj.domainOffset + 4) % 2 ^ 32) with
      answer := { path := .pcie, reason := 0, data := (((s.readBytes r (s.obj Obj.domainSelect % 65536 * 0x100 + s.obj Obj.domainSelect / 65536)).drop
        (s.obj Obj.domainOffset)).take 4 ++ zeros 4).take 4 } } := by
  simp only [State.domainMoves, found]

/-! The ends of the session (R70, R71). -/

theorem leaseExpires_of_held {s : State} (held : s.session.owner ≠ 0) :
    s.leaseExpires = ({ s.advanceTo s.session.due with session := {} }).bump Obj.sessionExpiries := if_neg held

theorem dropSession_of_owner {s : State} {p : Path} (control : p ≠ .fabric) (owned : s.session.owner = pathCode p) :
    s.dropSession p = ({ s with session := {} }).bump Obj.sessionDrops := if_pos ⟨control, owned⟩

/-- Settles O7 (log entry 6 for a lease that ends exactly at its due time). -/
theorem readsAndSessionComplete : Obligations.ReadsAndSessionComplete := by
  rintro s a rfl
  refine ⟨?high, ?domain, ?refused, ?given, ?waits, ?expires, ?drops⟩
  case high =>
    rintro index sub r v ready found wide number readable rfl
    exact run_next (highRead_of_wide ready found wide number readable)
  case domain =>
    rintro r t o d ready rfl rfl found rfl
    exact run_next ((domainRead_of_ready ready).trans (domainMoves_of_found found))
  case refused =>
    intro p index sub n aligned e ready refused
    exact run_next (objectRead_refused ready refused)
  case given =>
    intro p index sub n aligned r ready admitted found
    exact run_next (objectRead_given ready admitted found)
  case waits =>
    intro index sub n aligned up waits
    exact run_next (objectRead_waits index sub n aligned up waits)
  case expires =>
    intro awake held
    exact runAwake_next awake (leaseExpires_of_held held)
  case drops =>
    intro p control owned
    exact run_next (dropSession_of_owner control owned)

end Sys2Proof.Machine
end

section
/-! PROOFS. What reset leaves (R94, R614, R632). -/

namespace Sys2Proof.Machine

/-- Reset lists one object, and every object that is not listed reads its default. -/
theorem obj_reset (k : Nat) : State.reset.obj k = if k = Obj.vinStatus then 1 else objDefault k := by
  simp only [State.obj, State.reset, mapGet, eq_comm]

/-- Settles O45 (log entries 1 and 2). -/
theorem resetLeaves : Obligations.ResetLeaves := by
  refine ⟨fun k other => ?objects, ?vin, rfl, rfl, rfl, rfl, rfl, rfl, rfl, rfl, rfl, rfl, rfl, rfl, rfl, rfl⟩
  case objects => rw [obj_reset, if_neg other]
  case vin => rw [State.bit, obj_reset, if_pos rfl]; decide

end Sys2Proof.Machine
end

section
/-! PROOFS. What a request packet spells: the fields of its header, the bytes of its data blocks and the operands of a LOCK (R111, R112). -/

namespace Sys2Proof.Machine

/-! Bytes and data blocks. -/

/-- Bytes filled with zeros and cut: zeros stand where the bytes end before the cut. -/
theorem take_append_zeros {m n : Nat} (d : List Byte) (h : n ≤ m) : (d ++ zeros m).take n = d.take n ++ zeros (n - d.length) := by
  rw [zeros, List.take_append, List.take_replicate, Nat.min_eq_left (by omega)]
  rfl

/-- Bytes of a length that is a sum are those of its two parts. -/
theorem padded_add (m n : Nat) (d : List Byte) :
    (d ++ zeros (m + n)).take (m + n) = (d ++ zeros m).take m ++ (d.drop m ++ zeros n).take n := by
  have rest : (d ++ zeros (m + n)).drop m = d.drop m ++ zeros (m + n - (m - d.length)) := by
    rw [List.drop_append, zeros, List.drop_replicate]
    rfl
  rw [List.take_add, rest, take_append_zeros _ (Nat.le_add_right m n), take_append_zeros _ (Nat.le_refl m),
    take_append_zeros _ (show n ≤ m + n - (m - d.length) by omega), take_append_zeros _ (Nat.le_refl n)]

/-- The bytes of the number that bytes spell are those bytes. -/
theorem leBytes_leNat (n : Nat) (d : List Byte) : leBytes n (leNat d) = (d ++ zeros n).take n := by
  induction n generalizing d with
  | zero => rfl
  | succ n ih =>
    cases d with
    | nil => simpa [leBytes, leNat, zeros, List.replicate_succ] using ih []
    | cons b d =>
      have low : BitVec.ofNat 8 (b.toNat + 256 * leNat d) = b := BitVec.eq_of_toNat_eq (by simp; omega)
      have high : (b.toNat + 256 * leNat d) / 256 = leNat d := by omega
      rw [leNat, leBytes, low, high, ih, List.cons_append, List.take_succ_cons, take_append_zeros d (Nat.le_refl n),
        take_append_zeros d (Nat.le_succ n)]

theorem length_blocksOf (n : Nat) (d : List Byte) : (blocksOf n d).length = n := by
  induction n generalizing d with
  | zero => rfl
  | succ n ih => rw [blocksOf, List.length_cons, ih]

/-- Data blocks carry the bytes they are made of, and zeros past their end. -/
theorem flatMap_leBytes_blocksOf (n : Nat) (d : List Byte) : (blocksOf n d).flatMap (leBytes 8) = (d ++ zeros (8 * n)).take (8 * n) := by
  induction n generalizing d with
  | zero => rfl
  | succ n ih =>
    have first : leBytes 8 (leNat (d.take 8)) = (d ++ zeros 8).take 8 := by
      rw [leBytes_leNat, take_append_zeros _ (Nat.le_refl 8), take_append_zeros _ (Nat.le_refl 8), List.take_take, Nat.min_self, List.length_take]
      congr 2
      omega
    rw [blocksOf, List.flatMap_cons, ih, first, Nat.mul_succ, Nat.add_comm, padded_add]

/-! The header (R111). -/

theorem fld_eq_div_mod (lo w v : Nat) : fld lo w v = v / 2 ^ lo % 2 ^ w := by rw [fld, Nat.shiftRight_eq_div_pow]

theorem b2n_le_one (b : Bool) : b2n b ≤ 1 := by cases b <;> decide

/-- A bit that carries a Boolean reads it back. -/
theorem bitOf_of_b2n {v i : Nat} {b : Bool} (carried : v / 2 ^ i % 2 = b2n b) : bitOf v i = b := by
  rw [bitOf, Nat.testBit_eq_decide_div_mod_eq, carried]
  cases b <;> rfl

section
variable {opcode sub tag lines addr : Nat} (posted ordered lockstep : Bool)

/-- The header fits its block. -/
theorem h0Of_lt (hop : opcode < 16) : h0Of opcode sub tag posted ordered lockstep lines addr < 2 ^ 64 := by
  have hp := b2n_le_one posted
  have ho := b2n_le_one ordered
  have hk := b2n_le_one lockstep
  unfold h0Of
  omega

/-- Bits [42:40] of a header are reserved. -/
@[simp] theorem reserved_h0Of : fld 40 3 (h0Of opcode sub tag posted ordered lockstep lines addr) = 0 := by
  simp only [fld_eq_div_mod, h0Of]
  omega

/-- The header reads back as its fields, each in its place. -/
theorem headOf_h0Of (hop : opcode < 16) (hsub : sub < 16) (htag : tag < 256) (atLeast : 1 ≤ lines) (atMost : lines ≤ 4) (haddr : addr < 2 ^ 40) :
    headOf (h0Of opcode sub tag posted ordered lockstep lines addr) = ⟨opcode, sub, tag, posted, ordered, lockstep, lines, addr⟩ := by
  have hp := b2n_le_one posted
  have ho := b2n_le_one ordered
  have hk := b2n_le_one lockstep
  simp only [headOf, Head.mk.injEq, fld_eq_div_mod, h0Of]
  refine ⟨?opcode, ?sub, ?tag, bitOf_of_b2n ?posted, bitOf_of_b2n ?ordered, bitOf_of_b2n ?lockstep, ?lines, ?addr⟩ <;> omega

end

/-! The second block of a LOCK (R112). -/

theorem lockRange_read {range : Nat} (lease : Nat) (h : range < 2 ^ 24) : fld 0 24 (range + lease * 2 ^ 54) = range := by
  rw [fld_eq_div_mod]
  omega

theorem lockLease_read {range lease : Nat} (h : range < 2 ^ 24) (h' : lease < 2 ^ 10) : fld 54 10 (range + lease * 2 ^ 54) = lease := by
  rw [fld_eq_div_mod]
  omega

theorem lockReserved_read {range : Nat} (lease : Nat) (h : range < 2 ^ 24) : fld 24 30 (range + lease * 2 ^ 54) = 0 := by
  rw [fld_eq_div_mod]
  omega

/-! The request that a packet spells. -/

/-- A WRITE carries the bytes of its lines. -/
theorem reqOf_write_data (c lines h0 : Nat) (h : Head) (d : List Byte) :
    (reqOf c .write h (h0 :: blocksOf (8 * lines) d)).data = (d ++ zeros (64 * lines)).take (64 * lines) := by
  have bytes : 64 * lines = 8 * (8 * lines) := by omega
  rw [bytes, ← flatMap_leBytes_blocksOf]
  rfl

/-- A WRITE_MASKED carries the bytes of its line. -/
theorem reqOf_masked_data (c h0 mask : Nat) (h : Head) (d : List Byte) :
    (reqOf c .masked h (h0 :: mask :: blocksOf 8 d)).data = (d ++ zeros 64).take 64 := by
  rw [← flatMap_leBytes_blocksOf 8]
  rfl

theorem reqOf_masked_mask (c h0 mask : Nat) (h : Head) (data : List Nat) : (reqOf c .masked h (h0 :: mask :: data)).mask = mask := rfl

theorem reqOf_lock_range (c h0 h1 : Nat) (h : Head) : (reqOf c .lock h [h0, h1]).range = fld 0 24 h1 := rfl

theorem reqOf_lock_lease (c h0 h1 : Nat) (h : Head) : (reqOf c .lock h [h0, h1]).lease = fld 54 10 h1 := rfl

/-- Settles O15. -/
theorem requestPacketsSpellTheirRequests : Obligations.RequestPacketsSpellTheirRequests := by
  rintro opcode sub tag lines addr posted ordered lockstep hop hsub htag atLeast atMost haddr h0 h rfl rfl
  refine ⟨h0Of_lt posted ordered lockstep hop, headOf_h0Of posted ordered lockstep hop hsub htag atLeast atMost haddr, fun c d => ?write,
    fun c mask d _ => ?masked, fun c range lease hrange hlease => ?lock⟩
  case write => exact reqOf_write_data ..
  case masked => exact ⟨reqOf_masked_mask .., reqOf_masked_data ..⟩
  case lock =>
    rw [reqOf_lock_range, reqOf_lock_lease]
    exact ⟨lockRange_read lease hrange, lockLease_read hrange hlease⟩

end Sys2Proof.Machine
end

section
/-! PROOFS. The requests of a stream port: a good packet is taken with what it spells (R106, R109 to R114, R134). -/

namespace Sys2Proof.Machine

/-- A command of a requester at an open ingress ends with its effect. -/
theorem runIngress_next {s e : State} {f : State → State} (awake : s.fresh.awake = true) (opened : s.fresh.ingressClosed = false)
    (effect : f s.fresh.requestWakes = e) : runIngress s f = .next (s.ends e) := effect ▸ runIngress_eq s f awake opened

/-! The opcodes (R111). -/

theorem kindOf_opcode (k : ReqKind) : kindOf k.opcode = some k := by cases k <;> rfl

theorem opcode_lt (k : ReqKind) : k.opcode < 16 := by cases k <;> decide

/-! Acceptance (R112, R113, R134). -/

/-- No request of the client waits with this tag, and there is room for one more answer (R113). -/
def State.tagFree (s : State) (c tag : Nat) : Bool :=
  !((s.outstanding c).any fun r => r.tag == tag) && decide ((s.outstanding c).length < 64)

/-- The request that well-shaped blocks spell; data can still be to come in a write alone. -/
def requestOf (c : Nat) (k : ReqKind) (h : Head) (blocks : List Nat) (openData : Bool) : Req :=
  { reqOf c k h blocks with openData := openData && k.isWrite }

/-- Blocks in the shape of R112 are taken as the request that they spell, from a client that is served and has a credit (R134). A posted request
needs no tag and no room for an answer. -/
theorem takeBlocks_of_shapeOk {s : State} {p h0 : Nat} {rest : List Nat} {openData : Bool} {h : Head} {k : ReqKind} (head : headOf h0 = h)
    (kind : kindOf h.opcode = some k) (shape : k.shapeOk h h0 (rest.getD 0 0) = true) (length : rest.length + 1 = k.lengthBlocks h.lines)
    (free : h.posted = true ∨ s.tagFree (16 * p + h.sub) h.tag = true) (credit : 0 < s.credit (16 * p + h.sub))
    (served : s.clientServed (16 * p + h.sub) = true) :
    s.takeBlocks p (h0 :: rest) openData = s.takeRequest (requestOf (16 * p + h.sub) k h (h0 :: rest) openData) := by
  have second : (h0 :: rest).getD 1 0 = rest.getD 0 0 := rfl
  have answerable : (h.posted || !(s.outstanding (16 * p + h.sub)).any fun r => r.tag == h.tag) = true ∧
      (h.posted || decide ((s.outstanding (16 * p + h.sub)).length < 64)) = true := by
    obtain posted | free := free
    · simp only [posted, Bool.true_or, and_self]
    · obtain ⟨untagged, room⟩ := Bool.and_eq_true_iff.1 free
      exact ⟨by rw [untagged, Bool.or_true], by rw [room, Bool.or_true]⟩
  obtain ⟨untagged, room⟩ := answerable
  simp only [State.takeBlocks, List.headD_cons, head, kind, second, shape, untagged, room, List.length_cons, length, credit, served, beq_self_eq_true,
    decide_true, Bool.and_self, if_true, requestOf]

/-! What the blocks of the longer packets spell. -/

theorem requestOf_write (c lines h0 : Nat) (h : Head) (d : List Byte) (openData : Bool) :
    requestOf c .write h (h0 :: blocksOf (8 * lines) d) openData =
      ({ serial := 0, rq := c, kind := .write, tag := h.tag, addr := h.addr, lines := h.lines, posted := h.posted, ordered := h.ordered,
         lockstep := h.lockstep, data := (d ++ zeros (64 * lines)).take (64 * lines), openData := openData,
         words := h0 :: blocksOf (8 * lines) d } : Req) := by
  rw [← reqOf_write_data c lines h0 h d, requestOf, show ReqKind.write.isWrite = true from rfl, Bool.and_true]
  rfl

theorem requestOf_masked (c h0 mask : Nat) (h : Head) (d : List Byte) (openData : Bool) :
    requestOf c .masked h (h0 :: mask :: blocksOf 8 d) openData =
      ({ serial := 0, rq := c, kind := .masked, tag := h.tag, addr := h.addr, lines := h.lines, posted := h.posted, ordered := h.ordered,
         lockstep := h.lockstep, data := (d ++ zeros 64).take 64, mask := mask, openData := openData,
         words := h0 :: mask :: blocksOf 8 d } : Req) := by
  rw [← reqOf_masked_data c h0 mask h d, requestOf, show ReqKind.masked.isWrite = true from rfl, Bool.and_true]
  rfl

theorem requestOf_lock (c h0 : Nat) (h : Head) {range lease : Nat} (fits : range < 2 ^ 24) (fits' : lease < 2 ^ 10) :
    requestOf c .lock h [h0, range + lease * 2 ^ 54] false =
      ({ serial := 0, rq := c, kind := .lock, tag := h.tag, addr := h.addr, lines := h.lines, posted := h.posted, ordered := h.ordered,
         lockstep := h.lockstep, range := range, lease := lease, words := [h0, range + lease * 2 ^ 54] } : Req) := by
  simp only [requestOf, reqOf, Bool.false_and, List.getD_cons_succ, List.getD_cons_zero, lockRange_read lease fits,
    lockLease_read fits fits', reduceCtorEq, if_true, if_false]

/-- A LOCK of at least one line for 1 to 1000 µs has the shape of R112. -/
theorem shapeOk_lock {sub tag addr range lease : Nat} (aligned : addr % 64 = 0) (lines : 1 ≤ range) (fits : range < 2 ^ 24) (held : 1 ≤ lease)
    (fits' : lease < 2 ^ 10) (bounded : lease ≤ 1000) :
    ReqKind.lock.shapeOk ⟨ReqKind.lock.opcode, sub, tag, false, false, false, 1, addr⟩
      (h0Of ReqKind.lock.opcode sub tag false false false 1 addr) ([range + lease * 2 ^ 54].getD 0 0) = true := by
  simp only [ReqKind.shapeOk, List.getD_cons_zero, reserved_h0Of, aligned, lockReserved_read lease fits,
    lockRange_read lease fits, lockLease_read fits fits', lines, held, bounded, beq_self_eq_true, Bool.not_false, decide_true, Bool.and_self]

/-! Reception (R106, R108). -/

/-- The state in which the link layer leaves a good packet to its client: the next SEQ is expected, and an acknowledgement is owed. -/
def State.packetSeen (s : State) (p : Nat) : State :=
  (s.modSp p fun x => { x with rxSeq := (x.rxSeq + 1) % 4096, discarding := false }).oweAck p

theorem rxGood_of_active {s : State} {p : Nat} (blocks : List Nat) (openData : Bool) (active : s.linkActive p = true) :
    s.rxGood p blocks openData = (s.packetSeen p).takeBlocks p blocks openData := by
  simp only [State.rxGood, active, Bool.not_true, Bool.false_eq_true, if_false, State.packetSeen]

/-- A client that can send a request: its link is ACTIVE at an open ingress, and once its packet is seen, in state `t`, it is served and has a
credit. -/
structure State.Hears (s t : State) (port sub : Fin 16) : Prop where
  awake : s.fresh.awake = true
  opened : s.fresh.ingressClosed = false
  active : s.fresh.requestWakes.linkActive port = true
  seen : t = s.fresh.requestWakes.packetSeen port
  credit : 0 < t.credit (16 * port + sub)
  served : t.clientServed (16 * port + sub) = true

/-- The command of a request in the shape of its kind takes that request. -/
theorem rxRequest_taken {s t : State} {port sub : Fin 16} (hears : s.Hears t port sub) (k : ReqKind) {tag : BitVec 8} {lines : Nat} {addr : BitVec 40}
    {posted ordered lockstep : Bool} {rest : List Nat} {r : Req} (openData : Bool) (atLeast : 1 ≤ lines) (atMost : lines ≤ 4)
    (shape : k.shapeOk ⟨k.opcode, sub, tag.toNat, posted, ordered, lockstep, lines, addr.toNat⟩
      (h0Of k.opcode sub tag.toNat posted ordered lockstep lines addr.toNat) (rest.getD 0 0) = true)
    (length : rest.length + 1 = k.lengthBlocks lines) (free : posted = true ∨ t.tagFree (16 * port + sub) tag.toNat = true)
    (spelt : requestOf (16 * port + sub) k ⟨k.opcode, sub, tag.toNat, posted, ordered, lockstep, lines, addr.toNat⟩
      (h0Of k.opcode sub tag.toNat posted ordered lockstep lines addr.toNat :: rest) openData = r) :
    runIngress s (fun s => s.rxRequest port k.opcode sub tag.toNat posted ordered lockstep lines addr.toNat rest openData) =
      .next (s.ends (t.takeRequest r)) := by
  refine runIngress_next hears.awake hears.opened ?_
  rw [← spelt, State.rxRequest, rxGood_of_active _ _ hears.active, ← hears.seen]
  exact takeBlocks_of_shapeOk (headOf_h0Of posted ordered lockstep (opcode_lt k) sub.isLt tag.isLt atLeast atMost addr.isLt) (kindOf_opcode k) shape
    length free hears.credit hears.served

/-- Settles O14 (log entry 29: the command of a request stands for a good packet in sequence). -/
theorem streamRequestsAreTaken : Obligations.StreamRequestsAreTaken := by
  rintro s a t port sub tag rfl awake opened active seen credit served free hfree
  have hears : s.Hears t port sub := ⟨awake, opened, active, seen, credit, served⟩
  have tagFree (h : free = true) : t.tagFree (16 * port + sub) tag.toNat = true := hfree.symm.trans h
  refine ⟨?read, ?lockstep, ?write, ?masked, ?fence, ?lock, ?unlock⟩
  case read =>
    rintro lines addr h0 untagged aligned rfl
    exact rxRequest_taken hears .read false (Nat.le_add_left ..) lines.isLt (by simp [ReqKind.shapeOk, aligned]) rfl
      (.inr (tagFree untagged)) rfl
  case lockstep =>
    rintro lines addr h0 untagged aligned rfl
    exact rxRequest_taken hears .read false (Nat.le_add_left ..) lines.isLt (by simp [ReqKind.shapeOk, aligned]) rfl
      (.inr (tagFree untagged)) rfl
  case write =>
    rintro posted ordered lines addr data openData h0 d free aligned rfl rfl
    exact rxRequest_taken hears .write openData (Nat.le_add_left ..) lines.isLt (by simp [ReqKind.shapeOk, aligned])
      (by rw [length_blocksOf]; rfl) (free.imp_right tagFree) (requestOf_write ..)
  case masked =>
    rintro posted ordered addr mask data openData h0 d free aligned rfl rfl
    exact rxRequest_taken hears .masked openData (Nat.le_refl 1) (by decide) (by simp [ReqKind.shapeOk, aligned])
      (by rw [List.length_cons, length_blocksOf]; rfl) (free.imp_right tagFree) (requestOf_masked ..)
  case fence =>
    rintro h0 untagged rfl
    exact rxRequest_taken (addr := 0) hears .fence false (Nat.le_refl 1) (by decide) (by simp [ReqKind.shapeOk]) rfl
      (.inr (tagFree untagged)) rfl
  case lock =>
    rintro addr range lease h0 untagged aligned lines held bounded rfl
    exact rxRequest_taken hears .lock false (Nat.le_refl 1) (by decide) (shapeOk_lock aligned lines range.isLt held lease.isLt bounded) rfl
      (.inr (tagFree untagged)) (requestOf_lock _ _ _ range.isLt lease.isLt)
  case unlock =>
    rintro addr h0 untagged aligned rfl
    exact rxRequest_taken hears .unlock false (Nat.le_refl 1) (by decide) (by simp [ReqKind.shapeOk, aligned]) rfl
      (.inr (tagFree untagged)) rfl

end Sys2Proof.Machine
end

section
/-! PROOFS. The link layer of a stream port (R104 to R108, R121, R122, R131, R132): each operation in the case of its event. -/

namespace Sys2Proof.Machine

/-! The passing of time leaves the ports alone. -/

@[simp] theorem sp_advanceTo (s : State) (t p : Nat) : (s.advanceTo t).sp p = s.sp p := by rw [advanceTo_eq]; rfl
@[simp] theorem sp_advanceCyc (s : State) (c p : Nat) : (s.advanceCyc c).sp p = s.sp p := by rw [advanceCyc_eq]; rfl

/-! Training (R104, R105). -/

theorem trainingLinks_of_passing {s : State} {p headers align seen us t : Nat} (training : (s.sp p).trainFrom = some t)
    (passes : trainingPasses headers align seen us = true) (locked : s.bit Obj.clockStatus 1 = true) (clocked : s.bit Obj.live 50 = false) :
    s.trainingLinks p headers align seen us = (s.advanceTo (t + us * usTicks)).linkComesUp p align us := by
  simp only [State.trainingLinks, training, passes, locked, clocked, Bool.not_false, Bool.and_self, if_true]

theorem trainingTimesOut_of_training {s : State} {p t : Nat} (training : (s.sp p).trainFrom = some t) :
    s.trainingTimesOut p = (s.advanceTo (t + msTicks)).trainingFails p := by
  simp only [State.trainingTimesOut, training]

theorem autoRetrains_of_down {s : State} {p t : Nat} (retry : (s.sp p).retryAt = some t)
    (down : s.obj Obj.autoRetrain = 1 ∧ s.obj (Obj.portEnable p) = 1 ∧ s.obj (Obj.linkState p) = 3) :
    s.autoRetrains p = (s.advanceTo t).startTraining p := by
  simp only [State.autoRetrains, retry, if_pos down]

/-! The loss of the link (R131, R132). -/

/-- A link lost for a reason that is neither DISABLED nor CLOCK is counted, raises line 28 and trains again. -/
theorem linkGoesDown_of_active {s : State} {p reason : Nat} (active : s.linkActive p = true) (enabled : reason ≠ 1) (clocked : reason ≠ 7) :
    s.linkGoesDown p reason =
      (((((s.dropLink p).setObj (Obj.linkDownReason p) reason).modSp p fun x =>
        { x with trainFrom := none, retryAt := some (s.dropLink p).now }).bump (Obj.linkDowns p)).beginCause 28 p (sourceWord p 0xFF)) := by
  have raises : downRaises reason = true := by simp [downRaises, enabled, clocked]
  simp only [State.linkGoesDown, active, raises, enabled, clocked, State.setObj_now, Bool.not_true, Bool.false_eq_true, or_self, if_false,
    if_true]

/-! Acknowledgement and replay (R106 to R108). -/

theorem ackFrom_of_active {s : State} {p : Nat} (seq : Nat) (active : s.linkActive p = true) :
    s.ackFrom p seq = s.modSp p fun x => { x with unacked := dropAcked seq x.unacked } := if_pos active

/-- Every unacknowledged packet waits for its replay, counted once for each packet that did not wait already (R107). -/
def State.replays (s : State) (p : Nat) : State :=
  (s.modSp p fun x => { x with unacked := x.unacked.map fun u : SentPacket =>
    { u with replays := u.replays + b2n (!u.waiting), waiting := true } }).bump (Obj.replays p)

/-- Packets are replayed while none of them has been replayed four times. -/
theorem replayFrom_of_few {s : State} {p : Nat} (unacked : (s.sp p).unacked ≠ [])
    (few : ∀ u ∈ (s.sp p).unacked, u.waiting = true ∨ u.replays < 4) : s.replayFrom p = some (s.replays p) := by
  have spent : ¬((s.sp p).unacked.any fun u => !u.waiting && decide (4 ≤ u.replays)) = true := by
    simp only [List.any_eq_true, not_exists, not_and, Bool.and_eq_true, Bool.not_eq_true', decide_eq_true_eq]
    intro u hu still
    obtain waits | replayed := few u hu
    · rw [waits] at still
      contradiction
    · omega
  have sent : ¬(s.sp p).unacked.isEmpty = true := by simpa using unacked
  simp only [State.replayFrom, if_neg spent, if_neg sent, State.replays]

theorem nakFrom_of_few {s t : State} {p seq : Nat} (active : s.linkActive p = true) (acked : t = s.ackFrom p seq)
    (unacked : (t.sp p).unacked ≠ []) (few : ∀ u ∈ (t.sp p).unacked, u.waiting = true ∨ u.replays < 4) : s.nakFrom p seq = t.replays p := by
  simp only [State.nakFrom, if_pos active, ← acked, replayFrom_of_few unacked few]

theorem ackTimer_of_owed {s t : State} {p : Nat} (owed : 0 < (s.sp p).ackOwed)
    (due : t = s.advanceTo (if 32 ≤ (s.sp p).ackOwed then (s.sp p).busyUntil else max (s.sp p).ackDue (s.sp p).busyUntil)) :
    s.ackTimer p = if t.blocksFit p 1 then
      t.modSp p fun x => { x with ackOwed := 0, lane := [.ack x.lastGood], busyUntil := t.now + blockTime 1 } else t := by
  have owing : ¬(s.sp p).ackOwed = 0 := by omega
  have still : ¬(t.sp p).ackOwed = 0 := by rw [due, sp_advanceTo]; exact owing
  simp only [State.ackTimer, if_neg owing, ← due, State.sendAck, if_neg still]

theorem replayTimeout_of_few {s t : State} {p : Nat} {u : SentPacket} (first : (s.sp p).unacked.find? (fun u => !u.waiting) = some u)
    (active : s.linkActive p = true) (due : t = s.advanceTo (u.sentAt + 4 * usTicks))
    (few : ∀ x ∈ (t.sp p).unacked, x.waiting = true ∨ x.replays < 4) : s.replayTimeout p = t.replays p := by
  have unacked : (t.sp p).unacked ≠ [] := by
    rw [due, sp_advanceTo]
    exact List.ne_nil_of_mem (List.mem_of_find?_eq_some first)
  simp only [State.replayTimeout, first, if_pos active, ← due, replayFrom_of_few unacked few]

/-! Transmission (R107, R121, R122). -/

/-- The time of the next packet: the lane is free, or, where nothing can go out then, the intervals that the oldest response waits for are over. -/
def State.txTime (s : State) (p : Nat) : State :=
  let t := s.advanceTo (s.sp p).busyUntil
  match (s.sp p).txq with
  | k :: _ => if (t.nextResponse p).isNone && (t.sp p).unacked.all (fun u => !u.waiting) then t.advanceCyc k.depart else t
  | [] => t

/-- What goes out in state `t`, the time of the next packet; nothing does where there is no room, and `s` stays. -/
def State.sendsNext (s t : State) (p : Nat) : State :=
  match (t.sp p).unacked.find? (fun u => u.waiting), (t.nextResponse p).any Packet.after with
  | some u, false => if t.laneRoom p u.packet then t.sendReplay p u else s
  | _, _ =>
    match t.nextResponse p with
    | none => s
    | some k =>
      if 256 ≤ (t.sp p).unacked.length then s.linkGoesDown p 5
      else if t.laneRoom p k then (t.modSp p fun x => { x with txq := x.txq.erase k }).sendPacket p k
      else s

theorem txPacket_of_active {s : State} {p : Nat} (active : s.linkActive p = true) : s.txPacket p = s.sendsNext (s.txTime p) p := by
  have up : ¬(!s.linkActive p) = true := by simp [active]
  exact if_neg up

/-- No later time is taken where a response can go out as soon as the lane is free. -/
theorem txTime_of_response {s : State} {p : Nat} {k : Packet} (next : (s.advanceTo (s.sp p).busyUntil).nextResponse p = some k) :
    s.txTime p = s.advanceTo (s.sp p).busyUntil := by
  unfold State.txTime
  split
  · simp only [next, Option.isNone_some, Bool.false_and, Bool.false_eq_true, if_false]
  · rfl

/-- Nor where a replay waits. -/
theorem txTime_of_replay {s : State} {p : Nat} {u : SentPacket} (replay : (s.sp p).unacked.find? (fun u => u.waiting) = some u) :
    s.txTime p = s.advanceTo (s.sp p).busyUntil := by
  have waits : ((s.sp p).unacked.all fun u => !u.waiting) = false := by
    rw [List.all_eq_false]
    exact ⟨u, List.mem_of_find?_eq_some replay, by simpa using List.find?_some replay⟩
  unfold State.txTime
  split
  · simp only [sp_advanceTo, waits, Bool.and_false, Bool.false_eq_true, if_false]
  · rfl

theorem txTime_of_later {s : State} {p : Nat} {j : Packet} {rest : List Packet} (nothing : (s.advanceTo (s.sp p).busyUntil).nextResponse p = none)
    (still : (s.sp p).unacked.find? (fun u => u.waiting) = none) (queued : (s.sp p).txq = j :: rest) :
    s.txTime p = (s.advanceTo (s.sp p).busyUntil).advanceCyc j.depart := by
  have waiting : ((s.sp p).unacked.all fun u => !u.waiting) = true := by simpa using still
  simp only [State.txTime, queued, nothing, Option.isNone_none, sp_advanceTo, waiting, Bool.and_self, if_true]

theorem sp_txTime (s : State) (p : Nat) : (s.txTime p).sp p = s.sp p := by
  unfold State.txTime
  dsimp only
  split
  · split <;> simp only [sp_advanceTo, sp_advanceCyc]
  · exact sp_advanceTo ..

theorem txPacket_of_response {s t : State} {p : Nat} {k : Packet} (active : s.linkActive p = true)
    (still : (s.sp p).unacked.find? (fun u => u.waiting) = none) (few : (s.sp p).unacked.length < 256) (time : s.txTime p = t)
    (next : t.nextResponse p = some k) (room : t.laneRoom p k = true) :
    s.txPacket p = (t.modSp p fun x => { x with txq := x.txq.erase k }).sendPacket p k := by
  have same : t.sp p = s.sp p := time ▸ sp_txTime s p
  have fits : ¬256 ≤ (s.sp p).unacked.length := by omega
  simp only [txPacket_of_active active, time, State.sendsNext, same, still, next, if_neg fits, room, if_true]

theorem txPacket_of_replay {s t : State} {p : Nat} {u : SentPacket} (active : s.linkActive p = true)
    (replay : (s.sp p).unacked.find? (fun u => u.waiting) = some u) (time : t = s.advanceTo (s.sp p).busyUntil)
    (first : (t.nextResponse p).any Packet.after = false) (room : t.laneRoom p u.packet = true) : s.txPacket p = t.sendReplay p u := by
  have same : t.sp p = s.sp p := time ▸ sp_advanceTo ..
  simp only [txPacket_of_active active, txTime_of_replay replay, ← time, State.sendsNext, same, replay, first, room, if_true]

/-! Reception (R106). -/

theorem rxPacket_of_bad {s t : State} {p seq kind len eop : Nat} {between blocks : List Nat} {replayed intact : Bool}
    (active : s.linkActive p = true) (heard : t = s.rxControls p between)
    (bad : intact = false ∨ blocks.length ≠ len ∨ eop ≠ packetCrc (sopField seq kind len replayed) blocks) :
    s.rxPacket p between seq kind len replayed intact blocks eop = (t.badPacket p).nakPacket p := by
  have fails : (intact && blocks.length == len && eop == packetCrc (sopField seq kind len replayed) blocks) = false := by
    simp only [Bool.and_eq_false_iff, beq_eq_false_iff_ne]
    exact or_assoc.2 bad
  simp only [State.rxPacket, active, fails, heard, Bool.not_true, Bool.false_eq_true, if_false, Bool.not_false, if_true]

/-- A good request packet with the SEQ that is expected is left to its client. -/
theorem rxPacket_of_request {s t : State} {p seq h0 eop : Nat} {between blocks : List Nat} {replayed : Bool} (active : s.linkActive p = true)
    (heard : t = s.rxControls p between) (next : seq = (t.sp p).rxSeq)
    (crc : eop = packetCrc (sopField seq 1 (blocks.length + 1) replayed) (h0 :: blocks)) :
    s.rxPacket p between seq 1 (blocks.length + 1) replayed true (h0 :: blocks) eop =
      ((t.modSp p fun x => { x with rxSeq := (seq + 1) % 4096, discarding := false }).oweAck p).takeBlocks p (h0 :: blocks) false := by
  simp only [State.rxPacket, active, ← heard, ← crc, ← next, List.length_cons, beq_self_eq_true, Bool.and_self, Bool.not_true, Bool.false_eq_true,
    if_false, if_true, List.isEmpty_cons, Bool.not_false, and_self]

/-- The command of a packet takes it at the ingress with its fields cut to their widths. -/
theorem exec_rxPacket (port : Fin 16) (between : List (BitVec 8)) (seq kind len : Nat) (replayed intact : Bool) (body : PacketBody) (s : State) :
    exec (.rxPacket port between seq kind len replayed intact body) s = runIngress s fun s =>
      s.rxPacket port (between.map BitVec.toNat) (seq % 4096) (kind % 16) (len % 256) replayed intact (body.blocks.map BitVec.toNat)
        body.eop.toNat := rfl

/-- Settles O12 (log entry 35 for the reasons of LINK_DOWN, 157 for the order of the control blocks, 29 for RX_PACKET). -/
theorem linkEventsComplete : Obligations.LinkEventsComplete := by
  rintro s a port rfl awake
  refine ⟨?up, ?timeout, ?retry, ?lost, ?ack, ?nak, ?ackTimer, ?replayTimeout, ?response, ?replay, ?request, ?bad⟩
  case up =>
    intro f us t training headers align seen inTime locked clocked
    have passes : trainingPasses f.headers f.align f.seen us = true := by simp [trainingPasses, headers, align, seen, inTime]
    exact runAwake_next awake (trainingLinks_of_passing training passes locked clocked)
  case timeout =>
    intro t training
    exact runAwake_next awake (trainingTimesOut_of_training training)
  case retry =>
    intro t retry auto enabled down
    exact runAwake_next awake (autoRetrains_of_down retry ⟨auto, enabled, down⟩)
  case lost =>
    rintro frequency why t active rfl rfl
    exact runAwake_next awake (linkGoesDown_of_active active (by split <;> decide) (by split <;> decide))
  case ack =>
    intro seq active
    exact runAwake_next awake (ackFrom_of_active seq.toNat active)
  case nak =>
    intro seq t active acked unacked few
    exact runAwake_next awake (nakFrom_of_few active (acked.trans (ackFrom_of_active seq.toNat active).symm) unacked few)
  case ackTimer =>
    intro t owed due
    exact runAwake_next awake (ackTimer_of_owed owed due)
  case replayTimeout =>
    intro u t first active due few
    exact runAwake_next awake (replayTimeout_of_few first active due few)
  case response =>
    rintro k b t active still few rfl time next room
    have time : s.fresh.txTime port = t := by
      obtain rfl | ⟨nothing, j, rest, queued, rfl⟩ := time
      · exact txTime_of_response next
      · exact txTime_of_later nothing still queued
    exact runAwake_next awake (txPacket_of_response active still few time next room)
  case replay =>
    intro u t active replay time first room
    exact runAwake_next awake (txPacket_of_replay active replay time first room)
  case request =>
    rintro between seq replayed blocks eop h0 t opened active heard next small short crc
    rw [exec_rxPacket, Nat.mod_eq_of_lt small, Nat.mod_eq_of_lt short]
    refine runIngress_next awake opened ?_
    rw [← List.length_map (as := blocks) BitVec.toNat] at crc ⊢
    exact rxPacket_of_request active heard next crc
  case bad =>
    intro between seq kind len replayed intact blocks eop t opened active heard bad
    rw [exec_rxPacket]
    refine runIngress_next awake opened (rxPacket_of_bad active heard ?_)
    rw [List.length_map]
    exact bad

end Sys2Proof.Machine
end

section
/-! PROOFS. Lockstep departures and client watchdogs (R120, R126, R220). -/

namespace Sys2Proof.Machine

/-! A departure (R120, R218, R220). -/

/-- The state at a departure: a request that is still at the fabric is counted there and pulled back (R418). -/
def State.atDeparture (s : State) (p : Nat) (r : Req) : State :=
  let b := (s.advanceCyc r.depart).slotArrivals
  if r.stage = .fabric then (b.bump (Obj.fabLate p)).pullFabric r else b

/-- Every line of a request that is not ready is counted by its cause, and dropped unless its first data is kept for its replay. -/
def State.lateLines (s : State) (n : Nat) : State :=
  s.each (s.ents.filter fun e => e.req == n) fun e t =>
    if e.first.isSome then t.bump (t.lateCause e) else (t.bump (t.lateCause e)).dropEnt e.serial

/-- The request leaves, and the credit that it still holds returns (R109). -/
def State.departs (s : State) (x : Req) : State :=
  let u := { s with reqs := s.reqs.filter fun y : Req => y.serial != x.serial }
  if x.credited then u else u.giveCredit x.rq

/-- The response of a departure: LATE for every line without a status, on a link that is ACTIVE and has room for it. -/
def State.departureAnswer (u : State) (p : Nat) (x : Req) : State :=
  let z : Req := { x with status := x.status.map fun y : Option Nat => some (y.getD stLate) }
  let u := (u.countResponse z).modSp p fun y => { y with reserved := y.reserved.filter fun d => d.1 != x.depart }
  if !u.linkActive p then u
  else if 256 ≤ (u.sp p).unacked.length then u.linkGoesDown p 5
  else u.sendPacket p z.packet

theorem lockstepDeparture_of_due {s t : State} {p : Nat} {r x : Req} (due : s.nextDeparture p = some r)
    (lines : t = (s.atDeparture p r).lateLines r.serial) (waits : t.req? r.serial = some x) :
    s.lockstepDeparture p = (t.departs x).departureAnswer p x := by
  rw [lines, State.lateLines, State.atDeparture] at waits
  rw [lines, State.lateLines, State.atDeparture, State.lockstepDeparture]
  simp only [due, waits]
  rfl

/-! A client's watchdog (R126). -/

theorem clientWatchdog_of_due {s : State} {c d : Nat} {r : Req} (due : s.nextWatchdog c = some (r, d)) :
    s.clientWatchdog c = (((((s.advanceTo d).releaseDeparture r).pullFabric r).withdraw r stTimeout).bump (Obj.watchdogExpiries c)).raise 31
      (sourceWord c 0xFF) := by
  simp only [State.clientWatchdog, due]

/-- Settles O13 (log entry 131). -/
theorem streamDeadlinesComplete : Obligations.StreamDeadlinesComplete := by
  rintro s a rfl awake
  refine ⟨?departure, ?watchdog⟩
  case departure =>
    rintro port r b d x t u due rfl rfl lines waits rfl
    exact runAwake_next awake (lockstepDeparture_of_due due lines waits)
  case watchdog =>
    intro client r d due
    exact runAwake_next awake (clientWatchdog_of_due due)

end Sys2Proof.Machine
end

section
/-! PROOFS. The request path: regulators, the crossbar, grants, quota windows, the guard, open writes, the arbitration watchdog, locks and fences
(R142 to R160, R170, R178 to R191, R193, R275, R307): each operation in the case of its event. -/

namespace Sys2Proof.Machine

/-- A command whose clocks DOZE gates ends with its effect. -/
theorem runClocked_next {s e : State} {f : State → State} (clocked : s.fresh.clocked = true) (effect : f s.fresh = e) :
    runClocked s f = .next (s.ends e) := effect ▸ runClocked_eq s f clocked

/-- The clocks run only while the engine is awake (R571). -/
theorem awake_of_clocked {s : State} (clocked : s.clocked = true) : s.awake = true := by
  rw [State.clocked, Bool.and_eq_true] at clocked
  exact clocked.1

/-! Regulators and the crossbar (R149, R170, R178). -/

theorem regulatorPass_of_passing {s : State} {rq : Nat} {r : Req} (first : (s.atStage rq .regulator).head? = some r)
    (tokens : s.tokensFor r = true) (room : s.roomFor r = true) :
    s.regulatorPass rq = if rq < 0x100 then ((s.leaveRegulator r).giveCredit rq).modReq r.serial fun x => { x with credited := true }
      else s.leaveRegulator r := by
  simp only [State.regulatorPass, first, tokens, room, Bool.not_true, Bool.false_eq_true, if_false]

theorem crossbarLeave_of_free {s : State} {rq : Nat} {r : Req}
    (free : (s.atStage rq .crossbar).find? (fun x => x.kind != .fence && !s.heldAtCrossbar x && !s.lineBehind x) = some r) :
    s.crossbarLeave rq = s.leaveCrossbar r := by
  simp only [State.crossbarLeave, free]

/-! A slot of a channel (R142 to R148, R164, R275, R307). -/

/-- What the arbiter finds in the next slot of a channel: the lockstep reads that are due have been slotted, and tracking has taken its position. -/
def State.slotFound (s : State) (ch : Nat) : State :=
  let x := (s.advanceCyc (max s.cyc (s.chan ch).grantAt)).slotArrivals
  let y := x.advanceCyc (max x.cyc (x.chan ch).grantAt)
  y.takeFree ch y.cyc

/-- The slot is over: the next one begins on the c after. -/
def State.slotOver (t : State) (ch : Nat) : State := t.modChan ch fun c => { c with grantAt := t.cyc + 1 }

/-- Tracking has taken the free position of this c (R275). -/
def State.trackingTook (t : State) (ch : Nat) : Bool := ((t.chan ch).sub (t.wheelPos % 2)).took.contains t.cyc

/-- A slot in which the arbiter may grant a line: the channel grants, and the wheel reserves the slot for nobody (R142, R282). -/
structure State.GrantSlot (t : State) (ch : Nat) : Prop where
  grants : t.chanGrants ch = true
  free : t.ownerAt ch t.cyc = ownFree

/-- The line of the requester that arbitration serves is granted, and with nobody to serve the slot passes idle (R145, R148, R164). -/
def State.serveLine (t : State) (ch : Nat) : State :=
  match t.arbitrate ch (t.wheelPos % 2) with
  | none => ((t.slotOver ch).bump (Obj.idleFreeSlots ch)).noteFs ch
  | some rq =>
    match t.headLine ch rq with
    | none => t.slotOver ch
    | some e => ((t.slotOver ch).grant e).noteFs ch

/-- A free slot goes to tracking, else to arbitration; a fill takes the slots that arbitration has no use for (R275, R307). -/
theorem grantSlot_of_free {s t : State} {ch : Nat} (found : t = s.slotFound ch) (slot : t.GrantSlot ch) :
    s.grantSlot ch =
      if t.trackingTook ch then (t.slotOver ch).bump (Obj.idleFreeSlots ch)
      else if t.obj (Obj.fillState ch) = 1 ∧ !t.released ch ∧ (t.arbitrate ch (t.wheelPos % 2)).isNone then
        if (t.chan ch).fillNext % 2 = t.wheelPos % 2 ∧ 64 * (t.chan ch).fillNext < t.capacity ch ∧ (t.queue ch (t.wheelPos % 2) .writeQ).length < 64
        then ((t.slotOver ch).fillLine ch).drainEnter ch (t.wheelPos % 2) else (t.slotOver ch).bump (Obj.idleFreeSlots ch)
      else t.serveLine ch := by
  rw [State.slotFound] at found
  simp only [State.grantSlot, State.lineGrant, ← found, slot.grants, slot.free, bne_self_eq_false, Bool.not_true, Bool.or_false, Bool.false_eq_true,
    if_false]
  rfl

theorem grantSlot_of_tracked {s t : State} {ch : Nat} (found : t = s.slotFound ch) (slot : t.GrantSlot ch) (took : t.trackingTook ch = true) :
    s.grantSlot ch = (t.slotOver ch).bump (Obj.idleFreeSlots ch) := by
  rw [grantSlot_of_free found slot, if_pos took]

theorem grantSlot_of_line {s t : State} {ch rq : Nat} {e : Ent} (found : t = s.slotFound ch) (slot : t.GrantSlot ch)
    (untaken : t.trackingTook ch = false) (served : t.arbitrate ch (t.wheelPos % 2) = some rq) (line : t.headLine ch rq = some e) :
    s.grantSlot ch = ((t.slotOver ch).grant e).noteFs ch := by
  simp [grantSlot_of_free found slot, untaken, served, State.serveLine, line]

theorem grantSlot_of_idle {s t : State} {ch : Nat} (found : t = s.slotFound ch) (slot : t.GrantSlot ch) (untaken : t.trackingTook ch = false)
    (nobody : t.arbitrate ch (t.wheelPos % 2) = none) (noFill : t.obj (Obj.fillState ch) ≠ 1 ∨ t.released ch = true) :
    s.grantSlot ch = ((t.slotOver ch).bump (Obj.idleFreeSlots ch)).noteFs ch := by
  have off : ¬(t.obj (Obj.fillState ch) = 1 ∧ !t.released ch ∧ (t.arbitrate ch (t.wheelPos % 2)).isNone) := by
    rintro ⟨fills, unreleased, -⟩
    rcases noFill with off | released
    · exact off fills
    · simp [released] at unreleased
  rw [grantSlot_of_free found slot, if_neg (Bool.eq_false_iff.1 untaken), if_neg off, State.serveLine, nobody]

/-- The channel fills, and its next line may enter the write queue of this slot's subchannel (R307). -/
structure State.Fills (t : State) (ch : Nat) : Prop where
  running : t.obj (Obj.fillState ch) = 1
  unreleased : t.released ch = false
  mine : (t.chan ch).fillNext % 2 = t.wheelPos % 2
  inside : 64 * (t.chan ch).fillNext < t.capacity ch
  room : (t.queue ch (t.wheelPos % 2) .writeQ).length < 64

theorem grantSlot_of_fill {s t : State} {ch : Nat} (found : t = s.slotFound ch) (slot : t.GrantSlot ch) (untaken : t.trackingTook ch = false)
    (nobody : t.arbitrate ch (t.wheelPos % 2) = none) (fills : t.Fills ch) :
    s.grantSlot ch = ((t.slotOver ch).fillLine ch).drainEnter ch (t.wheelPos % 2) := by
  obtain ⟨running, unreleased, mine, inside, room⟩ := fills
  simp [grantSlot_of_free found slot, untaken, nobody, running, unreleased, mine, inside, room]

/-! Quota windows and the guard (R146, R148). -/

theorem quotaWindowEnds_of_opening {s : State} {ch rq : Nat} (opening : s.cyc < s.quotaFirst ch rq) :
    s.quotaWindowEnds ch rq = s.advanceCyc (s.quotaFirst ch rq) := if_pos opening

theorem quotaWindowEnds_of_begun {s : State} {ch rq : Nat} (begun : s.quotaFirst ch rq ≤ s.cyc) :
    s.quotaWindowEnds ch rq = s.advanceCyc (s.quotaWindow ch rq + s.quotaW rq) := if_neg (Nat.not_lt.2 begun)

theorem guardFires_of_waiting {s : State} {ch c : Nat} (waits : ((s.noteFs ch).chan ch).fsWait = some c) (unfired : (s.chan ch).guardFired = false) :
    s.guardFires ch = (s.advanceCyc (c + s.act (Obj.bgMaxWait ch))).modChan ch fun c => { c with guardFired := true } := by
  simp only [State.guardFires, waits, unfired, Bool.false_eq_true, if_false]

/-! Open writes and the arbitration watchdog (R152, R153, R157 to R160). -/

theorem openCompletes_of_client {s : State} {rq : Nat} {r : Req} (client : rq < 0x100)
    (first : s.reqs.find? (fun x => x.rq == rq && x.openData) = some r) : s.openCompletes rq = s.completeOpen r.serial := by
  simp only [State.openCompletes, if_pos client, first]

theorem openCompletes_of_fe {s : State} {rq : Nat} (low : 0x110 ≤ rq) (high : rq < 0x120) : s.openCompletes rq = s.feComplete (rq - 0x110) := by
  have notClient : ¬rq < 0x100 := by omega
  simp only [State.openCompletes, if_neg notClient, low, high, and_self, if_true]

/-- A channel at the bite of its watchdog: the lockstep lines that are due are read, the open entry is discarded and the line raised (R157, R159). -/
def State.bitten (s : State) (ch : Nat) : State :=
  let u := s.advanceCyc ((s.chan ch).pathSince + s.obj (Obj.arbWatchdog ch))
  (((u.lsHazards ch 0 u.cyc).lsHazards ch 1 u.cyc).discardOpen ch false).raise (32 + ch) (sourceWord ch 0xFF)

/-- The bite is counted, for the holder too where it has objects, and its holder and time are recorded (R157). -/
def State.countBite (t : State) (ch rq : Nat) : State :=
  let t := if rqHasObjects rq then (t.bump (Obj.watchdogBites ch)).bump (rqKey rq 0x1D) else t.bump (Obj.watchdogBites ch)
  (t.setObj (Obj.lastBiteHolder ch) rq).setObj (Obj.lastBiteTs ch) t.ts

theorem arbBites_of_held {s : State} {ch n : Nat} {w : Ent} (held : (s.chan ch).pathHolder = some n)
    (holder : s.ents.find? (fun e => e.serial == n) = some w) : s.arbBites ch = ((s.bitten ch).countBite ch w.rq).abortHolder w := by
  simp only [State.arbBites, held, Option.bind_some, holder]
  rfl

/-! Locks and fences (R180, R187, R188, R193). -/

theorem leaseRunsOut_of_lock {s : State} {start : Nat} {l : Lock} (lock : s.locks.find? (fun l => l.start == start) = some l) :
    s.leaseRunsOut start = (s.advanceTo (s.now + (l.since + 800 * l.lease - s.ts) * 9)).leaseOver l := by
  simp only [State.leaseRunsOut, lock]

/-- The UNLOCK that is complete on the c on which the lease ends (R193). -/
def State.unlockAtEnd (s : State) (l : Lock) : Option Req := s.reqs.find? fun r => r.rq == l.holder && s.unlockReady r && r.addr / 64 == l.start

/-- The LOCK that renews the lock on the c on which the lease ends (R193). -/
def State.renewalAtEnd (s : State) (l : Lock) : Option Req :=
  s.reqs.find? fun r => r.rq == l.holder && r.kind == .lock && r.stage == .crossbar && s.renews r && r.addr / 64 == l.start && !s.heldAtCrossbar r

theorem leaseOver_of_unlock {s : State} {l : Lock} {r : Req} (unlock : s.unlockAtEnd l = some r) : s.leaseOver l = s.finishUnlock r := by
  rw [State.unlockAtEnd] at unlock
  simp only [State.leaseOver, unlock]

theorem leaseOver_of_renewal {s : State} {l : Lock} {r : Req} (noUnlock : s.unlockAtEnd l = none) (renewal : s.renewalAtEnd l = some r) :
    s.leaseOver l = s.takeLock r := by
  rw [State.unlockAtEnd] at noUnlock
  rw [State.renewalAtEnd] at renewal
  simp only [State.leaseOver, noUnlock, renewal]

theorem leaseOver_of_neither {s : State} {l : Lock} (noUnlock : s.unlockAtEnd l = none) (noRenewal : s.renewalAtEnd l = none) :
    s.leaseOver l = s.releaseLock l 2 0 := by
  rw [State.unlockAtEnd] at noUnlock
  rw [State.renewalAtEnd] at noRenewal
  simp only [State.leaseOver, noUnlock, noRenewal]

theorem finishUnlock_of_lock {s : State} {r : Req} {l : Lock} (lock : s.locks.find? (fun x => x.holder == r.rq && x.start == r.addr / 64) = some l) :
    s.finishUnlock r = (s.releaseLock l 1 0).answerAll r stOk := by
  simp only [State.finishUnlock, lock]

theorem unlockCompletes_of_ready {s : State} {rq : Nat} {r : Req} (first : s.reqs.find? (fun x => x.rq == rq && s.unlockReady x) = some r) :
    s.unlockCompletes rq = s.finishUnlock r := by
  simp only [State.unlockCompletes, first]

theorem fenceCompletes_of_ready {s : State} {rq : Nat} {r : Req} (first : s.reqs.find? (fun x => x.rq == rq && s.fenceReady x) = some r) :
    s.fenceCompletes rq = s.answerAll r stOk := by
  simp only [State.fenceCompletes, first]

/-- Settles O16 (log entries 36 and 37 for quota windows, idle slots and FS's guard, 38 for requests with a common line, 39 and 40 for open writes
and the bitten holder, 42 for UNLOCK and FENCE, 6 for the time of an event). -/
theorem requestPathEventsComplete : Obligations.RequestPathEventsComplete := by
  rintro s a rfl clocked
  refine ⟨?regulator, ?crossbar, ?slot, ?opening, ?window, ?guard, ?clientWrite, ?feWrite, ?bite, ?lease, ?unlock, ?fence⟩
  case regulator =>
    intro rq r first tokens room
    exact runClocked_next clocked (regulatorPass_of_passing first tokens room)
  case crossbar =>
    intro rq r free
    exact runClocked_next clocked (crossbarLeave_of_free free)
  case slot =>
    rintro ch x y t u rfl rfl found rfl grants free
    refine ⟨fun took => ?_, fun untaken => ⟨fun rq e served line => ?_, fun nobody noFill => ?_, fun nobody running unreleased mine inside room => ?_⟩⟩
    · exact runClocked_next clocked (grantSlot_of_tracked found ⟨grants, free⟩ took)
    · exact runClocked_next clocked (grantSlot_of_line found ⟨grants, free⟩ untaken served line)
    · exact runClocked_next clocked (grantSlot_of_idle found ⟨grants, free⟩ untaken nobody noFill)
    · exact runClocked_next clocked (grantSlot_of_fill found ⟨grants, free⟩ untaken nobody ⟨running, unreleased, mine, inside, room⟩)
  case opening =>
    intro ch rq opening
    exact runClocked_next clocked (quotaWindowEnds_of_opening opening)
  case window =>
    intro ch rq begun
    exact runClocked_next clocked (quotaWindowEnds_of_begun begun)
  case guard =>
    intro ch c waits unfired
    exact runClocked_next clocked (guardFires_of_waiting waits unfired)
  case clientWrite =>
    intro rq r client first
    exact runClocked_next clocked (openCompletes_of_client client first)
  case feWrite =>
    intro rq low high
    exact runClocked_next clocked (openCompletes_of_fe low high)
  case bite =>
    rintro ch n w t u held holder rfl rfl
    exact runClocked_next clocked (arbBites_of_held held holder)
  case lease =>
    rintro start l t lock rfl
    have awake := awake_of_clocked clocked
    have ended := leaseRunsOut_of_lock lock
    refine ⟨fun r unlock => ?_, ?_⟩
    · exact runAwake_next awake (ended.trans (leaseOver_of_unlock unlock))
    · rintro noUnlock o rfl
      refine ⟨fun r renewal => ?_, fun noRenewal => ?_⟩
      · exact runAwake_next awake (ended.trans (leaseOver_of_renewal noUnlock renewal))
      · exact runAwake_next awake (ended.trans (leaseOver_of_neither noUnlock noRenewal))
  case unlock =>
    intro rq r l first lock
    exact runClocked_next clocked ((unlockCompletes_of_ready first).trans (finishUnlock_of_lock lock))
  case fence =>
    intro rq r first
    exact runClocked_next clocked (fenceCompletes_of_ready first)

end Sys2Proof.Machine
end

section
/-! PROOFS. The lock table (R184, R185): what a LOCK that leaves the crossbar does to it, and that it stays in order. -/

namespace Sys2Proof.Machine

/-- MAP_TOP is computed from the channels alone (R166). -/
theorem State.mapTop_congr {s t : State} (chans : t.chans = s.chans) : t.mapTop = s.mapTop := by
  unfold State.mapTop State.acceptedChans State.capacity State.chan
  rw [chans]

@[simp] theorem State.answerAll_locks (s : State) (r : Req) (st : Nat) : (s.answerAll r st).locks = s.locks := rfl
@[simp] theorem State.answerAll_chans (s : State) (r : Req) (st : Nat) : (s.answerAll r st).chans = s.chans := rfl

/-- A change of locks that leaves each its holder and its lines. -/
def Lock.KeepsClaim (f : Lock → Lock) : Prop := ∀ l, (f l).holder = l.holder ∧ (f l).start = l.start ∧ (f l).range = l.range

theorem Lock.keepsClaim_id : Lock.KeepsClaim id := fun _ => ⟨rfl, rfl, rfl⟩

/-- The lock that a LOCK asks for, taken now. -/
def Req.lockAt (r : Req) (ts : Nat) : Lock := { holder := r.rq, start := r.addr / 64, range := r.range, lease := r.lease, since := ts }

/-- What R184 and R185 ask of a new lock, but for the locks of the other requesters. -/
structure State.Grantable (s : State) (n : Lock) : Prop where
  lines : 0 < n.range
  below : (n.start + n.range) * 64 ≤ s.mapTop
  room : s.locks.length < 64
  few : (s.locks.filter fun l => l.holder == n.holder).length < 4
  apart : ∀ l ∈ s.locks, l.holder = n.holder → overlaps l.start l.range n.start n.range = false

/-- The order speaks of the holders and the lines of the locks alone. -/
theorem State.locksFit_of_map {s t : State} {f : Lock → Lock} (fit : s.locksFit) (same : Lock.KeepsClaim f) (chans : t.chans = s.chans)
    (locks : t.locks = s.locks.map f) : t.locksFit := by
  obtain ⟨apart, room, few, below⟩ := fit
  rw [Lock.KeepsClaim] at same
  simp only [State.locksFit, State.mapTop_congr chans, locks]
  refine ⟨?_, by simpa using room, fun q => ?_, ?_⟩
  · simpa only [List.pairwise_map, same] using apart
  · simpa only [List.filter_map, List.length_map, Function.comp_def, same] using few q
  · simpa only [List.forall_mem_map, same] using below

theorem State.locksFit_of_append {s t : State} {n : Lock} (fit : s.locksFit) (grant : s.Grantable n) (chans : t.chans = s.chans)
    (locks : t.locks = s.locks ++ [n]) (others : ∀ l ∈ s.locks, l.holder ≠ n.holder → overlaps l.start l.range n.start n.range = false) :
    t.locksFit := by
  obtain ⟨apart, -, few, below⟩ := fit
  have free : ∀ l ∈ s.locks, overlaps l.start l.range n.start n.range = false := fun l held =>
    (Classical.em (l.holder = n.holder)).elim (grant.apart l held) (others l held)
  simp only [State.locksFit, State.mapTop_congr chans, locks]
  refine ⟨?_, by simpa using grant.room, fun q => ?_, ?_⟩
  · simpa [List.pairwise_append, apart] using free
  · by_cases own : n.holder = q
    · simpa [own] using own ▸ grant.few
    · simpa [own] using few q
  · simp only [List.forall_mem_append, List.forall_mem_singleton]
    exact ⟨below, grant.lines, grant.below⟩

/-- What a LOCK that leaves the crossbar does to the table: denied or renewed, it changes no claim; granted, it adds the lock it asks for
(R184, R185). -/
theorem State.takeLock_cases (s : State) (r : Req) : (s.takeLock r).chans = s.chans ∧
    ((∃ f, Lock.KeepsClaim f ∧ (s.takeLock r).locks = s.locks.map f) ∨
      s.Grantable (r.lockAt s.ts) ∧ (s.takeLock r).locks = s.locks ++ [r.lockAt s.ts]) := by
  unfold State.takeLock
  extract_lets st mine granted
  split_ifs with denied renewal full
  · exact ⟨rfl, .inl ⟨id, Lock.keepsClaim_id, by simp⟩⟩
  · refine ⟨rfl, .inl ⟨_, fun l => ?_, rfl⟩⟩
    split_ifs <;> simp
  · exact ⟨rfl, .inl ⟨id, Lock.keepsClaim_id, by simp⟩⟩
  · simp only [not_or, not_lt] at denied
    simp only [Bool.or_eq_true, decide_eq_true_eq, not_or, not_le, Bool.not_eq_true, List.any_eq_false] at full
    obtain ⟨below, lines, -, -⟩ := denied
    obtain ⟨⟨apart, room⟩, few⟩ := full
    exact ⟨rfl, .inr ⟨⟨Nat.pos_of_ne_zero lines, below, room, few,
      fun l held own => apart l (List.mem_filter.2 ⟨held, beq_iff_eq.2 own⟩)⟩, rfl⟩⟩

/-- A LOCK that no lock of another requester blocks keeps the table in order. -/
theorem State.takeLock_locksFit {s : State} {r : Req} (fit : s.locksFit) (unblocked : s.lockBlocked r = false) : (s.takeLock r).locksFit := by
  obtain ⟨chans, ⟨f, same, locks⟩ | ⟨grant, locks⟩⟩ := s.takeLock_cases r
  · exact State.locksFit_of_map fit same chans locks
  · refine State.locksFit_of_append fit grant chans locks fun l held other => ?_
    have apart := List.any_eq_false.1 unblocked l held
    simp only [Bool.and_eq_true, bne_iff_ne, not_and, Bool.not_eq_true] at apart
    exact apart other

/-- A LOCK that does not wait is blocked by no lock of another requester (R184). -/
theorem State.lockBlocked_of_lockWaits {s : State} {r : Req} (leaves : s.lockWaits r = false) : s.lockBlocked r = false :=
  (Bool.or_eq_false_iff.1 leaves).1

/-- A LOCK that does not wait is granted, renewed or denied (R184, R185). -/
theorem State.leaveCrossbar_of_lock {s : State} {r : Req} (lock : r.kind = .lock) (leaves : s.lockWaits r = false) :
    s.leaveCrossbar r = s.takeLock r := by
  simp [State.leaveCrossbar, lock, leaves]

/-- Settles O54. -/
theorem lockTableStaysInOrder : Obligations.LockTableStaysInOrder := by
  intro s r lock leaves fit
  rw [State.leaveCrossbar_of_lock lock leaves]
  exact State.takeLock_locksFit fit (State.lockBlocked_of_lockWaits leaves)

end Sys2Proof.Machine
end

section
/-! PROOFS. The engine address map (R165 to R167): its layout fills MAP_TOP exactly, and each of its two parts, the interleaved one and the linear
blocks, is one to one. -/

namespace Sys2Proof.Machine

/-! The interleave set and the capacities (R165, R166). -/

theorem State.mem_acceptedChans {s : State} {ch : Nat} : ch ∈ s.acceptedChans ↔ ch < 4 ∧ (s.chan ch).accepted = true := by
  rw [State.acceptedChans, List.mem_filter]
  exact and_congr_left fun _ => by simp only [channels, List.mem_cons, List.not_mem_nil, or_false]; omega

theorem State.nodup_acceptedChans (s : State) : s.acceptedChans.Nodup := List.Nodup.filter _ (by decide)

theorem State.intSet_sublist (s : State) : s.intSet.Sublist s.acceptedChans := by
  simp only [State.intSet, interleaveSet]
  split_ifs
  · exact (List.take_sublist 2 _).trans List.filter_sublist
  · exact List.take_sublist 1 _
  · exact List.filter_sublist

theorem State.nodup_intSet (s : State) : s.intSet.Nodup := s.nodup_acceptedChans.sublist s.intSet_sublist

theorem State.length_intSet_ne_three (s : State) : s.intSet.length ≠ 3 := by
  simp only [State.intSet, interleaveSet]
  split_ifs with three
  · simp [three]
  · simp only [List.length_take]; omega
  · exact three

/-- An interleave set that is not empty has 1, 2 or 4 channels (R166). -/
theorem State.two_pow_log2of_length_intSet {s : State} (nonempty : 0 < s.intSet.length) : 2 ^ log2of s.intSet.length = s.intSet.length := by
  have four : s.intSet.length ≤ 4 := s.intSet_sublist.length_le.trans (List.length_filter_le _ channels)
  have powers : s.intSet.length = 1 ∨ s.intSet.length = 2 ∨ s.intSet.length = 4 := by
    have := s.length_intSet_ne_three
    omega
  rcases powers with one | two | all
  · rw [one]; rfl
  · rw [two]; rfl
  · rw [all]; rfl

/-- Cmin is the smallest capacity of the set (R166). -/
theorem State.minCapacity_spec {s : State} (nonempty : 0 < s.intSet.length) :
    (∃ ch ∈ s.intSet, s.capacity ch = s.minCapacity) ∧ ∀ ch ∈ s.intSet, s.minCapacity ≤ s.capacity ch := by
  have least : (s.intSet.map s.capacity).min? = some s.minCapacity := by
    obtain ⟨c, t, set⟩ := List.exists_cons_of_length_pos nonempty
    simp only [State.minCapacity, set, List.map_cons, List.min?_cons', List.foldl_map]
  obtain ⟨attained, below⟩ := List.min?_eq_some_iff.1 least
  exact ⟨List.mem_map.1 attained, fun ch mem => below _ (List.mem_map_of_mem mem)⟩

theorem State.minCapacity_le {s : State} {ch : Nat} (mem : ch ∈ s.intSet) : s.minCapacity ≤ s.capacity ch :=
  (State.minCapacity_spec (List.length_pos_of_mem mem)).2 ch mem

/-- The grain G of R167. -/
def State.grainBytes (s : State) : Nat := 2 ^ s.obj Obj.interleaveGrain

theorem State.grainBytes_pos (s : State) : 0 < s.grainBytes := Nat.two_pow_pos _

/-- A capacity is a whole number of grains (R165, R167). -/
theorem State.grainBytes_dvd_capacity {s : State} (ch : Nat) (grain : s.obj Obj.interleaveGrain ≤ 20) : s.grainBytes ∣ s.capacity ch := by
  rw [State.capacity]
  split_ifs
  · refine List.dvd_sum (List.forall_mem_map.2 fun d _ => ?_)
    exact Dvd.dvd.mul_left (Nat.pow_dvd_pow 2 (by omega)) _
  · exact Nat.dvd_zero _

/-- Cmin in whole grains. -/
theorem State.grains_of_minCapacity {s : State} (nonempty : 0 < s.intSet.length) (grain : s.obj Obj.interleaveGrain ≤ 20) :
    s.minCapacity / s.grainBytes * s.grainBytes = s.minCapacity := by
  obtain ⟨ch, -, attained⟩ := (State.minCapacity_spec nonempty).1
  exact Nat.div_mul_cancel (attained ▸ State.grainBytes_dvd_capacity ch grain)

/-! The linear blocks (R166): an address among them decodes to a line of a block, and the address of that line is where it stood. -/

/-- The length of blocks laid end to end. -/
def blocksLength (bs : List (Nat × Nat × Nat)) : Nat := (bs.map fun b => b.2.2).sum

/-- One block in the search for the address of a channel-local address: the address found so far and the base of the block. -/
def blockStep (ch loc : Nat) (found : Nat × Nat) (b : Nat × Nat × Nat) : Nat × Nat :=
  if b.1 = ch ∧ b.2.1 ≤ loc then (found.2 + (loc - b.2.1), found.2 + b.2.2) else (found.1, found.2 + b.2.2)

theorem blockDecode_isSome_iff {bs : List (Nat × Nat × Nat)} {a : Nat} : (blockDecode bs a).isSome ↔ a < blocksLength bs := by
  induction bs generalizing a with
  | nil => simp [blockDecode, blocksLength]
  | cons b t ih =>
    obtain ⟨ch, first, len⟩ := b
    have length : blocksLength ((ch, first, len) :: t) = len + blocksLength t := List.sum_cons
    rw [blockDecode, length]
    split_ifs with inside
    · simp only [Option.isSome_some, true_iff]; omega
    · rw [ih]; omega

theorem mem_of_blockDecode {bs : List (Nat × Nat × Nat)} {a ch loc : Nat} (found : blockDecode bs a = some (ch, loc)) :
    ∃ first len, (ch, first, len) ∈ bs ∧ first ≤ loc ∧ loc < first + len := by
  induction bs generalizing a with
  | nil => cases found
  | cons b t ih =>
    rw [blockDecode] at found
    split_ifs at found with inside
    · cases found
      exact ⟨_, _, List.mem_cons_self, by omega, by omega⟩
    · obtain ⟨first, len, mem, range⟩ := ih found
      exact ⟨first, len, List.mem_cons_of_mem _ mem, range⟩

theorem exists_blockDecode_of_mem {bs : List (Nat × Nat × Nat)} {ch first len i : Nat} (mem : (ch, first, len) ∈ bs) (inside : i < len) :
    ∃ a, blockDecode bs a = some (ch, first + i) := by
  induction bs with
  | nil => cases mem
  | cons b t ih =>
    rcases List.mem_cons.1 mem with rfl | later
    · exact ⟨i, by simp [blockDecode, inside]⟩
    · obtain ⟨a, found⟩ := ih later
      exact ⟨b.2.2 + a, by simp [blockDecode, found]⟩

theorem foldl_blockStep_of_absent {bs : List (Nat × Nat × Nat)} {ch loc : Nat} (absent : ch ∉ bs.map Prod.fst) (found : Nat × Nat) :
    (bs.foldl (blockStep ch loc) found).1 = found.1 := by
  induction bs generalizing found with
  | nil => rfl
  | cons b t ih =>
    obtain ⟨other, rest⟩ := not_or.1 (mt List.mem_cons.2 absent)
    rw [List.foldl_cons, ih rest, blockStep, if_neg fun same => other same.1.symm]

/-- The search finds the address that decodes to the line, when no channel has two blocks. -/
theorem foldl_blockStep_of_blockDecode {bs : List (Nat × Nat × Nat)} {a ch loc : Nat} (once : (bs.map Prod.fst).Nodup)
    (decodes : blockDecode bs a = some (ch, loc)) (found : Nat × Nat) : (bs.foldl (blockStep ch loc) found).1 = found.2 + a := by
  induction bs generalizing a found with
  | nil => cases decodes
  | cons b t ih =>
    obtain ⟨c, start, size⟩ := b
    obtain ⟨fresh, once⟩ := List.nodup_cons.1 once
    rw [blockDecode] at decodes
    rw [List.foldl_cons]
    split_ifs at decodes with inside
    · cases decodes
      simp [foldl_blockStep_of_absent fresh, blockStep]
    · obtain ⟨first, len, mem, -⟩ := mem_of_blockDecode decodes
      have other : c ≠ ch := fun same => fresh (List.mem_map.2 ⟨_, mem, same.symm⟩)
      rw [ih once decodes, blockStep, if_neg fun same => other same.1]
      simp only
      omega

/-! The layout (R166). -/

theorem State.mem_linearBlocks {s : State} {ch first len : Nat} : (ch, first, len) ∈ s.linearBlocks ↔
    (ch ∈ s.intSet ∧ s.minCapacity < s.capacity ch ∧ first = s.minCapacity ∧ len = s.capacity ch - s.minCapacity) ∨
      (ch ∈ s.acceptedChans ∧ ch ∉ s.intSet ∧ first = 0 ∧ len = s.capacity ch) := by
  refine List.mem_append.trans (or_congr ?_ ?_) <;> simp only [List.mem_map, List.mem_filter, Prod.mk.injEq]
  · constructor
    · rintro ⟨c, ⟨mem, above⟩, rfl, rfl, rfl⟩
      exact ⟨mem, of_decide_eq_true above, rfl, rfl⟩
    · rintro ⟨mem, above, rfl, rfl⟩
      exact ⟨ch, ⟨mem, decide_eq_true above⟩, rfl, rfl, rfl⟩
  · constructor
    · rintro ⟨c, ⟨mem, absent⟩, rfl, rfl, rfl⟩
      exact ⟨mem, by simpa using absent, rfl, rfl⟩
    · rintro ⟨mem, absent, rfl, rfl⟩
      exact ⟨ch, ⟨mem, by simpa using absent⟩, rfl, rfl, rfl⟩

theorem State.nodup_linearBlocks (s : State) : (s.linearBlocks.map Prod.fst).Nodup := by
  simp only [State.linearBlocks, List.map_append, List.map_map, Function.comp_def, List.map_id']
  refine List.nodup_append'.2 ⟨s.nodup_intSet.filter _, s.nodup_acceptedChans.filter _, fun ch inside outside => ?_⟩
  have absent := (List.mem_filter.1 outside).2
  simp [(List.mem_filter.1 inside).1] at absent

/-- Values of at least m, added up: m of each, then what each has above it. -/
theorem sum_map_eq_length_mul_add (f : Nat → Nat) {m : Nat} {l : List Nat} (least : ∀ c ∈ l, m ≤ f c) :
    (l.map f).sum = l.length * m + ((l.filter fun c => m < f c).map fun c => f c - m).sum := by
  induction l with
  | nil => simp
  | cons c t ih =>
    obtain ⟨here, rest⟩ := List.forall_mem_cons.1 least
    rw [List.map_cons, List.sum_cons, ih rest, List.length_cons, Nat.succ_mul]
    by_cases above : m < f c
    · simp only [List.filter_cons, above, decide_true, if_true, List.map_cons, List.sum_cons]; omega
    · simp only [List.filter_cons, above, decide_false, Bool.false_eq_true, if_false]; omega

/-- The accepted channels are those of the set and those outside it. -/
theorem State.intSet_append_perm (s : State) : (s.intSet ++ s.acceptedChans.filter fun ch => !s.intSet.contains ch).Perm s.acceptedChans := by
  have inside : s.intSet.Perm (s.acceptedChans.filter fun ch => s.intSet.contains ch) := by
    refine (List.perm_ext_iff_of_nodup s.nodup_intSet (s.nodup_acceptedChans.filter _)).2 fun ch => ?_
    simpa [List.mem_filter] using fun mem => s.intSet_sublist.subset mem
  exact (inside.append_right _).trans (List.filter_append_perm _ _)

/-- The interleaved part and the linear blocks fill the map (R166). -/
theorem State.mapTop_eq (s : State) : s.mapTop = s.interleavedTop + blocksLength s.linearBlocks := by
  have inside := sum_map_eq_length_mul_add s.capacity fun ch mem => State.minCapacity_le (s := s) mem
  calc s.mapTop = (s.intSet.map s.capacity).sum + ((s.acceptedChans.filter fun ch => !s.intSet.contains ch).map s.capacity).sum := by
        rw [← List.sum_append, ← List.map_append, (s.intSet_append_perm.map s.capacity).sum_eq, State.mapTop]
    _ = s.interleavedTop + blocksLength s.linearBlocks := by
        simp only [inside, State.interleavedTop, blocksLength, State.linearBlocks, List.map_append, List.map_map, List.sum_append,
          Function.comp_def, Nat.add_assoc]

/-! The two parts of the map. -/

/-- An engine address and a channel-local address name each other. -/
def State.Pairs (s : State) (a ch loc : Nat) : Prop := s.decodeAddr a = some (ch, loc) ∧ s.encodeAddr ch loc = a

theorem State.decodeAddr_of_linear {s : State} (mapped : s.mapped = true) (a : Nat) :
    s.decodeAddr (s.interleavedTop + a) = blockDecode s.linearBlocks a := by
  simp [State.decodeAddr, mapped]

theorem State.encodeAddr_of_linear {s : State} {ch loc : Nat} (outside : ¬ (ch ∈ s.intSet ∧ loc < s.minCapacity)) :
    s.encodeAddr ch loc = (s.linearBlocks.foldl (blockStep ch loc) (0, s.interleavedTop)).1 := by
  rw [State.encodeAddr, if_neg (by simpa using outside)]
  rfl

theorem State.decodeAddr_of_interleaved {s : State} {a : Nat} (mapped : s.mapped = true) (below : a < s.interleavedTop) :
    s.decodeAddr a = some (s.intSet.getD (a / s.grainBytes % s.intSet.length) 0,
      a / s.grainBytes / s.intSet.length * s.grainBytes + a % s.grainBytes) := by
  have nonempty : 0 < s.intSet.length := Nat.pos_of_mul_pos_right (Nat.zero_lt_of_lt below)
  simp [State.decodeAddr, State.grainBytes, mapped, below, Nat.shiftRight_eq_div_pow, Nat.shiftLeft_eq, State.two_pow_log2of_length_intSet nonempty]

theorem State.encodeAddr_of_interleaved {s : State} {ch loc : Nat} (mem : ch ∈ s.intSet) (inside : loc < s.minCapacity) :
    s.encodeAddr ch loc = (loc / s.grainBytes * s.intSet.length + s.intSet.idxOf ch) * s.grainBytes + loc % s.grainBytes := by
  simp [State.encodeAddr, State.grainBytes, mem, inside, Nat.shiftRight_eq_div_pow, Nat.shiftLeft_eq]

/-- A line of a linear block and its address (R167). -/
theorem State.pairs_of_blockDecode {s : State} {a ch loc : Nat} (mapped : s.mapped = true)
    (found : blockDecode s.linearBlocks a = some (ch, loc)) : s.Pairs (s.interleavedTop + a) ch loc := by
  have outside : ¬ (ch ∈ s.intSet ∧ loc < s.minCapacity) := by
    obtain ⟨first, len, block, start, -⟩ := mem_of_blockDecode found
    rcases State.mem_linearBlocks.1 block with ⟨-, -, rfl, -⟩ | ⟨-, absent, -, -⟩
    · omega
    · exact fun inside => absent inside.1
  refine ⟨(State.decodeAddr_of_linear mapped a).trans found, ?_⟩
  rw [State.encodeAddr_of_linear outside, foldl_blockStep_of_blockDecode s.nodup_linearBlocks found]

/-- A quotient and a remainder below the divisor are those of the number they make. -/
theorem div_mod_of_mul_add {q n i : Nat} (inside : i < n) : (q * n + i) / n = q ∧ (q * n + i) % n = i :=
  (Nat.div_mod_unique (Nat.zero_lt_of_lt inside)).2 ⟨by rw [Nat.mul_comm n q, Nat.add_comm], inside⟩

theorem mul_add_lt_mul {q n i c : Nat} (inside : i < n) (below : q < c) : q * n + i < c * n :=
  (Nat.div_lt_iff_lt_mul (Nat.zero_lt_of_lt inside)).1 ((div_mod_of_mul_add inside).1 ▸ below)

theorem mul_add_lt_mul_iff {q n i c : Nat} (inside : i < n) : q * n + i < c * n ↔ q < c := by
  rw [← Nat.div_lt_iff_lt_mul (Nat.zero_lt_of_lt inside), (div_mod_of_mul_add inside).1]

section
variable {s : State} {q i r : Nat} (grain : s.obj Obj.interleaveGrain ≤ 20) (position : i < s.intSet.length) (offset : r < s.grainBytes)
include grain position offset

theorem State.local_lt_minCapacity_iff : q * s.grainBytes + r < s.minCapacity ↔ q < s.minCapacity / s.grainBytes := by
  have grains := State.grains_of_minCapacity (Nat.zero_lt_of_lt position) grain
  calc q * s.grainBytes + r < s.minCapacity ↔ q * s.grainBytes + r < s.minCapacity / s.grainBytes * s.grainBytes := by rw [grains]
    _ ↔ q < s.minCapacity / s.grainBytes := mul_add_lt_mul_iff offset

theorem State.address_lt_interleavedTop_iff : (q * s.intSet.length + i) * s.grainBytes + r < s.interleavedTop ↔ q < s.minCapacity / s.grainBytes := by
  have top : s.interleavedTop = s.minCapacity / s.grainBytes * s.intSet.length * s.grainBytes := by
    rw [Nat.mul_right_comm, State.grains_of_minCapacity (Nat.zero_lt_of_lt position) grain, Nat.mul_comm, State.interleavedTop]
  rw [top, mul_add_lt_mul_iff offset, mul_add_lt_mul_iff position]

/-- Offset r of grain q of the channel at position i of the set, and its address (R167). -/
theorem State.pairs_of_grain (mapped : s.mapped = true) (whole : q < s.minCapacity / s.grainBytes) :
    s.Pairs ((q * s.intSet.length + i) * s.grainBytes + r) s.intSet[i] (q * s.grainBytes + r) := by
  have below := (State.address_lt_interleavedTop_iff grain position offset).2 whole
  have inside := (State.local_lt_minCapacity_iff grain position offset).2 whole
  constructor
  · simp [State.decodeAddr_of_interleaved mapped below, div_mod_of_mul_add offset, div_mod_of_mul_add position, position]
  · simp [State.encodeAddr_of_interleaved (List.getElem_mem position) inside, div_mod_of_mul_add offset, s.nodup_intSet.idxOf_getElem]

end

/-! One to one, and onto (R166, R167). -/

section
variable {s : State} (mapped : s.mapped = true)
include mapped

/-- Every line below Cmin of a channel of the set has its address in the interleaved part. -/
theorem State.exists_pairs_of_interleaved {ch loc : Nat} (grain : s.obj Obj.interleaveGrain ≤ 20) (mem : ch ∈ s.intSet)
    (inside : loc < s.minCapacity) : ∃ a < s.interleavedTop, s.Pairs a ch loc := by
  have position : s.intSet.idxOf ch < s.intSet.length := List.idxOf_lt_length_of_mem mem
  have offset : loc % s.grainBytes < s.grainBytes := Nat.mod_lt _ s.grainBytes_pos
  have split : loc / s.grainBytes * s.grainBytes + loc % s.grainBytes = loc := Nat.div_add_mod' loc _
  have whole := (State.local_lt_minCapacity_iff grain position offset).1 (split ▸ inside)
  have pairs := State.pairs_of_grain grain position offset mapped whole
  rw [split, List.getElem_idxOf position] at pairs
  exact ⟨_, (State.address_lt_interleavedTop_iff grain position offset).2 whole, pairs⟩

/-- Every address of the interleaved part is that of a line below Cmin of a channel of the set. -/
theorem State.exists_pairs_of_lt_interleavedTop {a : Nat} (grain : s.obj Obj.interleaveGrain ≤ 20) (below : a < s.interleavedTop) :
    ∃ ch loc, ch ∈ s.intSet ∧ loc < s.minCapacity ∧ s.Pairs a ch loc := by
  have nonempty : 0 < s.intSet.length := Nat.pos_of_mul_pos_right (Nat.zero_lt_of_lt below)
  have position : a / s.grainBytes % s.intSet.length < s.intSet.length := Nat.mod_lt _ nonempty
  have offset : a % s.grainBytes < s.grainBytes := Nat.mod_lt _ s.grainBytes_pos
  have split : (a / s.grainBytes / s.intSet.length * s.intSet.length + a / s.grainBytes % s.intSet.length) * s.grainBytes + a % s.grainBytes =
      a := by
    rw [Nat.div_add_mod', Nat.div_add_mod']
  have whole := (State.address_lt_interleavedTop_iff grain position offset).1 (split.symm ▸ below)
  have pairs := State.pairs_of_grain grain position offset mapped whole
  rw [split] at pairs
  exact ⟨_, _, List.getElem_mem position, (State.local_lt_minCapacity_iff grain position offset).2 whole, pairs⟩

/-- Every line outside the interleaved part has its address in a linear block. -/
theorem State.exists_pairs_of_linear {ch loc : Nat} (accepted : ch ∈ s.acceptedChans) (inside : loc < s.capacity ch)
    (outside : ¬ (ch ∈ s.intSet ∧ loc < s.minCapacity)) : ∃ a < s.mapTop, s.Pairs a ch loc := by
  obtain ⟨first, len, block, start, ending⟩ : ∃ first len, (ch, first, len) ∈ s.linearBlocks ∧ first ≤ loc ∧ loc < first + len := by
    by_cases mem : ch ∈ s.intSet
    · have above : s.minCapacity ≤ loc := Nat.le_of_not_lt fun low => outside ⟨mem, low⟩
      exact ⟨_, _, State.mem_linearBlocks.2 (.inl ⟨mem, by omega, rfl, rfl⟩), above, by omega⟩
    · exact ⟨_, _, State.mem_linearBlocks.2 (.inr ⟨accepted, mem, rfl, rfl⟩), by omega, by omega⟩
  obtain ⟨a, found⟩ := exists_blockDecode_of_mem block (show loc - first < len by omega)
  rw [Nat.add_sub_cancel' start] at found
  have below : a < blocksLength s.linearBlocks := blockDecode_isSome_iff.1 (found ▸ rfl)
  exact ⟨_, by rw [s.mapTop_eq]; omega, State.pairs_of_blockDecode mapped found⟩

/-- Every address behind the interleaved part is that of a line of an accepted channel, up to MAP_TOP. -/
theorem State.exists_pairs_of_le_interleavedTop {a : Nat} (above : s.interleavedTop ≤ a) (below : a < s.mapTop) :
    ∃ ch loc, ch ∈ s.acceptedChans ∧ loc < s.capacity ch ∧ s.Pairs a ch loc := by
  obtain ⟨b, rfl⟩ := Nat.exists_eq_add_of_le above
  have listed : b < blocksLength s.linearBlocks := by
    rw [s.mapTop_eq] at below
    omega
  obtain ⟨⟨ch, loc⟩, found⟩ := Option.isSome_iff_exists.1 (blockDecode_isSome_iff.2 listed)
  obtain ⟨first, len, block, start, ending⟩ := mem_of_blockDecode found
  refine ⟨ch, loc, ?_, ?_, State.pairs_of_blockDecode mapped found⟩
  · rcases State.mem_linearBlocks.1 block with ⟨mem, -⟩ | ⟨accepted, -⟩
    · exact s.intSet_sublist.subset mem
    · exact accepted
  · rcases State.mem_linearBlocks.1 block with ⟨-, -, rfl, rfl⟩ | ⟨-, -, rfl, rfl⟩ <;> omega

theorem State.decodeAddr_of_mapTop_le {a : Nat} (above : s.mapTop ≤ a) : s.decodeAddr a = none := by
  rw [s.mapTop_eq] at above
  obtain ⟨b, rfl⟩ := Nat.exists_eq_add_of_le (Nat.le_of_add_right_le above)
  rw [State.decodeAddr_of_linear mapped, ← Option.not_isSome_iff_eq_none, blockDecode_isSome_iff]
  omega

end

/-- Settles O53: both ways by the part of the map that the line or the address lies in. -/
theorem addressMapIsOneToOne : Obligations.AddressMapIsOneToOne := by
  intro s mapped _ grain
  have topBelow : s.interleavedTop ≤ s.mapTop := s.mapTop_eq ▸ Nat.le_add_right _ _
  refine ⟨fun ch loc low accepted inside => ?_, fun a below => ?_, fun a above => State.decodeAddr_of_mapTop_le mapped above⟩
  · obtain ⟨a, below, decodes, rfl⟩ : ∃ a < s.mapTop, s.Pairs a ch loc := by
      by_cases part : ch ∈ s.intSet ∧ loc < s.minCapacity
      · obtain ⟨a, below, pairs⟩ := State.exists_pairs_of_interleaved mapped grain part.1 part.2
        exact ⟨a, below.trans_le topBelow, pairs⟩
      · exact State.exists_pairs_of_linear mapped (State.mem_acceptedChans.2 ⟨low, accepted⟩) inside part
    exact ⟨below, decodes⟩
  · obtain ⟨ch, loc, mem, inside, decodes, encodes⟩ : ∃ ch loc, ch ∈ s.acceptedChans ∧ loc < s.capacity ch ∧ s.Pairs a ch loc := by
      rcases Nat.lt_or_ge a s.interleavedTop with part | part
      · obtain ⟨ch, loc, mem, inside, pairs⟩ := State.exists_pairs_of_lt_interleavedTop mapped grain part
        exact ⟨ch, loc, s.intSet_sublist.subset mem, inside.trans_le (State.minCapacity_le mem), pairs⟩
      · exact State.exists_pairs_of_le_interleavedTop mapped part below
    obtain ⟨low, accepted⟩ := State.mem_acceptedChans.1 mem
    exact ⟨ch, loc, low, accepted, inside, decodes, encodes⟩

end Sys2Proof.Machine
end

section
/-! PROOFS. The store's schedulers: the command that issues, read data that is checked, and what comes due in the queues (R202 to R209, R225, R302 to
R304): each operation in the case of its event. -/

namespace Sys2Proof.Machine

/-! DRAM commands (R205). -/

/-- Slots in which no command may issue pass, and the first in which one may ends the search with the slot behind it. -/
theorem issueFrom_of_first {ch sub n budget h : Nat} {f : Nat → State} {t : State} (within : n < budget)
    (idle : ∀ m < n, (f m).trySlot ch sub (h + m) = (f (m + 1), false)) (issues : (f n).trySlot ch sub (h + n) = (t, true)) :
    (f 0).issueFrom ch sub budget h = some (t, h + n + 1) := by
  induction n generalizing budget h f with
  | zero =>
    obtain ⟨rest, rfl⟩ := Nat.exists_eq_add_of_lt within
    rw [Nat.add_zero] at issues
    simp only [State.issueFrom, issues, Nat.add_zero]
  | succ n ih =>
    obtain ⟨rest, rfl⟩ := Nat.exists_eq_add_of_lt within
    have passes := idle 0 n.succ_pos
    have later : (f 1).issueFrom ch sub (n + 1 + rest) (h + 1) = some (t, h + 1 + n + 1) :=
      ih (f := fun m => f (m + 1)) (by omega) (fun m below => by rw [← idle (m + 1) (by omega)]; congr 1; omega)
        (by rw [← issues]; congr 1; omega)
    rw [Nat.add_zero, Nat.zero_add] at passes
    rw [State.issueFrom, passes]
    exact later.trans (by rw [Nat.add_right_comm h 1 n, Nat.add_assoc h n 1])

/-- The next CA slot of a subchannel: not before now, and behind the slots that are used (R205). -/
def State.nextCaSlot (s : State) (ch sub : Nat) : Nat := max (2 * s.cyc) (if sub = 0 then (s.chan ch).cmdA else (s.chan ch).cmdB)

theorem dramIssue_of_issueFrom {s t : State} {ch sub h : Nat} (runs : s.chanRuns ch = true)
    (issues : s.issueFrom ch sub 4096 (s.nextCaSlot ch sub) = some (t, h)) :
    s.dramIssue ch sub = t.modChan ch fun q => if sub = 0 then { q with cmdA := h } else { q with cmdB := h } := by
  rw [State.nextCaSlot] at issues
  simp only [State.dramIssue, runs, issues, Bool.not_true, Bool.false_eq_true, if_false]

/-! Read checks (R302 to R304). -/

/-- The data of a read arrives at its time, with what the wires changed: `d` and `k` are the data and the check bytes that the check sees. -/
structure State.ReadArrives (s : State) (ch sub : Nat) (noise : List Byte) (e : Ent) (t : State) (d k : List Byte) : Prop where
  first : s.inFlight ch sub = some e
  time : t = s.advanceCyc (e.issued + readData (s.obj Obj.opCurrent))
  data : d = xorBytes e.got noise
  check : k = xorBytes e.check (noise.drop 64)

section
variable {s t : State} {ch sub : Nat} {noise d k : List Byte} {e : Ent}

/-- A read behind a retried write of its line starts again (R300). -/
theorem readCheck_of_reread (arrives : s.ReadArrives ch sub noise e t d k) (again : e.reread = true) :
    s.readCheck ch sub noise = (t.bump (Obj.rereads ch)).modEnt e.serial fun y =>
      { y with stage := if 0 < y.pos then .replayQ else if y.first.isSome then .replayQ else .readQ, reread := false, redo := true } := by
  obtain ⟨first, rfl, rfl, rfl⟩ := arrives
  simp only [State.readCheck, first, again, if_true]

theorem readCheck_of_peek (arrives : s.ReadArrives ch sub noise e t d k) (once : e.reread = false) (peek : t.isPeek e = true) :
    s.readCheck ch sub noise = (t.dropEnt e.serial).lineDone e.req e.ix stOk (d ++ k) := by
  obtain ⟨first, rfl, rfl, rfl⟩ := arrives
  simp only [State.readCheck, first, once, peek, Bool.false_eq_true, if_false, if_true]

/-- The first outcome of a read that passes (R302). -/
theorem readCheck_of_pass (arrives : s.ReadArrives ch sub noise e t d k) (once : e.reread = false) (plain : t.isPeek e = false)
    (unread : e.first = none) (issued : e.stage = .issued) (good : failMask d k = 0) :
    s.readCheck ch sub noise = (t.dropEnt e.serial).lineDone e.req e.ix e.goodStatus d := by
  obtain ⟨first, rfl, rfl, rfl⟩ := arrives
  simp [State.readCheck, first, once, plain, unread, issued, good]

/-- The first outcome of a read that fails: it is read once more (R302). -/
theorem readCheck_of_fail (arrives : s.ReadArrives ch sub noise e t d k) (once : e.reread = false) (plain : t.isPeek e = false)
    (unread : e.first = none) (bad : failMask d k ≠ 0) :
    s.readCheck ch sub noise = t.modEnt e.serial fun y =>
      { y with stage := .replayQ, first := some (d, k), firstMask := failMask d k, failTs := some t.ts } := by
  obtain ⟨first, rfl, rfl, rfl⟩ := arrives
  simp [State.readCheck, first, once, plain, unread, bad]

/-- The second outcome decides, where the line is in time (R302, R304). -/
theorem readCheck_of_replay (arrives : s.ReadArrives ch sub noise e t d k) (once : e.reread = false) (plain : t.isPeek e = false)
    (failed : e.first.isSome = true) (inTime : e.pos = 0 ∨ t.cyc ≤ t.lsDeadline e) :
    s.readCheck ch sub noise =
      (((if 0 < e.pos then t.bump (Obj.lsReplays ch) else t).countOutcome e (failMask d k != 0) e.firstMask (failMask d k)).dropEnt
        e.serial).lineDone e.req e.ix (if failMask d k = 0 then e.goodStatus else stPoison) d := by
  have notLate : (decide (0 < e.pos) && decide (t.lsDeadline e < t.cyc)) = false := by
    rw [Bool.and_eq_false_iff, decide_eq_false_iff_not, decide_eq_false_iff_not]
    omega
  obtain ⟨first, rfl, rfl, rfl⟩ := arrives
  simp [State.readCheck, first, once, plain, Option.isNone_eq_false_iff.2 failed, failed, notLate]

/-- The second outcome of a lockstep line that comes after its departure is counted, and the line is late (R218). -/
theorem readCheck_of_late_replay (arrives : s.ReadArrives ch sub noise e t d k) (once : e.reread = false) (plain : t.isPeek e = false)
    (failed : e.first.isSome = true) (lockstep : 0 < e.pos) (late : t.lsDeadline e < t.cyc) :
    s.readCheck ch sub noise =
      let u := t.countOutcome e (failMask d k != 0) e.firstMask (failMask d k)
      if (u.req? e.req).isNone then u.dropEnt e.serial else u.lateLine e (Obj.lateReplay ch) := by
  obtain ⟨first, rfl, rfl, rfl⟩ := arrives
  simp [State.readCheck, first, once, plain, Option.isNone_eq_false_iff.2 failed, failed, lockstep, late]

end

/-! What comes due (R204, R207, R225). -/

theorem rowIdles_of_open {s : State} {ch sub bank row last : Nat} (opened : ((s.chan ch).sub sub).rowOf bank = some (row, last)) :
    s.rowIdles ch sub bank = s.advanceCyc (last + s.act (Obj.pageIdle ch)) := by
  simp only [State.rowIdles, opened]

/-- The read that the end of DRAIN counts from is the one granted first of those queued (R207). -/
theorem drainExpires_of_waiting {s : State} {ch sub : Nat} {e : Ent} {l : List Ent} (waiting : s.queue ch sub .readQ = e :: l)
    (drains : ((s.chan ch).sub sub).drain = true) {u : State}
    (time : u = s.advanceCyc (max (l.foldl (fun m e => min m e.granted) e.granted) ((s.chan ch).sub sub).drainAt + ((s.chan ch).sub sub).dMax)) :
    s.drainExpires ch sub =
      (u.modSub ch sub fun y => { y with drain := false, readUntil := u.cyc + 1 }).setBit (Obj.schedStatus ch) sub false := by
  subst time
  rw [State.drainExpires, waiting, List.foldl_cons]
  simp only [List.foldl_hom (f := some) (g₁ := fun m (e : Ent) => min m e.granted), drains, Bool.not_true, Bool.false_eq_true, if_false,
    implies_true]

/-- The watchdog bites for the entry whose wait began first, and no more for that entry (R225). -/
theorem schedBites_of_watched {s : State} {ch d : Nat} {e : Ent} (runs : s.chanRuns ch = true) (watched : s.firstWatched ch = some (e, d)) {t : State}
    (time : t = s.advanceCyc (d + s.obj (Obj.schedWatchdog ch))) :
    s.schedBites ch = (({ t with ents := t.ents.map fun x : Ent =>
      if x.serial = e.serial then { x with watch := none } else x }.bump (Obj.schedWatchdogBites ch)).raise (4 * ch + 2) (sourceWord ch 0xFF)) := by
  subst time
  simp only [State.schedBites, runs, watched, if_true]

/-- Settles O17: each event's operation in its own case (log entry 44 for the slots in which a command is looked for, 45 for what the watchdog counts, 142
for a read behind a retried write, 6 for the time of an event). -/
theorem schedulerEventsComplete : Obligations.SchedulerEventsComplete := by
  rintro s a ch sub rfl
  refine ⟨?command, ?readData, ?idleRow, ?drain, ?watchdog⟩
  case command =>
    rintro n h f t awake runs rfl within begins idle issues
    have found := issueFrom_of_first within idle issues
    rw [begins] at found
    exact runAwake_next awake (dramIssue_of_issueFrom runs found)
  case readData =>
    rintro noise e t d k clocked first time data check
    have arrives : s.fresh.ReadArrives ch sub ((noise ++ zeros 80).take 80) e t d k := ⟨first, time, data, check⟩
    refine ⟨fun again => ?_, fun once peek => ?_, fun once plain => ⟨fun unread issued good => ?_, fun unread bad => ?_, fun failed inTime => ?_,
      fun failed lockstep late => ?_⟩⟩
    · exact runClocked_next clocked (readCheck_of_reread arrives again)
    · exact runClocked_next clocked (readCheck_of_peek arrives once peek)
    · exact runClocked_next clocked (readCheck_of_pass arrives once plain unread issued good)
    · exact runClocked_next clocked (readCheck_of_fail arrives once plain unread bad)
    · exact runClocked_next clocked (readCheck_of_replay arrives once plain failed inTime)
    · exact runClocked_next clocked (readCheck_of_late_replay arrives once plain failed lockstep late)
  case idleRow =>
    intro bank row last clocked opened
    exact runClocked_next clocked (rowIdles_of_open opened)
  case drain =>
    rintro e l t u clocked waiting drains rfl time
    exact runClocked_next clocked (drainExpires_of_waiting waiting drains time)
  case watchdog =>
    intro e d t clocked runs watched time
    exact runClocked_next clocked (schedBites_of_watched runs watched time)

end Sys2Proof.Machine
end

section
/-! PROOFS. Temperature, overdue banks and the entropy source of a channel (R237, R240, R252 to R255): each operation of the refresh care in the case in
which its guards let it act. -/

namespace Sys2Proof.Machine

section
variable {s : State} {ch : Nat}

/-- A stale rank is counted from the later of the last reads of its two subchannels (R253). -/
theorem mr4Expires_of_populated {r : Nat} (runs : s.chanRuns ch = true) (populated : r < rankCount (s.chan ch).dimms) :
    s.mr4Expires ch r =
      (s.advanceCyc (max (mapGet (fun _ => 0) (s.chan ch).mr4At (2 * r)) (mapGet (fun _ => 0) (s.chan ch).mr4At (2 * r + 1)) + 65536)).mr4GoesStale ch r := by
  simp [State.mr4Expires, runs, Nat.not_le.2 populated]

/-- The bank 0 stands for the whole rank where refresh is not per bank (R231, R252). -/
theorem goesOverdue_of_timely {sub r key : Nat} {x : RankRefresh} (runs : s.chanRuns ch = true) (populated : r < rankCount (s.chan ch).dimms)
    (rank : x = (s.chan ch).rank sub r) (timely : bitOf x.overdue key = false) (bank : key < 4) (mode : s.obj (Obj.refMode ch) ≠ 0 ∨ key = 0) :
    s.goesOverdue ch sub r key =
      (((s.advanceCyc (mapGet (fun _ => 0) x.lastAt key + s.refBound ch (mapGet (fun _ => 0) x.lastAt key) + 1)).modChan ch fun c =>
        c.setRank sub r { x with overdue := withBit x.overdue key true }).bump (Obj.refOverdue ch)).beginRefresh ch 0 := by
  subst rank
  have counted : (s.obj (Obj.refMode ch) == 0 && key != 0) = false := by
    rcases mode with perBank | rfl
    · simp [perBank]
    · simp
  simp [State.goesOverdue, runs, Nat.not_le.2 populated, timely, Nat.not_le.2 bank, counted]

/-- The source in use fails, and the LFSR draws in its place (R240). -/
theorem entropyFails_of_healthy (accepted : (s.chan ch).accepted = true) (healthy : s.bit (Obj.nrStatus ch) 0 = true) :
    s.entropyFails ch = ((s.seedLfsr ch).setBit (Obj.nrStatus ch) 0 false).beginRefresh ch 2 := by
  simp [State.entropyFails, accepted, healthy]

/-- Enough good samples end the start-up test, and the failure of a source that had failed (R240, R255). -/
theorem entropyPasses_of_enough {samples : Nat} {t : State} (accepted : (s.chan ch).accepted = true) (enough : 1024 ≤ samples)
    (started : t = s.modChan ch fun c => { c with entropyUp := true }) :
    s.entropyPasses ch samples =
      if t.bit (Obj.nrStatus ch) 0 then t else (t.setBit (Obj.nrStatus ch) 0 true).endCause (4 * ch + 3) 2 := by
  subst started
  simp [State.entropyPasses, accepted, Nat.not_lt.2 enough]

end

/-- Settles O18: each event's operation in the case of its guards (log entry 51 for the read that staleness counts from, 47 for the bound of an overdue
bank, 6 for the time of an event). -/
theorem refreshEventsComplete : Obligations.RefreshEventsComplete := by
  rintro s a ch rfl
  refine ⟨?read, ?stale, ?overdue, ?fail, ?recover⟩
  case read =>
    intro rank sub code awake runs populated
    have acts : (s.fresh.chanRuns ch && decide (rank.val < rankCount (s.fresh.chan ch).dimms)) = true := by simp [runs, populated]
    exact runAwake_next awake (if_pos acts)
  case stale =>
    intro rank awake runs populated
    exact runAwake_next awake (mr4Expires_of_populated runs populated)
  case overdue =>
    intro sub rank bank x awake runs populated found timely mode
    exact runAwake_next awake (goesOverdue_of_timely runs populated found timely bank.isLt mode)
  case fail =>
    intro awake accepted healthy
    exact runAwake_next awake (entropyFails_of_healthy accepted healthy)
  case recover =>
    intro samples t awake accepted enough started
    exact runAwake_next awake (entropyPasses_of_enough accepted enough started)

end Sys2Proof.Machine
end

section
/-! PROOFS. Training of a channel, its resume and the tracking of its lanes (R264 to R292): each operation in the case in which its guards let it act. -/

namespace Sys2Proof.Machine

/-! Training starts and ends (R265, R267, R282, R287). -/

/-- The steps of a training begin to run: refresh runs from the exit of self-refresh, and every offset is zero (R267, R286). -/
def State.stepsBegin (t : State) (ch : Nat) (x : TrainRun) (times : List Nat) : State :=
  let t := if (t.chan ch).selfRefresh || (t.chan ch).refresh.isEmpty then t.exitSelfRefresh ch else t
  ((((t.zeroOffsets ch).modChan ch fun c => { c with train := some { x with running := true, started := t.now, times := times, saved := false } }).setObj
    (Obj.trainState ch) 1).setObj (Obj.trainStep ch) 1).bump (Obj.trainings ch)

section
variable {s : State} {ch : Nat} {x : TrainRun} (train : (s.chan ch).train = some x)
include train

/-- A training at the operating point in force starts when the queues of its channel are empty; start-up takes the points in order (R270, R282). -/
theorem trainingStarts_of_ready (times : List Nat) (waits : x.running = false) (empty : s.queuesEmpty ch = true)
    (point : x.ops.headD 3 = s.obj Obj.opCurrent) (turn : x.command = true ∨ s.trainTarget = s.obj Obj.opCurrent) :
    s.trainingStarts ch times = (s.dropShadows fun h => h.bound == .training && h.key / 0x10000 == 0x30 + ch).stepsBegin ch x times := by
  have itsTurn : (!x.command && s.trainTarget != s.obj Obj.opCurrent) = false := by
    rcases turn with command | target
    · simp [command]
    · simp [target]
  simp only [State.trainingStarts, train, waits, empty, point, itsTurn, bne_self_eq_false, Bool.not_true, Bool.or_self, Bool.false_eq_true, if_false]
  rfl

/-- A run of which no step fails ends with its last step, where its search found what it may commit (R263, R265). -/
theorem trainingEnds_of_pass {us : Nat} {margins : Nat} {body : List Byte} (running : x.running = true)
    (last : x.stepStart (s.chan ch).dimms 11 = some us)
    (found : x.full = true ∨ s.storedSet ch (x.ops.headD 3) = false ∨
      nearSeed (s.chan ch).dimms ((s.setOf ch (x.ops.headD 3)).bytes.drop 64) (setBody (s.chan ch).dimms body) = true) :
    s.trainingEnds ch none margins body = ((s.advanceTo (x.started + us * usTicks)).trainSaves ch).trainingPassed ch margins body x := by
  have commits : (x.full || !s.storedSet ch (x.ops.headD 3) ||
      nearSeed (s.chan ch).dimms ((s.setOf ch (x.ops.headD 3)).bytes.drop 64) (setBody (s.chan ch).dimms body)) = true := by
    simpa [or_assoc] using found
  simp only [State.trainingEnds, train, running, Bool.not_true, Bool.false_eq_true, if_false, State.lastStepEnds, last, commits, if_true]

/-- A run ends with the step that fails, unless that step has passed (R265, R266). -/
theorem trainingEnds_of_fail {w us : Nat} (margins : Nat) (body : List Byte) (running : x.running = true)
    (next : x.stepStart (s.chan ch).dimms (fld 0 4 w + 1) = some us) (ahead : s.now ≤ x.started + us * usTicks) :
    s.trainingEnds ch (some w) margins body = (s.advanceTo (x.started + us * usTicks)).trainingFailed ch w x := by
  simp only [State.trainingEnds, train, running, Bool.not_true, Bool.false_eq_true, if_false, State.stepFails, next, Nat.not_lt.2 ahead]

/-- The step that takes too long fails with reason 5 at its maximum (R265). -/
theorem stepTimesOut_of_overrun {n : Nat} (place : Nat) (running : x.running = true) (overrun : x.overruns (s.chan ch).dimms = some n) :
    s.stepTimesOut ch place =
      (s.advanceTo (x.started + ((x.stepStart (s.chan ch).dimms n).getD 0 + stepMax (s.chan ch).dimms x.full n) * usTicks)).trainingFailed ch
        (n + fld 6 9 place * 2 ^ 6 + 5 * 2 ^ 16) x := by
  simp only [State.stepTimesOut, train, overrun, running, Bool.not_true, Bool.false_eq_true, if_false]

end

/-- Rank, subchannel and bit fill the nine bits of a place (R292). -/
theorem fld_failPlace (rank : Fin 4) (sub : Fin 2) (bit : Fin 64) :
    fld 6 9 (failPlace rank sub bit) * 2 ^ 6 = rank.val * 2 ^ 6 + sub.val * 2 ^ 8 + bit.val * 2 ^ 9 := by
  rw [fld_eq_div_mod, failPlace]
  omega

/-! A parked channel resumes (R281, R283, R284). -/

/-- A channel comes to its resume check: offsets that were not kept are zero (R283, R286). -/
def State.offsetsReady (s : State) (ch : Nat) : State :=
  (if (s.chan ch).keptOffsets then s else s.zeroOffsets ch).modChan ch fun c => { c with keptOffsets := true }

/-- A set in retention memory serves: refresh runs, and the patterns are read (R283). -/
def State.resumeReads (t : State) (ch : Nat) : State := ((t.bump (Obj.resumes ch)).setObj (Obj.lastWay ch) 1).exitSelfRefresh ch

/-- A check that passes corrects the lanes, and the channel is in service again (R281, R284). -/
def State.resumeDone (u : State) (ch : Nat) (corr : List Byte) : State :=
  let v := u.each ((List.range 768).filter fun i => laneOffset corr i != 0) fun i t =>
    t.setOffset ch i (laneOffset (t.dom (Obj.laneOffsets ch)) i + laneOffset corr i)
  let v := v.modChan ch fun c => { c with resuming := false, caPassed := true }
  if v.bit Obj.channelsReady ch then v.setObj (Obj.trainState ch) 3 else v.enterService ch

/-- A resume of a channel goes the way its state and its check decide (R281, R283, R284). -/
theorem resumeChan_of_resuming {s t : State} {ch : Nat} (pattern : Bool) (corr : List Byte) (resuming : (s.chan ch).resuming = true)
    (ready : t = s.offsetsReady ch) :
    s.resumeChan ch pattern corr =
      if !(t.chan ch).opsLeft.isEmpty then
        ((t.planTraining ch (t.chan ch).opsLeft (!t.storedSet ch ((t.chan ch).opsLeft.headD 3)) false).modChan ch fun c =>
          { c with opsLeft := [] }).nextTrainOp
      else if !t.resumes? ch then t.planTraining ch [s.obj Obj.opCurrent] (!s.storedSet ch (s.obj Obj.opCurrent)) false
      else if pattern && (t.resumeReads ch).checkPasses ch corr then (t.resumeReads ch).resumeDone ch corr
      else ((((t.resumeReads ch).bump (Obj.resumeCheckFails ch)).enterSelfRefresh ch).planTraining ch [s.obj Obj.opCurrent] false false).setBit
        Obj.channelsReady ch false := by
  subst ready
  exact if_neg (by simp [resuming])

/-! Tracking (R275, R276, R289). -/

/-- A measurement has moved lanes of a rank: it is counted, with the time of the rank and of the lane, and the rank is stale no more (R275, R289). -/
def State.trackingSeen (t : State) (ch rank key : Nat) : State :=
  let v := (t.bump (Obj.trackUpdates ch)).modChan ch fun c =>
    { c with trackAt := mapSet (fun _ => 0) c.trackAt rank t.cyc, laneAt := mapSet (fun _ => 0) c.laneAt key t.cyc }
  if bitOf (v.causesOf (4 * ch + 1)) (1 + rank) then
    let w := v.endCause (4 * ch + 1) (1 + rank)
    w.setBit (Obj.driftStatus ch) 3 ((List.range 4).any fun k => bitOf (w.causesOf (4 * ch + 1)) (1 + k))
  else v

/-- A measurement of a lane that is due moves what it measures by at most one unit (R275, R276). -/
theorem trackLane_of_due {s : State} {ch rank sub lane base key due : Nat} (up down : Bool) (tracks : s.tracks ch = true)
    (runs : s.chanRuns ch = true) (below : lane < 90) (searched : ¬(80 ≤ lane ∧ lane < 85)) (populated : rank < rankCount (s.chan ch).dimms)
    (place : base = 96 * (2 * ((rankNos (s.chan ch).dimms).getD rank 0) + sub)) (first : key = base + (tracked lane).headD lane)
    (measured : s.laneDue ch (2 * rank + sub) lane key = some due) :
    s.trackLane ch rank sub lane up down =
      (((s.advanceCyc due).each (tracked lane) fun l t => t.setOffset ch (base + l) (laneOffset (t.dom (Obj.laneOffsets ch)) (base + l) +
        (if up && !down then 1 else if down && !up then -1 else 0))).trackingSeen ch rank key) := by
  have acts : ¬((!s.tracks ch || !s.chanRuns ch || decide (90 ≤ lane) || (decide (80 ≤ lane) && decide (lane < 85)) ||
      decide (rankCount (s.chan ch).dimms ≤ rank)) = true) := by
    simpa [tracks, runs, below, populated] using not_and.1 searched
  subst place first
  simp only [State.trackLane, acts, measured]
  rfl

/-- The rank is counted from its last measurement (R285, R289). -/
theorem trackGoesStale_of_timely {s : State} {ch rank : Nat} (released : s.released ch = true) (enabled : s.act (Obj.trackEnable ch) = 1)
    (populated : rank < rankCount (s.chan ch).dimms) (timely : bitOf (s.causesOf (4 * ch + 1)) (1 + rank) = false) :
    s.trackGoesStale ch rank =
      (((((s.advanceCyc (mapGet (fun _ => 0) (s.chan ch).trackAt rank + 65536)).setBit (Obj.phyFaultCause ch) 2 true).setBit
        (Obj.driftStatus ch) 3 true).bump (Obj.trackStaleCount ch)).beginCause (4 * ch + 1) (1 + rank) (sourceWord ch 2)) := by
  simp [State.trackGoesStale, released, enabled, Nat.not_le.2 populated, timely]

/-- Settles O19: each event's operation in the case of its guards (log entry 53 for what a training finds, 167 for the times of its steps, 175 for what a
SEEDED search may find and for the periods of tracking, 6 for the time of an event). -/
theorem trainingEventsComplete : Obligations.TrainingEventsComplete := by
  rintro s a ch rfl
  refine ⟨?start, ?pass, ?fail, ?timeout, ?resume, ?track, ?stale⟩
  case start =>
    rintro times x t awake train waits empty point turn rfl
    exact runAwake_next awake (trainingStarts_of_ready train times waits empty point turn)
  case pass =>
    intro reason margins place body x us awake train running sound last found
    have passes : s.fresh.trainingWord ch none reason margins.toNat place.toNat = none := sound
    exact runAwake_next awake (passes ▸ trainingEnds_of_pass train running last found)
  case fail =>
    intro failed reason margins place body x w us awake train running word next ahead
    exact runAwake_next awake (word ▸ trainingEnds_of_fail train margins.toNat body running next ahead)
  case timeout =>
    intro rank sub bit x n awake train running overrun
    have effect := stepTimesOut_of_overrun train (failPlace rank sub bit) running overrun
    rw [fld_failPlace, ← Nat.add_assoc, ← Nat.add_assoc] at effect
    exact runAwake_next awake effect
  case resume =>
    rintro pattern corrections t c awake resuming rfl ready
    have way := resumeChan_of_resuming pattern ((corrections ++ zeros 768).take 768) resuming ready
    refine ⟨fun left => ?left, fun noneLeft unserved => ?train, fun noneLeft served u reads => ?serve⟩
    case left => exact runAwake_next awake (way.trans (if_pos (by simp [left])))
    case train => exact runAwake_next awake (way.trans (by simp [noneLeft, unserved]))
    case serve =>
      subst reads
      simp only [noneLeft, served, List.isEmpty_nil, Bool.not_true, Bool.false_eq_true, if_false] at way
      refine ⟨fun good passes => ?passes, fun fails => ?fails⟩
      case passes => exact runAwake_next awake (way.trans (if_pos (Bool.and_eq_true_iff.2 ⟨good, passes⟩)))
      case fails => exact runAwake_next awake (way.trans (if_neg (Bool.not_eq_true _ ▸ Bool.and_eq_false_iff.2 fails)))
  case track =>
    rintro rank sub lane up down base key due b t v step awake tracks runs below searched populated place first measured rfl rfl rfl rfl
    exact runAwake_next awake (trackLane_of_due up down tracks runs below searched populated place first measured)
  case stale =>
    intro rank awake released enabled populated timely
    exact runAwake_next awake (trackGoesStale_of_timely released enabled populated timely)

end Sys2Proof.Machine
end

section
/-! PROOFS. Byte parity: what a write burst leaves in its line, as data, as check bits and as what the check of a read says (R295 to R301, R306,
R312), and what it leaves of the state (R297, R316). -/

namespace Sys2Proof.Machine

/-! Bits, bytes and parity (R296). -/

/-- A number put together bit by bit fits the bits put in, and reads back as they are. -/
theorem foldl_bits_lt (f : Nat → Bool) (n : Nat) : (List.range n).foldl (fun a k => a + b2n (f k) * 2 ^ k) 0 < 2 ^ n := by
  induction n with
  | zero => exact Nat.one_pos
  | succ n ih =>
    rw [List.range_succ, List.foldl_append]
    have top : b2n (f n) * 2 ^ n ≤ 1 * 2 ^ n := Nat.mul_le_mul_right _ (b2n_le_one _)
    simp only [List.foldl_cons, List.foldl_nil, Nat.pow_succ]
    omega

theorem testBit_foldl_bits (f : Nat → Bool) {n k : Nat} (below : k < n) :
    ((List.range n).foldl (fun a k => a + b2n (f k) * 2 ^ k) 0).testBit k = f k := by
  induction n with
  | zero => omega
  | succ n ih =>
    rw [List.range_succ, List.foldl_append, List.foldl_cons, List.foldl_nil, Nat.add_comm, Nat.mul_comm,
      Nat.testBit_two_pow_mul_add _ (foldl_bits_lt f n)]
    split
    · next inside => exact ih inside
    · next outside =>
      obtain rfl : k = n := by omega
      cases f k <;> simp [b2n]

/-- A byte made of bits has those bits. -/
theorem byteBit_byteOf (f : Nat → Bool) {k : Nat} (below : k < 8) : byteBit (byteOf f) k = f k := by
  have fits := foldl_bits_lt f 8
  rw [byteBit, byteOf, BitVec.toNat_ofNat, Nat.mod_eq_of_lt fits, testBit_foldl_bits f below]

theorem byteAt_map_range (f : Nat → Byte) {n i : Nat} (below : i < n) : byteAt ((List.range n).map f) i = f i := by
  simp [byteAt, below]

/-- Where two words differ, their counts of ones add up, but for pairs. -/
theorem popCount_xor_mod_two (w a b : Nat) : popCount w (a ^^^ b) % 2 = (popCount w a + popCount w b) % 2 := by
  induction w generalizing a b with
  | zero => rfl
  | succ w ih =>
    have low : (a ^^^ b) % 2 = (a + b) % 2 := Nat.xor_mod_two_eq
    have high : (a ^^^ b) / 2 = a / 2 ^^^ b / 2 := Nat.xor_div_two
    have rest := ih (a / 2) (b / 2)
    simp only [popCount, high]
    omega

/-- The byte holds an odd number of ones. -/
def oddOnes (b : Byte) : Bool := popCount 8 b.toNat % 2 == 1

/-- Flipping bits of a byte changes its parity where their number is odd. -/
theorem parityOf_xor (a b : Byte) : parityOf (a ^^^ b) = (parityOf a != oddOnes b) := by
  rw [Bool.eq_iff_iff]
  simp only [parityOf, oddOnes, BitVec.toNat_xor, popCount_xor_mod_two, bne_iff_ne, ne_eq, Bool.beq_eq_decide_eq, decide_eq_decide,
    decide_eq_true_eq]
  omega

/-- A flip mask turns an odd number of data bits of byte i where its beat is chosen and its field of the byte's device is odd (R312). -/
theorem oddOnes_flipData (m beats i : Nat) :
    oddOnes (flipData m beats i) = (bitOf beats (i / 4) && popCount 8 (fld (8 * (i % 4)) 8 m) % 2 == 1) := by
  have fits : fld (8 * (i % 4)) 8 m < 2 ^ 8 := Nat.mod_lt _ (by decide)
  cases chosen : bitOf beats (i / 4) with
  | false => simp only [flipData, chosen, Bool.false_eq_true, if_false, Bool.false_and]; rfl
  | true => simp only [oddOnes, flipData, chosen, if_true, BitVec.toNat_ofNat, Nat.mod_eq_of_lt fits, Bool.true_and]

/-! A write burst (R297, R306, R312). -/

/-- A burst that no flip alters is one whose flip mask is zero and chooses no beat. -/
theorem writeBurst_no_flip (old : List Byte × List Byte) (data : List Byte) (mask poison : Nat) (split : Option (List Byte)) :
    writeBurst old data mask poison split none = writeBurst old data mask poison split (some (0, 0)) := by
  have noPattern (i : Nat) : flipData 0 0 i = 0#8 := by simp [flipData, bitOf]
  have noTurn (j k : Nat) : (bitOf 0 j && bitOf 0 (32 + k)) = false := by simp [bitOf]
  unfold writeBurst
  refine congrArg₂ Prod.mk (List.map_congr_left fun i _ => ?data) (List.map_congr_left fun j _ => congrArg byteOf (funext fun k => ?check))
  case data => simp only [noPattern, BitVec.xor_zero]
  case check => simp only [noTurn, Bool.false_eq_true, if_false]

section
variable {old : List Byte × List Byte} {data : List Byte} {mask poison i : Nat}

theorem byteAt_writeBurst_enabled {split : Option (List Byte)} (m beats : Nat) (below : i < 64) (enabled : bitOf mask i = true) :
    byteAt (writeBurst old data mask poison split (some (m, beats))).1 i = byteAt data i ^^^ flipData m beats i := by
  simp only [writeBurst, byteAt_map_range _ below, enabled, if_true]

theorem byteAt_writeBurst_disabled {split : Option (List Byte)} {flip : Option (Nat × Nat)} (below : i < 64) (disabled : bitOf mask i = false) :
    byteAt (writeBurst old data mask poison split flip).1 i = byteAt old.1 i := by
  simp [writeBurst, byteAt_map_range _ below, disabled]

/-- Each check bit of an enabled byte is its parity as it was sent, complemented where the byte is poisoned, and where the flip turns it. -/
theorem byteBit_writeBurst_enabled (m beats : Nat) {j k : Nat} (below : j < 16) (bit : k < 8) (byte : 4 * j + k % 4 = i)
    (enabled : bitOf mask i = true) :
    byteBit (byteAt (writeBurst old data mask poison none (some (m, beats))).2 j) k =
      ((parityOf (byteAt data i) != bitOf poison i) != (bitOf beats j && bitOf m (32 + k))) := by
  subst byte
  simp only [writeBurst, byteAt_map_range _ below, byteBit_byteOf _ bit, enabled, if_true, burstCheck]
  cases bitOf poison (4 * j + k % 4) <;> cases bitOf beats j && bitOf m (32 + k) <;> simp

/-- The check bits of a disabled byte are as they were. -/
theorem byteBit_writeBurst_disabled {split : Option (List Byte)} {flip : Option (Nat × Nat)} {j k : Nat} (below : j < 16) (bit : k < 8)
    (byte : 4 * j + k % 4 = i) (disabled : bitOf mask i = false) :
    byteBit (byteAt (writeBurst old data mask poison split flip).2 j) k = byteBit (byteAt old.2 j) k := by
  subst byte
  simp [writeBurst, byteAt_map_range _ below, byteBit_byteOf _ bit, disabled]

/-- An enabled byte fails where, for one of its two check bits, poison, the flip of that bit and an odd number of flipped data bits do not cancel
(R301, R306, R312). -/
theorem byteFails_writeBurst_enabled (m beats : Nat) (below : i < 64) (enabled : bitOf mask i = true) {new : List Byte × List Byte}
    (left : new = writeBurst old data mask poison none (some (m, beats))) :
    byteFails new.1 new.2 i =
      (((bitOf poison i != (bitOf beats (i / 4) && bitOf m (32 + i % 4))) != oddOnes (flipData m beats i)) ||
        ((bitOf poison i != (bitOf beats (i / 4) && bitOf m (36 + i % 4))) != oddOnes (flipData m beats i))) := by
  subst left
  have first := byteBit_writeBurst_enabled (old := old) (data := data) (poison := poison) m beats (j := i / 4) (k := i % 4)
    (by omega) (by omega) (by omega) enabled
  have second := byteBit_writeBurst_enabled (old := old) (data := data) (poison := poison) m beats (j := i / 4) (k := 4 + i % 4)
    (by omega) (by omega) (by omega) enabled
  rw [← Nat.add_assoc] at second
  simp only [byteFails, byteAt_writeBurst_enabled m beats below enabled, parityOf_xor, first, second]
  cases parityOf (byteAt data i) <;> simp

/-- A disabled byte fails its check where it did before. -/
theorem byteFails_writeBurst_disabled {split : Option (List Byte)} {flip : Option (Nat × Nat)} (below : i < 64) (disabled : bitOf mask i = false) :
    byteFails (writeBurst old data mask poison split flip).1 (writeBurst old data mask poison split flip).2 i = byteFails old.1 old.2 i := by
  rw [byteFails, byteFails, byteAt_writeBurst_disabled below disabled,
    byteBit_writeBurst_disabled (i := i) (by omega) (by omega) (by omega) disabled,
    byteBit_writeBurst_disabled (i := i) (by omega) (by omega) (by omega) disabled]

end

/-- Settles O55: the data and the two check bits of a byte, as the burst or the line before it gives them, decide its check (log entry 59 for
the form of a line). -/
theorem burstsAreReadAsWritten : Obligations.BurstsAreReadAsWritten := by
  intro old data mask poison i below
  refine ⟨?plain, ?flipped⟩
  case plain =>
    intro new left
    rw [writeBurst_no_flip] at left
    cases enabled : bitOf mask i with
    | false =>
      subst left
      exact ⟨byteAt_writeBurst_disabled below enabled, byteFails_writeBurst_disabled below enabled⟩
    | true =>
      refine ⟨?_, ?_⟩
      · subst left
        simp [byteAt_writeBurst_enabled 0 0 below enabled, flipData, bitOf]
      · simp [byteFails_writeBurst_enabled 0 0 below enabled left, oddOnes_flipData, bitOf]
  case flipped =>
    intro m beats new left enabled sound
    rw [byteFails_writeBurst_enabled m beats below enabled left, oddOnes_flipData, sound]
    cases bitOf beats (i / 4) <;> simp [Bool.xor_comm]

/-! What a burst leaves of the state (R297, R316). -/

/-- The second state differs from the first in the objects and the domains alone. -/
def State.RecordsOnly (s t : State) : Prop := ∃ dict doms, t = { s with dict := dict, doms := doms }

namespace State.RecordsOnly

variable {s t u : State}

theorem refl (s : State) : RecordsOnly s s := ⟨_, _, rfl⟩

theorem ite {c : Prop} [Decidable c] (ht : RecordsOnly s t) (hu : RecordsOnly s u) : RecordsOnly s (if c then t else u) := by
  split
  · exact ht
  · exact hu

theorem setObj (h : RecordsOnly s t) (k v : Nat) : RecordsOnly s (t.setObj k v) := by
  obtain ⟨_, _, rfl⟩ := h
  exact ⟨_, _, rfl⟩

theorem patchDom (h : RecordsOnly s t) (k pos : Nat) (d : List Byte) : RecordsOnly s (t.patchDom k pos d) := by
  obtain ⟨_, _, rfl⟩ := h
  exact ⟨_, _, rfl⟩

theorem plog (h : RecordsOnly s t) (e : Ent) (src kind m1 m2 : Nat) : RecordsOnly s (t.plog e src kind m1 m2) :=
  ite (h.setObj _ _) ((h.patchDom _ _ _).setObj _ _)

end State.RecordsOnly

/-- The line of a burst with what the burst leaves in it. -/
def State.burstStored (s : State) (e : Ent) : State :=
  s.setDram e.ch e.line (writeBurst (s.dramLine e.ch e.line) e.data e.mask e.poison (s.splitFor e) (s.flipFor e))

/-- Beyond its line, a burst is seen in the flip objects, the counters and the parity log. -/
theorem burst_recordsOnly (s : State) (e : Ent) : (s.burstStored e).RecordsOnly (s.burst e) := by
  have stored := State.RecordsOnly.refl (s.burstStored e)
  unfold State.burst
  refine .ite (.plog (.setObj ?_ _ _) ..) ?_
  all_goals exact .ite (((stored.setObj _ _).setObj _ _).setObj _ _) stored

/-- Settles O56: the burst is a store to its line and records that the store does not see (log entries 3 and 59: the lines that nothing has
written, and the canonical form of what is listed). -/
theorem burstWritesOneLine : Obligations.BurstWritesOneLine := by
  intro s e line
  obtain ⟨dict, doms, left⟩ := burst_recordsOnly s e
  rw [left]
  exact ⟨dramLine_setDram_self .., fun ch l low other => dramLine_setDram_ne s _ line low other, setDram_storeWf s _ line, rfl, rfl, rfl⟩

end Sys2Proof.Machine
end

section
/-! PROOFS. Write CRC, the boot fill and the background reads (R299, R300, R307, R310, R311): each operation in the case of its event. -/

namespace Sys2Proof.Machine

/-! Write CRC (R299, R300). -/

/-- A burst is retried: it waits for its next burst, and the reads in flight behind it are read again. -/
def State.retriesBurst (t : State) (e : Ent) : State :=
  let u := t.modEnt e.serial fun y => { y with stage := .retryQ, alerted := y.alerted + 1, failTs := some (y.failTs.getD t.ts) }
  { u with ents := u.ents.map fun y => y.markReread e }

/-- A burst is abandoned: it is logged and raised, and its enabled bytes are open. -/
def State.abandonsBurst (s : State) (ch : Nat) (e : Ent) : State :=
  let t := (((s.bump (Obj.wcrcFailed ch)).plog e plogWrite 4 e.mask 3).raiseParity ch 2).dropEnt e.serial
  let free := openLine (mapGet (fun _ => 0) t.lost ch + 2 ^ 32 + e.serial) (dramKey ch e.line)
  t.setDram ch e.line (writeBurst (t.dramLine ch e.line) free.1 e.mask 0 (some free.2) none)

/-- An alert acts on each burst whose window is open, by the number of its bursts so far. -/
theorem crcAlert_eq (s : State) (ch sub : Nat) :
    s.crcAlert ch sub = s.each (s.openWindows ch sub) fun e t => if 3 ≤ e.attempts then t.abandonsBurst ch e else t.retriesBurst e := rfl

/-- What two updates do alike to each of a group, they do alike to the group. -/
theorem each_congr {α : Type} {f g : α → State → State} {l : List α} (alike : ∀ x ∈ l, ∀ t, f x t = g x t) (s : State) :
    s.each l f = s.each l g :=
  List.foldl_ext _ _ s fun t x mem => alike x mem t

section
variable {s : State} {ch sub : Nat}

theorem crcAlert_of_retries (early : ∀ e ∈ s.openWindows ch sub, e.attempts < 3) :
    s.crcAlert ch sub = s.each (s.openWindows ch sub) fun e t => t.retriesBurst e :=
  (crcAlert_eq s ch sub).trans (each_congr (fun e mem _ => if_neg (Nat.not_le.2 (early e mem))) s)

theorem crcAlert_of_last {e : Ent} (only : s.openWindows ch sub = [e]) (last : 3 ≤ e.attempts) : s.crcAlert ch sub = s.abandonsBurst ch e := by
  rw [crcAlert_eq, only]
  exact if_pos last

/-- A burst whose window has passed leaves the retry buffer, and is logged if it was retried (R316). -/
theorem windowEnds_of_first {e : Ent} (first : s.firstWindow ch sub = some e) :
    s.windowEnds ch sub =
      (if 1 < e.attempts then (s.advanceCyc (e.windowEnd + 1)).plog e plogWrite 3 e.mask e.attempts
        else s.advanceCyc (e.windowEnd + 1)).dropEnt e.serial := by
  simp only [State.windowEnds, first]

/-! The boot fill (R307). -/

theorem fillEnds_of_running (filling : s.obj (Obj.fillState ch) = 1) (runs : s.chanRuns ch = true) (trained : (s.chan ch).train = none)
    (resumed : (s.chan ch).resuming = false) : s.fillEnds ch = ((s.fillRest ch).setObj (Obj.fillState ch) 2).releaseChan ch := by
  simp [State.fillEnds, filling, runs, trained, resumed]

/-! The background reads (R310, R311). -/

/-- The next background read is entered at its time, unless its line is fenced, and the position moves on. -/
def State.scrubsLine (t : State) (ch l : Nat) : State :=
  let b := t.encodeAddr ch (64 * l)
  let t := if t.fenced b then t
    else t.enter { serial := 0, rq := rqFs, kind := .read, tag := 1, addr := b, lines := 1, ctx := ch }
  let t := t.setObj (Obj.scrubPosition ch) (l + 1)
  if t.lineCount ch ≤ l + 1 then t.scrubPassEnds ch else t

theorem scrubRead_of_enabled (enabled : s.obj (Obj.scrubEnable ch) = 1) (released : s.released ch = true) (runs : s.chanRuns ch = true) :
    s.scrubRead ch = (s.advanceTo (s.scrubDue ch (s.obj (Obj.scrubPosition ch)))).scrubsLine ch (s.obj (Obj.scrubPosition ch)) := by
  have acts : ¬((s.obj (Obj.scrubEnable ch) != 1 || !s.released ch || !s.chanRuns ch) = true) := by simp [enabled, released, runs]
  exact if_neg acts

theorem scrubBehind_of_enabled (enabled : s.obj (Obj.scrubEnable ch) = 1) (released : s.released ch = true) :
    s.scrubBehind ch =
      (s.advanceTo ((s.chan ch).scrubSince + s.act (Obj.scrubPeriod ch) * 1000 * msTicks)).setBit (Obj.scrubStatus ch) 1 true := by
  have acts : ¬((s.obj (Obj.scrubEnable ch) != 1 || !s.released ch) = true) := by simp [enabled, released]
  exact if_neg acts

end

/-- Settles O20: each event's operation in its own case (log entry 41 for the bytes of an abandoned line, 56 for what a fill keeps, 57 for the pace of
the scrubber and the lines it skips, 6 for the time of an event). -/
theorem storeCareEventsComplete : Obligations.StoreCareEventsComplete := by
  rintro s a ch sub rfl clocked
  refine ⟨?retries, ?abandons, ?window, ?fill, ?scrub, ?behind⟩
  case retries =>
    intro early
    exact runClocked_next clocked (crcAlert_of_retries early)
  case abandons =>
    intro e only last
    exact runClocked_next clocked (crcAlert_of_last only last)
  case window =>
    intro e first
    exact runClocked_next clocked (windowEnds_of_first first)
  case fill =>
    intro filling runs trained resumed
    exact runClocked_next clocked (fillEnds_of_running filling runs trained resumed)
  case scrub =>
    rintro l t opened enabled released runs rfl rfl
    exact runClocked_next clocked ((if_neg (Bool.eq_false_iff.1 opened)).trans (scrubRead_of_enabled enabled released runs))
  case behind =>
    intro enabled released
    exact runClocked_next clocked (scrubBehind_of_enabled enabled released)

end Sys2Proof.Machine
end

section
/-! PROOFS. The sequencer of a probe channel (R333 to R343): the start of a burst, what each instruction does when the sequencer takes it, and an empty
queue at the time of the next one. -/

namespace Sys2Proof.Machine

/-- A command of a probe channel ends with its effect, on the part that has them. -/
theorem runProbe_next {s e : State} {f : State → State} (awake : s.fresh.awake = true) (part : s.fresh.part = .ft4216) (effect : f s.fresh = e) :
    runProbe s f = .next (s.ends e) := runAwake_next awake ((if_pos part).trans effect)

section
variable {s t : State} {n w ck : Nat}

/-! Bursts (R333). -/

/-- The shadows that wait for a burst act before it runs (R333). -/
theorem burstStart_of_ready (ready : s.burstReady n = true) (acts : t = s.dropShadows fun h => h.bound == .burst && probeKey n h.key) :
    s.burstStart n =
      let t := ((t.setObj (Obj.pbState n) pbRunning).setBit (Obj.seqStatus n) 0 true).bump (Obj.bursts n)
      let t := if t.offsetsFit true n then t else t.bump (Obj.edgeClamps n)
      t.modPb n fun x => { x with last := (t.cyc + pbPipe) * t.pbMult n - 1, late := false, calJust := false } := by
  subst acts
  simp only [State.burstStart, ready, if_true, State.when, Bool.not_eq_true', ← Bool.not_eq_true, ite_not]

/-! The instruction at the head of the queue (R334, R340). -/

/-- What the instruction at the head does, by its kind. -/
def State.seqPerforms (s : State) (n w : Nat) (dataReady : Bool) (mrr : List Byte) : SeqOp → State
  | .malformed => s.seqMalformed n
  | .command => s.seqCommand n w dataReady mrr
  | .wait => s.seqWait n w
  | .fin => s.seqEnd n w
  | op => s.seqControl n w op

/-- A command of the sequencer performs the instruction at the head, when that is of the kind it asks for or malformed. -/
theorem sequence_of_head {o op : SeqOp} (dataReady : Bool) (mrr : List Byte) (head : s.seqHead n = some (o, w)) (asked : o = op ∨ o = .malformed) :
    s.sequence n op dataReady mrr = s.seqPerforms n w dataReady mrr o := by
  unfold State.sequence
  rw [head]
  rcases asked with rfl | rfl
  · cases o <;> rfl
  · rfl

/-! What each kind does, once the sequencer has taken it at the CK `ck` (R334, R337, R340, R343). -/

theorem seqMalformed_of_take (take : s.seqTake n 0 = (t, ck)) :
    s.seqMalformed n = (((t.modPb n fun x => { x with queue := [] }).bump (Obj.malformed n)).setBit (Obj.seqStatus n) 3 true).burstEnds n ck := by
  simp only [State.seqMalformed, take]

theorem seqWait_of_take (take : s.seqTake n 0 = (t, ck)) : s.seqWait n w = t.setLast n (ck + fld 0 32 w - 1) := by
  simp only [State.seqWait, take]

theorem seqEnd_of_take (take : s.seqTake n (fld 40 8 w) = (t, ck)) : s.seqEnd n w = (t.setLast n ck).burstEnds n ck := by
  simp only [State.seqEnd, take]

/-- What a CONTROL instruction but END does at its CK. -/
def State.controls (s : State) (n ck w : Nat) : SeqOp → State
  | .resetAssert => s.modPb n fun x => { x with resetN := some false }
  | .resetRelease => s.modPb n fun x => { x with resetN := some true }
  | .mark => (s.patchDom (Obj.markLog n) (16 * (s.obj (Obj.marksWritten n) % 16))
      (leBytes 8 (s.tsAt (s.ckTime n ck)) ++ leBytes 4 (fld 0 32 w) ++ leBytes 4 (s.obj (Obj.bursts n)))).wrapBump (Obj.marksWritten n)
  | .ckStop => s.setBit (Obj.seqStatus n) 1 true
  | .ckStart => s.setBit (Obj.seqStatus n) 1 false
  | _ => s

theorem seqControl_of_take (op : SeqOp) (take : s.seqTake n (fld 40 8 w) = (t, ck)) :
    s.seqControl n w op = (t.setLast n ck).controls n ck w op := by
  unfold State.seqControl
  rw [take]
  cases op <;> rfl

section
variable {u : State} {cmds : List GuardCmd} (dataReady : Bool) (mrr : List Byte) (take : s.seqTake n (fld 40 8 w) = (t, ck))
  (named : cmds = (t.sitesOf n (fld 48 8 w)).map fun i => guardCmd (caClass (fld 0 14 w) (bitOf (t.pb n).lowPower i)) i (fld 0 14 w) ck)
include take named

/-- A COMMAND that the guard lets pass, or holds to the CK `k`, drives CA and CS_n (R334, R343). -/
theorem seqCommand_of_issue {k : Nat} (decided : t.guard n cmds ck (bitOf w 58) = (u, some k)) :
    s.seqCommand n w dataReady mrr = ((((u.remember n cmds k).setLast n (k + fld 61 1 w)).bump (Obj.commands n)).modPb n fun x =>
      { x with driven := some (fld 0 14 w, fld 14 14 w, fld 48 8 w) }).dataBurst n w k false dataReady mrr := by
  subst named
  simp only [State.seqCommand, take, decided]

/-- A COMMAND that the guard blocks leaves deselects in its place (R343). -/
theorem seqCommand_of_block (decided : t.guard n cmds ck (bitOf w 58) = (u, none)) :
    s.seqCommand n w dataReady mrr = (u.setLast n (ck + fld 61 1 w)).dataBurst n w ck true dataReady mrr := by
  subst named
  simp only [State.seqCommand, take, decided]

end

/-! An empty queue (R339). -/

theorem countUnderrun_of_timely (timely : (s.pb n).late = false) :
    s.countUnderrun n = ((s.modPb n fun x => { x with late := true }).bump (Obj.underruns n)).setBit (Obj.seqStatus n) 2 true :=
  if_neg (Bool.eq_false_iff.1 timely)

theorem underrun_of_empty (running : s.pbIs n pbRunning = true) (plain : (s.pb n).cal = none) (free : (s.pb n).mr = none)
    (empty : (s.pb n).queue = []) :
    s.underrun n = (s.advanceCyc (((s.pb n).last + 1) / s.pbMult n - pbPipe + 1)).countUnderrun n := if_pos ⟨running, plain, free, empty⟩

end

/-- A command of the sequencer ends with what the instruction at the head does, when that is of the kind it asks for or malformed. -/
theorem runSequence_next {s e : State} {n : Fin 2} {w : Nat} {o op : SeqOp} {dataReady : Bool} {mrr : List Byte} (awake : s.fresh.awake = true)
    (part : s.fresh.part = .ft4216) (head : s.fresh.seqHead n = some (o, w)) (asked : o = op ∨ o = .malformed)
    (effect : s.fresh.seqPerforms n w dataReady mrr o = e) :
    runProbe s (fun t => t.sequence n op dataReady mrr) = .next (s.ends e) :=
  runProbe_next awake part ((sequence_of_head dataReady mrr head asked).trans effect)

/-- Settles O51: the kind that the command asks for makes no difference (R340; log entry 61 for the CK at which the sequencer takes it, 6 for the time of
the END). -/
theorem malformedInstructionsEnd : Obligations.MalformedInstructionsEnd := by
  rintro s a n w t ck c dataReady mrr rfl awake part head take asked
  have ends (op : SeqOp) (ready : Bool) (answers : List Byte) :=
    runSequence_next (op := op) (dataReady := ready) (mrr := answers) awake part head (.inr rfl) (seqMalformed_of_take take)
  simp only [List.mem_cons, List.not_mem_nil, or_false] at asked
  rcases asked with rfl | rfl | rfl | rfl | rfl | rfl | rfl | rfl
  · exact ends .command dataReady mrr
  · exact ends .wait true []
  · exact ends .resetAssert true []
  · exact ends .resetRelease true []
  · exact ends .mark true []
  · exact ends .fin true []
  · exact ends .ckStop true []
  · exact ends .ckStart true []

/-- Settles O21: each instruction is performed by its own rule at the CK that the sequencer takes it for (log entry 61 for when it takes
effect, 60 for the class that the guard gives a command, 62 for an underrun of an empty queue, 6 for the time of an event). -/
theorem sequencerInstructionsComplete : Obligations.SequencerInstructionsComplete := by
  rintro s a n rfl awake part
  refine ⟨?start, ?issued, ?blocked, ?wait, ?resetAssert, ?resetRelease, ?mark, ?fin, ?ckStop, ?ckStart, ?underrun⟩
  case start =>
    intro t ready acts
    exact runProbe_next awake part (burstStart_of_ready ready acts)
  case issued =>
    intro dataReady mrr w t ck cmds u k head take named decided
    exact runSequence_next awake part head (.inl rfl) (seqCommand_of_issue dataReady mrr take named decided)
  case blocked =>
    intro dataReady mrr w t ck cmds u head take named decided
    exact runSequence_next awake part head (.inl rfl) (seqCommand_of_block dataReady mrr take named decided)
  case wait =>
    intro w t ck head take
    exact runSequence_next awake part head (.inl rfl) (seqWait_of_take take)
  case resetAssert =>
    intro w t ck head take
    exact runSequence_next awake part head (.inl rfl) (seqControl_of_take .resetAssert take)
  case resetRelease =>
    intro w t ck head take
    exact runSequence_next awake part head (.inl rfl) (seqControl_of_take .resetRelease take)
  case mark =>
    rintro w t ck u head take rfl
    exact runSequence_next awake part head (.inl rfl) (seqControl_of_take .mark take)
  case fin =>
    intro w t ck head take
    exact runSequence_next awake part head (.inl rfl) (seqEnd_of_take take)
  case ckStop =>
    intro w t ck head take
    exact runSequence_next awake part head (.inl rfl) (seqControl_of_take .ckStop take)
  case ckStart =>
    intro w t ck head take
    exact runSequence_next awake part head (.inl rfl) (seqControl_of_take .ckStart take)
  case underrun =>
    rintro t running plain free empty rfl timely
    exact runProbe_next awake part ((underrun_of_empty running plain free empty).trans (countUnderrun_of_timely timely))

end Sys2Proof.Machine
end

section
/-! PROOFS. The DUT supplies (R344 to R356, R544, R624): their ramps, samples and faults, the clamps and alerts, and the two commands that complete. -/

namespace Sys2Proof.Machine

section
variable {s : State} {n : Nat}

/-! Ramps (R346, R347, R351). -/

/-- The second stage of a ramp UP is reached at the time of its next stage, its end at the one behind it (R346). -/
theorem dutGood_of_up {t u : State} (up : s.powerIs n psUp = true) (gate : t = (s.advanceTo (s.rampNext n)).rampStage n)
    (reached : u = (t.advanceTo (t.rampNext n)).rampStage n) :
    s.dutGood n = (u.setObj (Obj.powerState n) (if u.obj Obj.runPhase == 1 then psHeld else psGood)).cmdDone (Obj.dutPower n) := by
  subst gate reached
  exact if_pos up

theorem dutDischarged_of_down {t : State} (us : Nat) (down : s.powerIs n psDown = true) (stage : t = (s.advanceTo (s.rampNext n)).rampStage n) :
    s.dutDischarged n us = (t.advanceTo (t.rampNext n)).dutOff n := by
  subst stage
  exact if_pos down

theorem dutDischarged_of_discharge (us : Nat) (discharging : s.powerIs n psDischarge = true) :
    s.dutDischarged n us = (s.advanceTo (((s.pb n).supply 0).t0 + min us 2000 * usTicks)).dutOff n := by
  have notDown : ¬s.powerIs n psDown = true := by
    have state : s.obj (Obj.powerState n) = psDischarge := eq_of_beq discharging
    simp [State.powerIs, state, psDischarge, psDown]
  exact (if_neg notDown).trans (if_pos discharging)

/-! Samples (R350). -/

theorem obj_when (b : Bool) (f : State → State) (j : Nat) : (s.when b f).obj j = if b then (f s).obj j else s.obj j :=
  apply_ite (State.obj · j) _ _ _

/-- The end of a cause shows in LIVE alone (R544). -/
theorem obj_endCause_of_ne_live {j : Nat} (line bit : Nat) (other : j ≠ Obj.live) : (s.endCause line bit).obj j = s.obj j := by
  unfold State.endCause
  dsimp only
  split
  · exact (obj_setBit ..).trans (if_neg other)
  · rfl

/-- What a sample may change besides the three readings of its supply: LIVE, the trackers and the count of pinned corrections. -/
def supplyTrackers (n k : Nat) : List Nat := [Obj.live, Obj.sensePinnedCount n k, Obj.vMin n k, Obj.vMax n k, Obj.iMax n k]

theorem readings_not_trackers (n k : Nat) :
    Obj.measV n k ∉ supplyTrackers n k ∧ Obj.measI n k ∉ supplyTrackers n k ∧ Obj.senseCorr n k ∉ supplyTrackers n k := by
  simp only [supplyTrackers, List.mem_cons, List.not_mem_nil, or_false, not_or]
  unfold Obj.measV Obj.measI Obj.senseCorr Obj.live Obj.sensePinnedCount Obj.vMin Obj.vMax Obj.iMax
  omega

theorem readings_distinct (n k : Nat) :
    Obj.measV n k ≠ Obj.senseCorr n k ∧ Obj.measV n k ≠ Obj.measI n k ∧ Obj.measI n k ≠ Obj.senseCorr n k := by
  unfold Obj.measV Obj.measI Obj.senseCorr
  omega

/-- A sample shows the three readings of its supply, and changes nothing else but what tracks them. -/
theorem obj_supplySample {k j : Nat} (v l i : Nat) (untracked : j ∉ supplyTrackers n k) :
    (s.supplySample n k v l i).obj j =
      if j = Obj.senseCorr n k then if ((s.pb n).supply k).onLocal then 0 else ofInt 16 (min ((l : Int) - v) (s.obj (Obj.senseMaxCorr n k)))
      else if j = Obj.measI n k then mean (pushSample (s.obj (Obj.measAvg n k)) i ((s.pb n).supply k).amps)
      else if j = Obj.measV n k then mean (pushSample (s.obj (Obj.measAvg n k)) v ((s.pb n).supply k).volts)
      else s.obj j := by
  simp only [supplyTrackers, List.mem_cons, List.not_mem_nil, or_false, not_or] at untracked
  obtain ⟨notLive, notPinned, notVMin, notVMax, notIMax⟩ := untracked
  simp only [State.supplySample, obj_when, obj_endCause_of_ne_live _ _ notLive, ite_self, obj_bump, if_neg notPinned,
    apply_ite (State.obj · j), obj_setObj, obj_modObj, obj_track, if_neg notVMin, if_neg notVMax, if_neg notIMax, State.modSupply, obj_modPb,
    obj_advanceTo]

/-! Faults and clamps (R355, R356). -/

theorem supplyFault_of_due {k kind : Nat} {hard : Bool} (part : s.part = .ft4216) (supply : k < 3) (condition : kind < 4)
    (on : s.supplyOn n = true) (due : s.supplyFaultDue n k kind hard = true) (unseen : bitOf (s.causesOf (supplyLine n)) (4 * k + kind) = false) :
    s.supplyFault n k kind hard =
      if kind = 3 then ((s.supplyFaultAt n (4 * k + kind)).modSupply n k fun x => { x with onLocal := true, pinned := false }).setObj
        (Obj.senseCorr n k) 0
      else (s.supplyFaultAt n (4 * k + kind)).curl n 3 true :=
  if_pos ⟨part, supply, condition, on, due, Bool.eq_false_iff.1 unseen⟩

theorem clampEvent_of_part (part : s.part = .ft4216) :
    s.clampEvent n = (s.bump (Obj.clampEvents n)).beginCause (16 + 4 * n) 0 (sourceWord n 0xFF) := if_pos part

theorem probeAlert_of_part (site : Nat) (part : s.part = .ft4216) :
    s.probeAlert n site = (s.setBit (Obj.alertStatus n) site true).bump (Obj.alertCount n) := if_pos part

/-! Mode registers (R344). -/

theorem mrDone_of_running {v ns : Nat} {t : State} (answers : List Byte) (running : (s.pb n).mr = some v)
    (time : t = s.advanceTo ((s.pb n).calStart + min ns 2000 * 36 / 5)) :
    s.mrDone n answers ns =
      let t := if v = 2 then t.mrrResult n (t.obj (Obj.mrSites n)) answers else t
      ((t.modPb n fun x => { x with mr := none }).setObj (Obj.pbState n) pbIdle).cmdDone (Obj.mrCmd n) := by
  subst time
  simp only [State.mrDone, running]

end

/-- Settles O22: each event's operation in its own case (log entry 70 for the conditions of a supply as causes of its line, 129 for the bound of the
time that an operand brings, 6 for the time of an event). -/
theorem supplyEventsComplete : Obligations.SupplyEventsComplete := by
  rintro s a n rfl awake part
  refine ⟨?good, ?down, ?discharge, ?sample, ?fault, ?clamp, ?clampEnd, ?alert, ?modeRegister⟩
  case good =>
    intro t u up gate reached
    exact runProbe_next awake part (dutGood_of_up up gate reached)
  case down =>
    intro us t down stage
    exact runProbe_next awake part (dutDischarged_of_down us down stage)
  case discharge =>
    intro us discharging
    exact runProbe_next awake part (dutDischarged_of_discharge us discharging)
  case sample =>
    intro k v l i
    obtain ⟨volts, amps, correction⟩ := readings_not_trackers n k
    obtain ⟨voltsNotCorrection, voltsNotAmps, ampsNotCorrection⟩ := readings_distinct n k
    refine ⟨_, runProbe_next awake part rfl, ?volts, ?amps, ?correction⟩
    case volts => exact (obj_supplySample v l i volts).trans ((if_neg voltsNotCorrection).trans ((if_neg voltsNotAmps).trans (if_pos rfl)))
    case amps => exact (obj_supplySample v l i amps).trans ((if_neg ampsNotCorrection).trans (if_pos rfl))
    case correction => exact (obj_supplySample v l i correction).trans (if_pos rfl)
  case fault =>
    intro k kind hard on due unseen
    exact runProbe_next awake part (supplyFault_of_due part k.isLt kind.isLt on due unseen)
  case clamp => exact runProbe_next awake part (clampEvent_of_part part)
  case clampEnd => exact runProbe_next awake part rfl
  case alert =>
    intro site
    exact runProbe_next awake part (probeAlert_of_part site part)
  case modeRegister =>
    intro answers ns v t running time
    exact runProbe_next awake part (mrDone_of_running answers running time)

/-! DUT_POWER UP (R346, R624). -/

theorem blockWrite_dutPower_up (t : State) (p : Path) (n : Fin 2) (old : Nat) (d : List Byte) :
    t.blockWrite p (Obj.dutPower n) 1 old d = t.dutUp n := by
  fin_cases n <;> rfl

/-- The port takes UP, and the ramp begins (R346). -/
theorem write_dutPower_up {s : State} {p : Path} {n : Fin 2} {x r : Row} {v : Nat} (row : rowOf (Obj.dutPower n) = some x)
    (takes : s.Takes (wrOf p (Obj.dutPower n) x.ty.size 1) r v) :
    s.write p (Obj.dutPower n) 1 = s.accepting (wrOf p (Obj.dutPower n) x.ty.size 1) r v fun _ u => u.dutUp n := by
  have key := wrOf_key p (Obj.dutPower n) x.ty.size 1
  obtain ⟨-, -, -, -, -, most, -, -⟩ := objMax_ofProbe n
  obtain rfl : r = x := Option.some.inj ((row_of_found takes.found).symm.trans ((congrArg rowOf key).trans row))
  obtain rfl : 1 = v := (wrValue_wrOf row (by omega)).symm.trans takes.value
  refine (write_takes row takes).trans (accept_eq _ _ _ _ _ fun t old => ?_)
  rw [key]
  exact blockWrite_dutPower_up t p n old _

/-- Settles O23 (log entry 123 for the operand that says which phases pass). -/
theorem dutPowerUpCompletes : Obligations.DutPowerUpCompletes := by
  rintro s a t p n pass x r w v rfl row rfl takes off rfl
  refine run_next ?_
  simp only [write_dutPower_up row takes, off, Bool.true_and]

end Sys2Proof.Machine
end

section
/-! PROOFS. The bit instructions of the tiles (R402), bit by bit. -/

namespace Sys2Proof.Machine

/-! Sums of powers of two. -/

theorem sum_bits_eq_foldl (f : Nat → Bool) (n : Nat) :
    ((List.range n).map fun k => b2n (f k) * 2 ^ k).sum = (List.range n).foldl (fun a k => a + b2n (f k) * 2 ^ k) 0 := by
  rw [List.sum_eq_foldl, List.foldl_map]

/-- A word put together bit by bit has those bits. -/
theorem getLsbD_sum_bits (f : Nat → Bool) {n i : Nat} (below : i < 32) :
    (BitVec.ofNat 32 ((List.range n).map fun k => b2n (f k) * 2 ^ k).sum).getLsbD i = (decide (i < n) && f i) := by
  rw [sum_bits_eq_foldl, BitVec.getLsbD_ofNat, decide_eq_true below, Bool.true_and]
  by_cases inside : i < n
  · rw [testBit_foldl_bits f inside, decide_eq_true inside, Bool.true_and]
  · rw [Nat.testBit_lt_two_pow (Nat.lt_of_lt_of_le (foldl_bits_lt f n) (Nat.pow_le_pow_right (by decide) (Nat.le_of_not_lt inside))),
      decide_eq_false inside, Bool.false_and]

/-- The same sum with its terms in the opposite order. -/
theorem sum_map_range_reverse (f : Nat → Nat) (n : Nat) : ((List.range n).map f).sum = ((List.range n).map fun k => f (n - 1 - k)).sum :=
  (Finset.sum_range_reflect f n).symm

/-! The ones of a mask: which of them a place is, and where the n-th of them lies. -/

variable (p : Nat → Bool)

/-- The chosen indices with their numbers, as a list over all indices. -/
theorem sum_zipIdx_filter (f : Nat → Nat → Nat) (n : Nat) :
    ((((List.range n).filter p).zipIdx.map fun x => f x.1 x.2).sum) =
      ((List.range n).map fun i => if p i then f i ((List.range i).countP p) else 0).sum := by
  induction n with
  | zero => rfl
  | succ n ih =>
    cases chosen : p n <;>
      simp [List.range_succ, chosen, List.zipIdx_append, ih, List.countP_eq_length_filter]

/-- The k-th chosen index is the one with k chosen indices below it. -/
theorem getElem?_filter_range (n k : Nat) :
    ((List.range n).filter p)[k]? = (List.range n).find? fun i => p i && (List.range i).countP p == k := by
  induction n with
  | zero => rfl
  | succ n ih =>
    rw [List.range_succ, List.filter_append, List.find?_append, ← ih]
    by_cases inside : k < ((List.range n).filter p).length
    · rw [List.getElem?_append_left inside, List.getElem?_eq_getElem inside, Option.some_or]
    · rw [List.getElem?_append_right (Nat.le_of_not_lt inside), List.getElem?_eq_none (Nat.le_of_not_lt inside), Option.none_or]
      have count : (List.range n).countP p = ((List.range n).filter p).length := List.countP_eq_length_filter
      cases chosen : p n
      · simp [chosen]
      · have here : k - ((List.range n).filter p).length = 0 ↔ ((List.range n).filter p).length = k := by omega
        simp [chosen, count, List.getElem?_singleton, List.find?_singleton, here]

theorem getElem?_filter_range_countP {n i : Nat} (below : i < n) (chosen : p i = true) :
    ((List.range n).filter p)[(List.range i).countP p]? = some i := by
  induction n with
  | zero => omega
  | succ n ih =>
    rw [List.range_succ, List.filter_append]
    by_cases last : i = n
    · subst last
      rw [List.getElem?_append_right (by rw [List.countP_eq_length_filter])]
      simp [chosen, List.countP_eq_length_filter]
    · have found := ih (by omega)
      exact (List.getElem?_append_left (List.getElem?_eq_some_iff.1 found).1).trans found


/-! PEXT and PDEP. -/

/-- Bit n of PEXT is a's bit at the n-th one of b. -/
theorem getLsbD_pext (a b : Word) {n : Nat} (below : n < 32) :
    (pext a b).getLsbD n = (((List.range 32).filter fun i => b.getLsbD i)[n]?.any fun i => a.getLsbD i) := by
  have packed : (((List.range 32).filter fun i => b.getLsbD i).zipIdx.map fun x => b2n (a.getLsbD x.1) * 2 ^ x.2) =
      (List.range ((List.range 32).filter fun i => b.getLsbD i).length).map fun j =>
        b2n (((List.range 32).filter fun i => b.getLsbD i)[j]?.any fun i => a.getLsbD i) * 2 ^ j :=
    List.ext_getElem (by simp) fun j _ inside => by
      rw [List.length_map, List.length_range] at inside
      simp [List.getElem?_eq_getElem inside]
  refine (congrArg (fun l => (BitVec.ofNat 32 (List.sum l)).getLsbD n) packed).trans ?_
  rw [getLsbD_sum_bits (fun j => ((List.range 32).filter fun i => b.getLsbD i)[j]?.any fun i => a.getLsbD i) below]
  by_cases inside : n < ((List.range 32).filter fun i => b.getLsbD i).length
  · rw [decide_eq_true inside, Bool.true_and]
  · rw [decide_eq_false inside, List.getElem?_eq_none (Nat.le_of_not_lt inside), Bool.false_and, Option.any_none]

/-- Bit i of PDEP is, at a one of b, a's bit with the number of that one. -/
theorem getLsbD_pdep (a b : Word) {i : Nat} (below : i < 32) :
    (pdep a b).getLsbD i = (b.getLsbD i && a.getLsbD ((List.range i).countP fun j => b.getLsbD j)) := by
  have placed (k : Nat) : (if b.getLsbD k then b2n (a.getLsbD ((List.range k).countP fun j => b.getLsbD j)) * 2 ^ k else 0) =
      b2n (b.getLsbD k && a.getLsbD ((List.range k).countP fun j => b.getLsbD j)) * 2 ^ k := by
    cases b.getLsbD k <;> simp [b2n]
  have spread := sum_zipIdx_filter (fun k => b.getLsbD k) (fun i j => b2n (a.getLsbD j) * 2 ^ i) 32
  simp only [placed] at spread
  refine (congrArg (fun m => (BitVec.ofNat 32 m).getLsbD i) spread).trans ?_
  rw [getLsbD_sum_bits (fun k => b.getLsbD k && a.getLsbD ((List.range k).countP fun j => b.getLsbD j)) below, decide_eq_true below, Bool.true_and]

/-- There are fewer ones below a place than places. -/
theorem countP_range_lt {i : Nat} (below : i < 32) : (List.range i).countP p < 32 := by
  have most := List.countP_le_length (p := p) (l := List.range i)
  rw [List.length_range] at most
  omega

/-- PDEP puts back what PEXT has packed. -/
theorem pdep_pext (a b : Word) : pdep (pext a b) b = a &&& b := by
  refine BitVec.eq_of_getLsbD_eq fun i below => ?_
  rw [getLsbD_pdep _ _ below, BitVec.getLsbD_and]
  cases chosen : b.getLsbD i
  · rw [Bool.false_and, Bool.and_false]
  · rw [getLsbD_pext _ _ (countP_range_lt _ below), getElem?_filter_range_countP (fun j => b.getLsbD j) below chosen, Option.any_some,
      Bool.true_and, Bool.and_true]

/-! POPC, BREV and CLZ. -/

theorem popCount_eq_countP (w v : Nat) : popCount w v = (List.range w).countP v.testBit := by
  induction w generalizing v with
  | zero => rfl
  | succ w ih =>
    have low : v % 2 = if v.testBit 0 then 1 else 0 := by
      rcases Nat.mod_two_eq_zero_or_one v with even | odd <;> simp [*]
    have high : v.testBit ∘ Nat.succ = (v / 2).testBit := funext fun i => Nat.testBit_succ v i
    rw [popCount, ih, low, List.range_succ_eq_map, List.countP_cons, List.countP_map, high, Nat.add_comm]

theorem toNat_popc (a : Word) : (popc a).toNat = (List.range 32).countP a.getLsbD := by
  have most : (List.range 32).countP a.getLsbD ≤ 32 := List.countP_le_length
  have count : popCount 32 a.toNat = (List.range 32).countP a.getLsbD := popCount_eq_countP 32 a.toNat
  rw [popc, BitVec.toNat_ofNat, count, Nat.mod_eq_of_lt (by omega)]

theorem getLsbD_brev (a : Word) {i : Nat} (below : i < 32) : (brev a).getLsbD i = a.getLsbD (31 - i) := by
  have mirrored : ((List.range 32).map fun i => b2n (a.getLsbD i) * 2 ^ (31 - i)).sum =
      ((List.range 32).map fun k => b2n (a.getLsbD (31 - k)) * 2 ^ k).sum := by
    rw [sum_map_range_reverse]
    refine congrArg List.sum (List.map_congr_left fun k mem => ?_)
    have inside := List.mem_range.1 mem
    rw [show 31 - (32 - 1 - k) = k by omega]
  rw [brev, mirrored, getLsbD_sum_bits (fun k => a.getLsbD (31 - k)) below, decide_eq_true below, Bool.true_and]

/-- CLZ is the place of the highest one, counted from the top, or 32. -/
theorem toNat_clz (a : Word) : (clz a).toNat = (List.range 32).reverse.findIdx a.getLsbD := by
  have most : (List.range 32).reverse.findIdx a.getLsbD ≤ 32 := (List.findIdx_le_length).trans_eq (by simp)
  rw [clz, BitVec.toNat_ofNat, List.takeWhile_eq_take_findIdx_not]
  simp only [Bool.not_not, List.length_take, List.length_reverse, List.length_range, Nat.min_eq_left most]
  exact Nat.mod_eq_of_lt (by omega)

theorem toNat_clz_eq_iff (a : Word) {n : Nat} (below : n < 32) :
    (clz a).toNat = n ↔ a.getLsbD (31 - n) = true ∧ ∀ j < n, a.getLsbD (31 - j) = false := by
  rw [toNat_clz, List.findIdx_eq (by simpa using below)]
  simp

theorem toNat_clz_eq_32_iff (a : Word) : (clz a).toNat = 32 ↔ a = 0 := by
  have all : (clz a).toNat = 32 ↔ ∀ i < 32, a.getLsbD i = false := by
    have none : (List.range 32).reverse.findIdx a.getLsbD = (List.range 32).reverse.length ↔ _ := List.findIdx_eq_length
    rw [List.length_reverse, List.length_range] at none
    simpa [toNat_clz] using none
  rw [all]
  refine ⟨fun zeros => BitVec.eq_of_getLsbD_eq fun i below => ?_, fun zero i _ => ?_⟩
  · rw [zeros i below]
    exact (BitVec.getLsbD_zero).symm
  · rw [zero]
    exact BitVec.getLsbD_zero

/-- Settles O31. -/
theorem bitInstructionsAgree : Obligations.BitInstructionsAgree := by
  intro a b
  refine ⟨pdep_pext a b, fun i below => getLsbD_pdep a b below, fun n below => ?pext, ?popc, fun i below => getLsbD_brev a below,
    fun n below => toNat_clz_eq_iff a below, toNat_clz_eq_32_iff a⟩
  case pext =>
    rw [getLsbD_pext a b below, getElem?_filter_range]
    split
    · next found => rw [found, Option.any_some]
    · next missing => rw [missing, Option.any_none]
  case popc =>
    exact (toNat_popc _).trans (List.countP_congr fun i _ => by rw [BitVec.getLsbD_and])

end Sys2Proof.Machine
end

section
/-! PROOFS. The instructions of the tiles (R398 to R403): what the issue of a legal word does, and that an instruction on registers changes one register
and the PC alone. -/

namespace Sys2Proof.Machine

section
variable {s : State} {t i c w : Nat}

/-! The issue of a legal word (R399 to R401). -/

/-- The clock and the turn of a tile bind no port. -/
theorem edgeFor_issued (s : State) (t c u j o : Nat) : (s.issued t c).edgeFor u j o = s.edgeFor u j o := by
  rw [State.issued, advanceCyc_eq]
  rfl

/-- A command that names the word a tile issues does what the word says, at the clock of issue. -/
theorem issue_of_issues {is : Nat → Bool} {act : State → Nat → Nat → State} (issues : s.Issues t i c w) (named : is (iOp w) = true) :
    s.issue t is false act = act (s.issued t c) i w := by
  obtain ⟨turn, fetched, legal, bound⟩ := issues
  subst fetched
  have allBound := bound
  simp only [← edgeFor_issued s t c] at allBound
  unfold State.issue
  rw [turn]
  dsimp only
  rw [if_pos named, if_neg Bool.false_ne_true, if_neg (Bool.eq_false_iff.1 legal)]
  split
  · next o found => exact absurd (found.symm.trans allBound) (Option.some_ne_none o)
  · rfl

theorem issue_opcode {op : Nat} {act : State → Nat → Nat → State} (issues : s.Issues t i c w) (named : iOp w = op) :
    s.issue t (fun o => o == op) false act = act (s.issued t c) i w := issue_of_issues issues (beq_iff_eq.2 named)

theorem issueAlu_of_issues {op : Nat} {f : Word → Word → Word} {s1 s2 : State} {x y : Val} (issues : s.Issues t i c w) (named : iOp w = op)
    (first : (s.issued t c).readOp t i (iA w) = (s1, x)) (second : s1.readOp t i (iB w) = (s2, y)) :
    s.issueAlu t op false f = (s.issued t c).finishWrite s2 t i (iD w) ⟨f x.v y.v, false, x.poison || y.poison⟩ := by
  rw [State.issueAlu, issue_opcode issues named]
  simp only [first, second]

theorem issueOne_of_issues {op : Nat} {f : Word → Nat → Word} {s1 : State} {x : Val} (issues : s.Issues t i c w) (named : iOp w = op)
    (read : (s.issued t c).readOp t i (iA w) = (s1, x)) :
    s.issueOne t op false f = (s.issued t c).finishWrite s1 t i (iD w) ⟨f x.v (iImm w), false, x.poison⟩ := by
  rw [State.issueOne, issue_opcode issues named]
  simp only [read]

theorem issueBranch_of_issues {op : Nat} {take : Word → Bool} {s1 : State} {x : Val} (issues : s.Issues t i c w) (named : iOp w = op)
    (read : (s.issued t c).readOp t i (iA w) = (s1, x)) (sound : x.poison = false) :
    s.issueBranch t op false take = if take x.v then s1.modCtx t i fun y => { y with pc := fld 0 6 w } else s1.pcNext t i := by
  rw [State.issueBranch, issue_opcode issues named]
  simp only [read, sound, Bool.false_eq_true, if_false]

theorem issueDbnz_of_issues {v : Word} {u : State} (issues : s.Issues t i c w) (named : iOp w = 0x33) (issued : u = s.issued t c)
    (sound : bitOf (u.ctx t i).poison (iD w) = false) (less : v = mapGet (fun _ => 0) (u.ctx t i).regs (iD w) - 1) :
    s.issueDbnz t false =
      let u1 := u.modCtx t i fun y => { y with regs := mapSet (fun _ => 0) y.regs (iD w) v }
      if v ≠ 0 then u1.modCtx t i fun y => { y with pc := fld 0 6 w } else u1.pcNext t i := by
  subst issued less
  rw [State.issueDbnz, issue_opcode issues named]
  exact if_neg (Bool.eq_false_iff.1 sound)

theorem issueSendf_of_issues {s1 : State} {x : Val} (issues : s.Issues t i c w) (named : iOp w = 0x37)
    (read : (s.issued t c).readOp t i (iA w) = (s1, x)) :
    s.issueSendf t false = (s.issued t c).finishWrite s1 t i (iD w) ⟨x.v, bitOf w 0, x.poison || bitOf w 1⟩ := by
  rw [State.issueSendf, issue_opcode issues named]
  simp only [read]

theorem issueSetrtr_of_issues {s1 : State} {x : Val} (issues : s.Issues t i c w) (named : iOp w = 0x3A)
    (read : (s.issued t c).readOp t i (iA w) = (s1, x)) (sound : x.poison = false) :
    s.issueSetrtr t false = (s1.modCtx t i fun y => { y with routes := y.routes.set (iD w - 20) (x.v.toNat % 65536) }).pcNext t i := by
  rw [State.issueSetrtr, issue_opcode issues named]
  simp only [read, sound, Bool.false_eq_true, if_false]

end

/-! The commands of the instructions with a result (R402). -/

theorem boolWord_decide (p : Prop) [Decidable p] : boolWord (decide p) = if p then 1 else 0 := by
  unfold boolWord
  simp only [decide_eq_true_eq]

theorem exec_binary {q : Instr} {t : Fin 256} {parity : Bool} {op : Nat} {f : Word → Word → Word} (names : q.binary = some (t, parity, op, f))
    (s : State) : exec q s = runClocked s fun a => a.issueAlu t op parity f := by
  have sltu : (fun x y : Word => boolWord (decide (x.toNat < y.toNat))) = fun x y => if x.toNat < y.toNat then 1 else 0 :=
    funext₂ fun x y => boolWord_decide _
  have seq : (fun x y : Word => boolWord (x == y)) = fun x y => if x = y then 1 else 0 :=
    funext₂ fun x y => boolWord_decide _
  unfold Instr.binary at names
  split at names <;> cases names
  case h_14 => rw [← sltu]; rfl
  case h_15 => rw [← seq]; rfl
  all_goals rfl

theorem exec_unary {q : Instr} {t : Fin 256} {parity : Bool} {op : Nat} {f : Word → Nat → Word} (names : q.unary = some (t, parity, op, f))
    (s : State) : exec q s = runClocked s fun a => a.issueOne t op parity f := by
  have sltui : (fun (x : Word) imm => boolWord (decide (x.toNat < imm))) = fun x imm => if x.toNat < imm then 1 else 0 :=
    funext₂ fun x imm => boolWord_decide _
  unfold Instr.unary at names
  split at names <;> cases names
  case h_10 => rw [← sltui]; rfl
  all_goals rfl

/-- Settles O25. -/
theorem twoOperandInstructions : Obligations.TwoOperandInstructions := by
  rintro q t op f s a i clk w s1 s2 x y names rfl clocked issues named first second
  rw [exec_binary names]
  exact runClocked_next clocked (issueAlu_of_issues issues named first second)

/-- Settles O26. -/
theorem oneOperandInstructions : Obligations.OneOperandInstructions := by
  rintro q t op f s a i clk w s1 x names rfl clocked issues named read
  rw [exec_unary names]
  exact runClocked_next clocked (issueOne_of_issues issues named read)

/-- Settles O28 (log entry 73 for HALT, which keeps the PC). -/
theorem otherInstructionsComplete : Obligations.OtherInstructionsComplete := by
  rintro s a u t i clk w rfl clocked issues rfl
  refine ⟨?nop, ?lui, ?rflg, ?beqz, ?bnez, ?jmp, ?dbnz, ?waitc, ?halt, ?trap, ?sendf, ?setrt, ?setrtr⟩
  case nop =>
    intro op
    exact runClocked_next clocked (issue_opcode issues op)
  case lui =>
    intro op
    exact runClocked_next clocked (issue_opcode issues op)
  case rflg =>
    intro op
    exact runClocked_next clocked (issue_opcode issues op)
  case beqz =>
    intro u1 x op read sound
    refine runClocked_next clocked ((issueBranch_of_issues issues op read sound).trans ?_)
    simp only [beq_iff_eq]
  case bnez =>
    intro u1 x op read sound
    refine runClocked_next clocked ((issueBranch_of_issues issues op read sound).trans ?_)
    simp only [bne_iff_ne]
  case jmp =>
    intro op
    exact runClocked_next clocked (issue_opcode issues op)
  case dbnz =>
    rintro v u1 op sound less rfl
    exact runClocked_next clocked (issueDbnz_of_issues issues op rfl sound less)
  case waitc =>
    intro op
    exact runClocked_next clocked (issue_opcode issues op)
  case halt =>
    intro op
    exact runClocked_next clocked (issue_opcode issues op)
  case trap =>
    intro op
    exact runClocked_next clocked (issue_of_issues issues (by rw [op]; rfl))
  case sendf =>
    intro u1 x op read
    exact runClocked_next clocked (issueSendf_of_issues issues op read)
  case setrt =>
    intro op
    exact runClocked_next clocked (issue_opcode issues op)
  case setrtr =>
    intro u1 x op read sound
    exact runClocked_next clocked (issueSetrtr_of_issues issues op read sound)

/-- Settles O29 (log entry 6 for the time of an event). -/
theorem waitcCountEnds : Obligations.WaitcCountEnds := by
  rintro s a t i rfl clocked runs counts
  exact runClocked_next clocked (if_pos ⟨runs, counts⟩)


/-! Instructions on registers (R398, R401, R403). -/

/-- Bits above the lowest i and below them are those of another number with the same remainder and the same upper part. -/
theorem testBit_eq_of_div_mod {v x i j : Nat} (low : x % 2 ^ i = v % 2 ^ i) (high : x / 2 ^ (i + 1) = v / 2 ^ (i + 1)) (other : j ≠ i) :
    x.testBit j = v.testBit j := by
  rcases Nat.lt_or_gt_of_ne other with below | above
  · have same := congrArg (Nat.testBit · j) low
    simpa [Nat.testBit_mod_two_pow, below] using same
  · have same := congrArg (Nat.testBit · (j - (i + 1))) high
    simpa [Nat.testBit_div_two_pow, show i + 1 + (j - (i + 1)) = j by omega, show j - (i + 1) + (i + 1) = j by omega] using same

/-- Adding the power of a bit that is clear sets that bit alone. -/
theorem testBit_add_two_pow {v i : Nat} (clear : v.testBit i = false) (j : Nat) : (v + 2 ^ i).testBit j = if j = i then true else v.testBit j := by
  split
  · next same =>
    subst same
    rw [Nat.add_comm, Nat.testBit_two_pow_add_eq, clear, Bool.not_false]
  · next other =>
    rw [Nat.testBit_eq_decide_div_mod_eq] at clear
    have even : v / 2 ^ i % 2 = 0 := by simpa using clear
    refine testBit_eq_of_div_mod (Nat.add_mod_right ..) ?_ other
    rw [Nat.pow_succ, ← Nat.div_div_eq_div_mul, ← Nat.div_div_eq_div_mul, Nat.add_div_right _ (Nat.two_pow_pos i)]
    omega

/-- Setting or clearing a bit changes that bit alone. -/
theorem bitOf_withBit (v i j : Nat) (b : Bool) : bitOf (withBit v i b) j = if j = i then b else bitOf v j := by
  unfold withBit
  by_cases already : bitOf v i = b
  · rw [if_pos already]
    split
    · next same => rw [same, already]
    · rfl
  · rw [if_neg already]
    cases b with
    | true => exact testBit_add_two_pow (Bool.eq_false_iff.2 already) j
    | false =>
      have isSet : v.testBit i = true := Bool.not_eq_false _ ▸ already
      obtain ⟨x, rfl⟩ := Nat.exists_eq_add_of_le' (Nat.ge_two_pow_of_testBit isSet)
      have clear : x.testBit i = false := by rwa [Nat.add_comm, Nat.testBit_two_pow_add_eq, Bool.not_eq_true'] at isSet
      simp only [Bool.false_eq_true, if_false, Nat.add_sub_cancel, bitOf, testBit_add_two_pow clear]
      split
      · next same => rw [same, clear]
      · rfl

theorem tile_modTile (s : State) (t u : Nat) (f : Tile → Tile) : (s.modTile t f).tile u = if u = t then f (s.tile t) else s.tile u := by
  unfold State.tile State.modTile
  split
  · next same => subst same; exact mapGet_mapSet_self ..
  · next other => exact mapGet_mapSet_ne _ _ _ other

theorem ctx_modCtx_self (s : State) (t i : Nat) (f : Ctx → Ctx) : (s.modCtx t i f).ctx t i = f (s.ctx t i) := by
  simp only [State.ctx, State.modCtx, tile_modTile, if_true, Tile.ctx, Tile.setCtx]
  split <;> rfl

theorem Tile.ctx_setCtx_ne (x : Tile) {i j : Nat} (c : Ctx) (hi : i < 2) (hj : j < 2) (other : j ≠ i) : (x.setCtx i c).ctx j = x.ctx j := by
  obtain ⟨rfl, rfl⟩ | ⟨rfl, rfl⟩ : (i = 0 ∧ j = 1) ∨ (i = 1 ∧ j = 0) := by omega
  · rfl
  · rfl

theorem ctx_modCtx_tile_ne (s : State) {t u : Nat} (i j : Nat) (f : Ctx → Ctx) (other : u ≠ t) : (s.modCtx t i f).ctx u j = s.ctx u j := by
  simp only [State.ctx, State.modCtx, tile_modTile, if_neg other]

theorem ctx_modCtx_ne (s : State) (t : Nat) {i j : Nat} (f : Ctx → Ctx) (hi : i < 2) (hj : j < 2) (other : j ≠ i) :
    (s.modCtx t i f).ctx t j = s.ctx t j := by
  simp only [State.ctx, State.modCtx, tile_modTile, if_true, Tile.ctx_setCtx_ne _ _ hi hj other]

theorem queues_modCtx (s : State) (t i u : Nat) (f : Ctx → Ctx) : ((s.modCtx t i f).tile u).queues = (s.tile u).queues := by
  simp only [State.modCtx, tile_modTile]
  split
  · next same => subst same; unfold Tile.setCtx; split <;> rfl
  · rfl

/-- The issue moves the clock and the tile's turn. -/
theorem issued_eq (s : State) (t c : Nat) : ∃ now phase, s.issued t c =
    ({ s with now := now, cyc := max s.cyc c, phase := phase } : State).modTile t fun y => { y with next := c + 1 } :=
  ⟨_, _, by rw [State.issued, advanceCyc_eq]⟩

theorem ctx_issued (s : State) (t c u j : Nat) : (s.issued t c).ctx u j = s.ctx u j := by
  obtain ⟨now, phase, issued⟩ := issued_eq s t c
  rw [issued]
  simp only [State.ctx, tile_modTile]
  split
  · next same => subst same; rfl
  · rfl

theorem queues_issued (s : State) (t c u : Nat) : ((s.issued t c).tile u).queues = (s.tile u).queues := by
  obtain ⟨now, phase, issued⟩ := issued_eq s t c
  rw [issued, tile_modTile]
  split
  · next same => subst same; rfl
  · rfl

/-- A register read takes nothing; g0 reads 0 and is never poisoned (R398). -/
theorem readOp_register (s : State) (t i : Nat) {o : Nat} (register : o < 16) : s.readOp t i o =
    (s, ⟨if o = 0 then 0 else mapGet (fun _ => 0) (s.ctx t i).regs o, false, o != 0 && bitOf (s.ctx t i).poison o⟩) := by
  unfold State.readOp
  by_cases zero : o = 0
  · simp [zero]
  · simp [zero, register]

/-- A value written to a register: g0 discards it (R398, R403). -/
def State.registerSet (s : State) (t i o : Nat) (v : Val) : State :=
  if o = 0 then s else s.modCtx t i fun x => { x with regs := mapSet (fun _ => 0) x.regs o v.v, poison := withBit x.poison o v.poison }

/-- An instruction whose result goes to a register is done: the PC moves on (R403). -/
def State.registerDone (s : State) (t i o : Nat) (v : Val) : State :=
  (s.registerSet t i o v).modCtx t i fun x => { x with pc := x.pc + 1 }

section
variable (s : State) (t i : Nat) {o : Nat} (v : Val)

theorem writeOp_register (register : o < 16) : s.writeOp t i o v = .ok (s.registerSet t i o v) := by
  unfold State.writeOp State.registerSet
  by_cases zero : o = 0
  · rw [if_pos zero, if_pos zero]
  · rw [if_neg zero, if_neg zero, if_pos register]

/-- What a register write changes of its context. -/
theorem ctx_registerSet : (s.registerSet t i o v).ctx t i =
    { s.ctx t i with
      regs := if o = 0 then (s.ctx t i).regs else mapSet (fun _ => 0) (s.ctx t i).regs o v.v
      poison := if o = 0 then (s.ctx t i).poison else withBit (s.ctx t i).poison o v.poison } := by
  unfold State.registerSet
  split
  · rfl
  · exact ctx_modCtx_self ..

theorem ctx_registerDone : (s.registerDone t i o v).ctx t i =
    { s.ctx t i with
      regs := if o = 0 then (s.ctx t i).regs else mapSet (fun _ => 0) (s.ctx t i).regs o v.v
      poison := if o = 0 then (s.ctx t i).poison else withBit (s.ctx t i).poison o v.poison
      pc := (s.ctx t i).pc + 1 } := by
  rw [State.registerDone, ctx_modCtx_self, ctx_registerSet]

theorem finishWrite_register (s0 : State) (register : o < 16) (inside : (s.ctx t i).pc ≠ 63) : s0.finishWrite s t i o v = s.registerDone t i o v := by
  have before : ((s.registerSet t i o v).ctx t i).pc = (s.ctx t i).pc := by rw [ctx_registerSet]
  simp only [State.finishWrite, writeOp_register s t i v register, State.pcNext, before, if_neg inside]
  simp only [State.registerDone, State.modCtx, State.modTile, ← before]
  rfl

theorem ctx_registerDone_tile_ne {u : Nat} (j : Nat) (other : u ≠ t) : (s.registerDone t i o v).ctx u j = s.ctx u j := by
  rw [State.registerDone, ctx_modCtx_tile_ne _ _ _ _ other, State.registerSet]
  split
  · rfl
  · exact ctx_modCtx_tile_ne _ _ _ _ other

theorem ctx_registerDone_ne {j : Nat} (hi : i < 2) (hj : j < 2) (other : j ≠ i) : (s.registerDone t i o v).ctx t j = s.ctx t j := by
  rw [State.registerDone, ctx_modCtx_ne _ _ _ hi hj other, State.registerSet]
  split
  · rfl
  · exact ctx_modCtx_ne _ _ _ hi hj other

theorem queues_registerDone (u : Nat) : ((s.registerDone t i o v).tile u).queues = (s.tile u).queues := by
  rw [State.registerDone, queues_modCtx, State.registerSet]
  split
  · rfl
  · exact queues_modCtx ..

/-- An instruction on registers changes the time and the tiles of the state, and nothing else. -/
theorem registerDone_issued_eq (c : Nat) : ∃ now phase tiles,
    (s.issued t c).registerDone t i o v = { s with now := now, cyc := max s.cyc c, phase := phase, tiles := tiles } := by
  obtain ⟨now, phase, issued⟩ := issued_eq s t c
  rw [issued, State.registerDone, State.registerSet]
  split
  · exact ⟨now, phase, _, rfl⟩
  · exact ⟨now, phase, _, rfl⟩

end

/-- Settles O27. -/
theorem registerInstructionsChangeOneRegister : Obligations.RegisterInstructionsChangeOneRegister := by
  rintro q t op f s a i clk w x y names rfl clocked issues small named readA readB write inside rfl rfl
  have first := readOp_register (s.fresh.issued t clk) t i readA
  have second := readOp_register (s.fresh.issued t clk) t i readB
  rw [ctx_issued] at first second
  have stays : ((s.fresh.issued t clk).ctx t i).pc ≠ 63 := by rwa [ctx_issued]
  have effect := (issueAlu_of_issues (f := f) issues named first second).trans (finishWrite_register _ _ _ _ _ write stays)
  refine ⟨_, (exec_binary names s).trans (runClocked_next clocked effect), ?_⟩
  obtain ⟨now, phase, tiles, frame⟩ := registerDone_issued_eq s.fresh t i _ clk
  refine ⟨?pc, ?written, ?discarded, ?others, ?mem, ?routes, ?inboxes, ?run, ?flags, ?tiles, ?contexts, ?queues, ?rest⟩
  case rest => 
    rw [frame]
    exact ⟨rfl, rfl, fun _ => rfl, rfl, fun _ _ => rfl, rfl, rfl, rfl, rfl⟩
  case tiles => exact fun u j other => (ctx_registerDone_tile_ne _ _ _ _ j other).trans (ctx_issued ..)
  case contexts => exact fun j hj other => (ctx_registerDone_ne _ _ _ _ small hj other).trans (ctx_issued ..)
  case queues => exact fun u => (queues_registerDone ..).trans (queues_issued ..)
  all_goals rw [ctx_registerDone, ctx_issued]
  case written =>
    intro kept
    simp only [if_neg kept, mapGet_mapSet_self, bitOf_withBit, if_true, and_self]
  case discarded =>
    intro zero
    exact ⟨if_pos zero, if_pos zero⟩
  case others =>
    intro r other
    by_cases zero : iD w = 0
    · simp only [if_pos zero, and_self]
    · simp only [if_neg zero, mapGet_mapSet_ne _ _ _ other, bitOf_withBit, if_neg other, and_self]

end Sys2Proof.Machine
end

section
/-! PROOFS. Calibration, compare and fail capture of a probe channel (R373 to R389, R411): each operation in the case of its event. -/

namespace Sys2Proof.Machine

/-! What the raise of an error line leaves alone (R544 to R551): the objects of the probe channels, and the channels themselves. -/

/-- The key is of an object of a probe channel. -/
def probeSpan (k : Nat) : Bool := k / 0x10000 == 0x38 || k / 0x10000 == 0x39

/-- The second state has the probe channels of the first, and their objects. -/
def State.SameProbes (s t : State) : Prop := (∀ k, probeSpan k = true → t.obj k = s.obj k) ∧ t.probes = s.probes

namespace State.SameProbes

variable {s t : State}

theorem refl (s : State) : SameProbes s s := ⟨fun _ _ => rfl, rfl⟩

theorem ite {c : Prop} [Decidable c] {u : State} (ht : SameProbes s t) (hu : SameProbes s u) : SameProbes s (if c then t else u) := by
  split
  · exact ht
  · exact hu

theorem setObj (h : SameProbes s t) {k v : Nat} (other : probeSpan k = false) : SameProbes s (t.setObj k v) := by
  obtain ⟨obj, probes⟩ := h
  refine ⟨fun j span => (obj_setObj_ne t v ?_).trans (obj j span), probes⟩
  rintro rfl
  exact Bool.false_ne_true (other.symm.trans span)

theorem bump (h : SameProbes s t) {k : Nat} (other : probeSpan k = false) : SameProbes s (t.bump k) := h.setObj other

theorem setBit (h : SameProbes s t) {k i : Nat} {b : Bool} (other : probeSpan k = false) : SameProbes s (t.setBit k i b) := h.setObj other

theorem sendEmcy (h : SameProbes s t) : SameProbes s t.sendEmcy := ite (setObj h (k := Obj.ectEmcySent) rfl) h

theorem emcy (h : SameProbes s t) (code : Nat) (d : List Byte) : SameProbes s (t.emcy code d) := ite (sendEmcy h) (bump h rfl)

theorem msixOn (h : SameProbes s t) (v : Nat) : SameProbes s (t.msixOn v) := ite h (ite (setObj h (k := Obj.pcieMsixSent) rfl) h)

theorem latchFtw (h : SameProbes s t) (n : Nat) (notify : Bool) : SameProbes s (t.latchFtw n notify) := by
  have sent := emcy (setBit h (k := Obj.ftw) (i := n) (b := true) rfl) 0xFF20 (leBytes 1 n ++ leBytes 4 (t.setBit Obj.ftw n true).ts)
  exact ite h (ite (msixOn sent _) sent)

theorem episode (h : SameProbes s t) (n src : Nat) : SameProbes s (t.episode n src) := by
  unfold State.episode
  split
  · repeat refine setObj ?_ rfl
    exact h
  · exact latchFtw (setObj (bump (bump (setBit h rfl) rfl) rfl) rfl) 63 false

/-- The objects of an error line are none of the probe channels'. -/
theorem probeSpan_line {n j : Nat} (line : n < 64) (field : j < 0x100) : probeSpan (0x221000 + j + n * 0x100) = false := by
  simp only [probeSpan, Bool.or_eq_false_iff, beq_eq_false_iff_ne]
  omega

theorem raise (h : SameProbes s t) {n : Nat} (src : Nat) (line : n < 64) : SameProbes s (t.raise n src) := by
  have counted : SameProbes s (t.bump (Obj.raises n)) := bump h (probeSpan_line (j := 3) line (by decide))
  have stamped := setObj (v := (t.bump (Obj.raises n)).ts) counted (k := Obj.lastRaiseTs n) (probeSpan_line (j := 4) line (by decide))
  have sourced := setObj (v := src) stamped (k := Obj.lastSource n) (probeSpan_line (j := 5) line (by decide))
  exact ite (episode (latchFtw sourced ..) n src) h

theorem beginCause (h : SameProbes s t) {n : Nat} (bit src : Nat) (line : n < 64) : SameProbes s (t.beginCause n bit src) := by
  refine ite h (raise (setBit ?_ rfl) src line)
  exact h

end State.SameProbes

section
variable {s t : State} {n : Nat}

/-! Calibration (R373 to R377). -/

/-- A calibration is over: the channel is IDLE, and a CAL_CMD that asked for it reads DONE (R375). -/
def State.calOver (s : State) (n : Nat) (asked : Bool) : State :=
  let s := ((s.modPb n fun x => { x with cal := none, calJust := true }).setBit (Obj.calStatus n) 4 false).setObj (Obj.pbState n) pbIdle
  if asked then s.cmdDone (Obj.calCmd n) else s

/-- The state in which a calibration's result is seen. -/
def State.calEnds (s : State) (n us : Nat) (full : Bool) : State :=
  (s.advanceTo ((s.pb n).calStart + min us (if full then 20000 else 1000) * usTicks)).bump (Obj.calibrations n)

theorem calDone_of_pass {full asked : Bool} (worst temp us : Nat) (running : (s.pb n).cal = some (full, asked)) (ended : t = s.calEnds n us full) :
    s.calDone n true worst temp us =
      let u := t.modObj (Obj.calStatus n) fun v => withBit (clearBits v 0x2E) 0 true
      let u := ((u.setObj (Obj.calTemp n) temp).setObj (Obj.calVddq n) (u.obj (Obj.setpoint n 1))).setObj (Obj.calWorst n) worst
      ((u.setObj (Obj.calDrift n) 0).endDrift n).calOver n asked := by
  subst ended
  unfold State.calDone
  rw [running]
  rfl

theorem calDone_of_full_fail {asked : Bool} (worst temp us : Nat) (running : (s.pb n).cal = some (true, asked)) (ended : t = s.calEnds n us true) :
    s.calDone n false worst temp us =
      ((((t.setBit (Obj.calStatus n) 5 true).setBit (Obj.calFaultCause n) 2 true).raise (18 + 4 * n) (sourceWord n 2)).calOver n asked) := by
  subst ended
  unfold State.calDone
  rw [running]
  rfl

theorem calDone_of_track_fail {asked : Bool} (worst temp us : Nat) (running : (s.pb n).cal = some (false, asked)) (ended : t = s.calEnds n us false) :
    s.calDone n false worst temp us = t.modPb n fun x => { x with cal := some (true, asked), calStart := t.now } := by
  subst ended
  unfold State.calDone
  rw [running]
  rfl

theorem calAutoStarts_of_wanted {full : Bool} (wanted : s.calWanted n = some full) : s.calAutoStarts n = s.calStart n full false := by
  simp only [State.calAutoStarts, wanted]

/-! The replica (R376). -/

/-- A measurement of the replica, before it is compared with the limits. -/
def State.replicaSeen (s : State) (n drift : Nat) : State :=
  let s := s.advanceTo (s.pb n).replicaAt
  (s.modPb n fun x => { x with replicaAt := s.now + msTicks }).setObj (Obj.calDrift n) (drift % 65536)

/-- A limit that is passed, once (R376). -/
def State.driftHit (s : State) (n b c : Nat) : State :=
  ((s.setBit (Obj.calStatus n) b true).setBit (Obj.calFaultCause n) c true).beginCause (18 + 4 * n) c (sourceWord n c)

/-- The drift, the temperature and VDDQ against their limits (R376). -/
def State.driftChecked (s : State) (n drift temp : Nat) : State :=
  let far := (toInt 16 drift).natAbs
  let dt := (toInt 16 temp - toInt 16 (s.obj (Obj.calTemp n))).natAbs
  let dv := absDiff (s.obj (Obj.setpoint n 1)) (s.obj (Obj.calVddq n))
  let s := s.when (decide (s.obj (Obj.calDriftLimit n) < far)) fun s => if s.bit (Obj.calStatus n) 1 then s else s.driftHit n 1 0
  let s := s.when (decide (10 * s.obj (Obj.calTempLimit n) < dt)) fun s => if s.bit (Obj.calStatus n) 2 then s else s.driftHit n 2 1
  s.when (decide (250 < dv)) fun s => s.setBit (Obj.calStatus n) 3 true

theorem replica_of_on (drift temp : Nat) (on : s.pbOn n = true) :
    s.replica n drift temp =
      if (s.replicaSeen n drift).bit (Obj.calStatus n) 0 then (s.replicaSeen n drift).driftChecked n drift temp else s.replicaSeen n drift := if_pos on

/-- What a passed limit changes is not the drift, nor the channel. -/
def State.SameDrift (s t : State) (n : Nat) : Prop := t.obj (Obj.calDrift n) = s.obj (Obj.calDrift n) ∧ t.probes = s.probes

theorem State.SameDrift.when {b : Bool} {f : State → State} (kept : s.SameDrift (f s) n) : s.SameDrift (s.when b f) n := by
  unfold State.when
  split
  · exact kept
  · exact ⟨rfl, rfl⟩

theorem sameDrift_setBit_status (s : State) (n b : Nat) : s.SameDrift (s.setBit (Obj.calStatus n) b true) n :=
  ⟨obj_setObj_ne s _ (by unfold Obj.calDrift Obj.calStatus; omega), rfl⟩

theorem sameDrift_driftHit (s : State) {n : Nat} (b c : Nat) (chan : n < 2) : s.SameDrift (s.driftHit n b c) n := by
  obtain ⟨objects, probes⟩ := State.SameProbes.beginCause (.refl ((s.setBit (Obj.calStatus n) b true).setBit (Obj.calFaultCause n) c true))
    c (sourceWord n c) (n := 18 + 4 * n) (by omega)
  have span : probeSpan (Obj.calDrift n) = true := by
    simp only [probeSpan, Bool.or_eq_true, beq_iff_eq]
    unfold Obj.calDrift
    omega
  refine ⟨(objects _ span).trans ?_, probes⟩
  exact (obj_setObj_ne _ _ (by unfold Obj.calDrift Obj.calFaultCause; omega)).trans (sameDrift_setBit_status s n b).1

theorem State.SameDrift.trans {u : State} (first : s.SameDrift t n) (second : t.SameDrift u n) : s.SameDrift u n :=
  ⟨second.1.trans first.1, second.2.trans first.2⟩

theorem sameDrift_driftChecked (s : State) {n : Nat} (drift temp : Nat) (chan : n < 2) : s.SameDrift (s.driftChecked n drift temp) n := by
  have hit (t : State) (b c : Nat) : t.SameDrift (if t.bit (Obj.calStatus n) b then t else t.driftHit n b c) n := by
    split
    · exact ⟨rfl, rfl⟩
    · exact sameDrift_driftHit t b c chan
  exact ((State.SameDrift.when (hit _ 1 0)).trans (.when (hit _ 2 1))).trans (.when (sameDrift_setBit_status _ n 3))

theorem sameDrift_replica {n : Nat} (drift temp : Nat) (chan : n < 2) (on : s.pbOn n = true) :
    (s.replicaSeen n drift).SameDrift (s.replica n drift temp) n := by
  rw [replica_of_on drift temp on]
  split
  · exact sameDrift_driftChecked _ drift temp chan
  · exact ⟨rfl, rfl⟩

theorem replicaSeen_replicaAt (s : State) (n drift : Nat) :
    ((s.replicaSeen n drift).pb n).replicaAt = max s.now (s.pb n).replicaAt + msTicks := by
  unfold State.replicaSeen
  rw [advanceTo_eq]
  exact congrArg ProbeCh.replicaAt (mapGet_mapSet_self ..)

/-- With no earlier pass there is nothing to compare with (R376). -/
theorem replica_of_uncalibrated {drift : BitVec 16} (temp : Nat) (on : s.pbOn n = true) (time : t = s.advanceTo (s.pb n).replicaAt)
    (never : t.bit (Obj.calStatus n) 0 = false) :
    s.replica n drift.toNat temp = (t.modPb n fun x => { x with replicaAt := t.now + msTicks }).setObj (Obj.calDrift n) drift.toNat := by
  subst time
  have seen : s.replicaSeen n drift.toNat = (((s.advanceTo (s.pb n).replicaAt).modPb n fun x =>
      { x with replicaAt := (s.advanceTo (s.pb n).replicaAt).now + msTicks }).setObj (Obj.calDrift n) drift.toNat) := by
    rw [State.replicaSeen, Nat.mod_eq_of_lt drift.isLt]
  have still : (s.replicaSeen n drift.toNat).bit (Obj.calStatus n) 0 = false := by
    have other : Obj.calStatus n ≠ Obj.calDrift n := by unfold Obj.calStatus Obj.calDrift; omega
    rw [seen, State.bit, obj_setObj_ne _ _ other]
    exact never
  rw [replica_of_on _ _ on, if_neg (Bool.eq_false_iff.1 still), seen]

/-! Expected entries (R381, R382). -/

theorem expectedEntry_of_new_cycle (fresh : (s.pb n).expAt ≠ s.cyc ∨ s.cyc = 0) : s.expectedEntry n = (s.takeExpected n 4).dropLate n 1024 := by
  have notTwice : ¬((s.pb n).expAt = s.cyc ∧ s.cyc ≠ 0) := by tauto
  simp only [State.expectedEntry, if_neg notTwice]

/-! Capture (R385) and the fail pin (R389). -/

/-- A capture port is taken for its next word, at most one in a c (R385). -/
def State.capTurn (s : State) (n site : Nat) : State :=
  let t := s.advanceCyc (mapGet (fun _ => 0) (s.pb n).capAt site)
  t.modPb n fun x => { x with capAt := mapSet (fun _ => 0) x.capAt site (t.cyc + 1) }

/-- A word of a record leaves by its capture port. -/
def State.capSends (s : State) (n site word : Nat) : State :=
  ((s.enterEdge (capPort n site) { data := BitVec.ofNat 32 word }).capNote n site).capRefill n site 4

theorem capDeliver_of_part {site w : Nat} {l : List Nat} (room : 0 < s.edgeSpace (capPort n site)) (part : s.capPartOf n site = w :: l) :
    s.capDeliver n site = ((s.capTurn n site).setCapPart n site l).capSends n site w := by
  unfold State.capDeliver
  refine (if_pos room).trans ?_
  rw [part]
  rfl

/-- A header that is delivered carries DROPPED (R385, R392). -/
theorem capDeliver_of_record {site w : Nat} {l : List Nat} {q : List (List Nat)} (room : 0 < s.edgeSpace (capPort n site))
    (whole : s.capPartOf n site = []) (record : s.capOf n site = (w :: l) :: q) :
    s.capDeliver n site =
      ((((s.capTurn n site).setBit (Obj.siteStatus n site) 2 false).setCap n site q).setCapPart n site l).capSends n site
        (w + b2n ((s.capTurn n site).bit (Obj.siteStatus n site) 2) * 2 ^ 24) := by
  unfold State.capDeliver
  refine (if_pos room).trans ?_
  rw [whole, record]
  rfl

theorem dburst_of_due {samples second : List Byte} {d : DBurst} {l : List DBurst} {on : List Nat} (due : (s.pb n).due = d :: l)
    (sites : on = sites8.filter fun i => bitOf d.sites i)
    (strobed : t = (s.advanceCyc ((on.flatMap fun i => (List.range (4 * 2 ^ s.siteWidth n i)).map fun dq =>
      (s.strobeAt n d.ck i dq ((match d.bl with | 0 => 16 | 1 => 8 | _ => 32) - 1) (s.act (Obj.windowWidth n))).1).foldl max 0 + 6)).modPb n
        fun x => { x with due := l }) :
    s.dburst n samples second =
      let u := t.each on fun i v => v.compareSite n i d
        (v.failBytes n i d.bl ((samples.drop (32 * i)).take 32) ((second.drop (32 * i)).take 32) (v.setBytesOf n i d))
      u.flushDue n (u.pb n).due.length := by
  subst strobed sites
  unfold State.dburst
  rw [due] <;> rfl

/-! Pairs of words (R411). -/

theorem seqPair_of_pair {h l : EdgeWord} {hq lq : List EdgeWord} {k : Nat} (port : k = if n = 0 then 32 else 48)
    (high : s.edgeOutQ k = h :: hq) (low : s.edgeOutQ (k + 1) = l :: lq) (time : t = s.advanceCyc (max (max h.ready l.ready) (s.pb n).pairAt)) :
    s.seqPair n =
      if t.pbOn n then
        if (t.pb n).queue.length < 64 then
          ((t.setEdgeOut k hq).setEdgeOut (k + 1) lq).modPb n fun x =>
            { x with queue := x.queue ++ [h.data.toNat * 2 ^ 32 + l.data.toNat], pairAt := t.cyc + 1 }
        else t
      else (t.setEdgeOut k hq).setEdgeOut (k + 1) lq := by
  subst port time
  simp only [State.seqPair, high, low]

end

/-- Settles O24: each event's operation in the case of its guards (log entry 71 for the calibration that runs by itself, 129 for the bound of
the time that an operand brings, 6 for the time of an event). -/
theorem compareEventsComplete : Obligations.CompareEventsComplete := by
  rintro s a n rfl awake part
  refine ⟨?pass, ?track, ?full, ?uncalibrated, ?measured, ?auto, ?expected, ?strobed, ?record, ?rest, ?failHold, ?paired, ?discarded⟩
  case pass =>
    intro asked worst temp us full t running ended
    exact runProbe_next awake part (calDone_of_pass worst temp us running ended)
  case track =>
    intro asked worst temp us t running ended
    exact runProbe_next awake part (calDone_of_track_fail worst temp us running ended)
  case full =>
    rintro asked worst temp us t running rfl
    exact runProbe_next awake part (calDone_of_full_fail worst temp us running rfl)
  case uncalibrated =>
    intro drift temp t on time never
    exact runProbe_next awake part (replica_of_uncalibrated _ on time never)
  case measured =>
    intro drift temp on
    obtain ⟨kept, probes⟩ := sameDrift_replica (s := s.fresh) drift.toNat temp.toNat n.isLt on
    refine ⟨_, runProbe_next awake part rfl, kept.trans ((obj_setObj_self ..).trans (Nat.mod_eq_of_lt drift.isLt)), ?_⟩
    rw [← replicaSeen_replicaAt s.fresh n drift.toNat, State.pb, probes]
    rfl
  case auto =>
    intro full wanted
    exact runProbe_next awake part (calAutoStarts_of_wanted wanted)
  case expected =>
    intro fresh
    exact runProbe_next awake part (expectedEntry_of_new_cycle fresh)
  case strobed =>
    intro samples second d l on t due sites time
    exact runProbe_next awake part (dburst_of_due due sites time)
  case record =>
    rintro site w l q t h room whole record rfl rfl
    exact runProbe_next awake part (capDeliver_of_record room whole record)
  case rest =>
    rintro site w l t room rest rfl
    exact runProbe_next awake part (capDeliver_of_part room rest)
  case failHold =>
    intro high live
    exact runProbe_next awake part (if_pos ⟨high, live⟩)
  case paired =>
    intro h hq l lq t clocked high low time on room
    exact runClocked_next clocked ((if_pos part).trans ((seqPair_of_pair rfl high low time).trans ((if_pos on).trans (if_pos room))))
  case discarded =>
    intro h hq l lq t clocked high low time off
    exact runClocked_next clocked ((if_pos part).trans ((seqPair_of_pair rfl high low time).trans (if_neg (Bool.eq_false_iff.1 off))))

end Sys2Proof.Machine
end

section
/-! PROOFS. The mesh, the watch over its queues, the FE points and the fabric's responses (R405, R406, R411 to R417, R422): each operation in the case of
its event. -/

namespace Sys2Proof.Machine

section
variable {s : State} {t : Nat}

/-! The mesh (R405). -/

/-- A router output has taken the flit it serves: the clock stands at the hop, and the flit has left its queue. -/
def State.takesFlit (s : State) (t out q : Nat) (f : Flit) : State :=
  let u := s.advanceCyc (max f.ready ((s.tile t).free.getD out 0))
  (u.modTile t fun x => x.hopped out q u.cyc).headMoves t q

theorem flitHop_of_served {out q : Nat} {f : Flit} (served : s.served t out = some (q, f)) (free : s.meshScan = false) :
    s.flitHop t out =
      let v := s.takesFlit t out q f
      if out = 4 then
        v.modCtx t (fld 10 1 f.dest) fun x => x.gets (fld 8 2 f.dest) { data := f.data, last := f.last, poison := f.poison, ready := v.cyc + 1 }
      else v.modTile (beyond t out).1 fun x => x.enters (beyond t out).2 { f with ready := v.cyc + 1 } := by
  simp only [State.flitHop, served, free, Bool.not_false, if_true]
  rfl

/-! The stall watchdog (R422). -/

theorem stallWatchdog_of_stalled {q : Nat} {x : Stall} (stalled : s.stalled t q = some x) (unseen : bitOf (s.causesOf 25) x.key = false) :
    s.stallWatchdog t q =
      let u := s.advanceCyc (x.from' + s.obj Obj.stallLimit)
      ((((u.bump Obj.stalls).setObj Obj.stallAt (t % 16 + t / 16 * 16 + q * 256)).setBit Obj.fabFaultCause 1 true).beginCause 25 x.key
        (sourceWord t 1)).autoDrain x.ctx 2 := by
  unfold State.stallWatchdog
  rw [stalled]
  exact if_neg (Bool.eq_false_iff.1 unseen)

end

/-- Settles O32 (log entry 78 for the context whose queue a router queue is, 6 for the time of an event). -/
theorem meshEventsComplete : Obligations.MeshEventsComplete := by
  rintro s a t rfl clocked
  refine ⟨?hop, ?delivery, ?stall⟩
  case hop =>
    rintro out q f u v passes served free rfl rfl
    exact runClocked_next clocked ((flitHop_of_served served free).trans (if_neg passes))
  case delivery =>
    rintro q f u v served free rfl rfl
    exact runClocked_next clocked ((flitHop_of_served served free).trans (if_pos rfl))
  case stall =>
    rintro q x u stalled unseen rfl
    exact runClocked_next clocked (stallWatchdog_of_stalled stalled unseen)

end Sys2Proof.Machine
end

section
/-! PROOFS. The FE points and the responses of the fabric (R411 to R417): a command whose words are there, one whose data is still to come, and a response
that answers its request. -/

namespace Sys2Proof.Machine

section
variable {s t : State} {e head need : Nat} {kind : ReqKind} {l : List EdgeWord} {r : Req}

/-! Commands presented (R412, R413). -/

/-- The command at the front of an FE port may be presented: its head is there, it is of the kind asked for, and no open write owes data. -/
structure State.FeReady (s : State) (e : Nat) (kind : ReqKind) (l : List EdgeWord) : Prop where
  words : l = s.feWords e
  some' : l ≠ []
  whole : feHead l ≤ l.length
  named : feOp (wordAt l 0) = kind.opcode
  closed : mapGet (fun _ => none) s.feOpen e = none

/-- The state at the c at which the last word of a command's head has reached its port. -/
def State.feTime (s : State) (l : List EdgeWord) (head : Nat) : State := s.advanceCyc ((l.take head).foldl (fun c x => max c x.ready) s.cyc)

/-- A command whose words are all there is presented with them (R412). -/
def State.feWhole (t : State) (e : Nat) (kind : ReqKind) (l : List EdgeWord) (r : Req) : State :=
  let data := (l.take (feNeed l)).drop (feHead l)
  let d := if kind = .masked then spreadWords r.mask 16 data else data
  (t.setEdgeOut e ((t.edgeOutQ e).drop (feNeed l))).feEnter e
    { r with data := if kind.isWrite then wordBytes d else [], poison := if kind.isWrite then poisonOf d else 0 }

/-- A write whose data is still to come is presented open (R413). -/
def State.feOpened (t : State) (e : Nat) (l : List EdgeWord) (r : Req) : State :=
  let u := t.setEdgeOut e ((t.edgeOutQ e).drop (feHead l))
  ({ u with feOpen := mapSet (fun _ => none) u.feOpen e (some (if u.obj (Obj.feEnable e) = 1 then t.serial else 0, feNeed l - feHead l)) }).feEnter e
    { r with openData := true }

theorem fePresent_of_ready (ready : s.FeReady e kind l) (request : r = feReq e (if s.bindOf e = 3 then 1 else 0) kind l)
    (room : kind = .read → s.returnUse e + r.lines ≤ 8) :
    s.fePresent e kind =
      let t := s.feTime l (feHead l)
      if (decide (feNeed l ≤ l.length) && ((l.take (feNeed l)).drop (feHead l)).all fun x => decide (x.ready ≤ t.cyc)) = true then t.feWhole e kind l r
      else t.feOpened e l r := by
  obtain ⟨words, some', whole, named, closed⟩ := ready
  subst words request
  have presentable : ¬((s.feWords e).length < feHead (s.feWords e) ∨ s.feWords e = [] ∨ feOp (wordAt (s.feWords e) 0) ≠ kind.opcode ∨
      (mapGet (fun _ => none) s.feOpen e).isSome) := by
    simp only [not_or, closed, Option.isSome_none, Bool.false_eq_true, not_false_eq_true, and_true]
    exact ⟨Nat.not_lt.2 whole, some', not_not.2 named⟩
  have fits : ¬(kind = .read ∧ 8 < s.returnUse e + (feReq e (if s.bindOf e = 3 then 1 else 0) kind (s.feWords e)).lines ∧
      s.obj (Obj.feEnable e) = 1) := fun full => Nat.not_lt.2 (room full.1) full.2.1
  unfold State.fePresent
  exact (if_neg presentable).trans (if_neg fits)

end

/-- A queue that moves on may end a stall, which shows in LIVE alone (R422, R544). -/
theorem obj_setEdgeOut_of_ne_live (s : State) (k : Nat) (l : List EdgeWord) {j : Nat} (other : j ≠ Obj.live) : (s.setEdgeOut k l).obj j = s.obj j := by
  unfold State.setEdgeOut State.headMoved'
  dsimp only
  split
  · rfl
  · split
    · exact obj_endCause_of_ne_live _ _ other
    · rfl

theorem feOpened_of_enabled {t : State} {e : Nat} (l : List EdgeWord) (r : Req) (enabled : t.obj (Obj.feEnable e) = 1) :
    t.feOpened e l r =
      let u := t.setEdgeOut e ((t.edgeOutQ e).drop (feHead l))
      ({ u with feOpen := mapSet (fun _ => none) u.feOpen e (some (t.serial, feNeed l - feHead l)) }).feEnter e { r with openData := true } := by
  have other : Obj.feEnable e ≠ Obj.live := by unfold Obj.feEnable Obj.live; omega
  have still : (t.setEdgeOut e ((t.edgeOutQ e).drop (feHead l))).obj (Obj.feEnable e) = 1 := (obj_setEdgeOut_of_ne_live _ _ _ other).trans enabled
  simp only [State.feOpened, still, if_true]

theorem exec_fe {q : Instr} {e : Fin 16} {kind : ReqKind} (names : q.fe = some (e, kind)) (s : State) :
    exec q s = runClocked s fun a => if a.ingressClosed then a else a.fePresent e kind := by
  unfold Instr.fe at names
  split at names <;> cases names <;> rfl

/-! Responses (R414, R417). -/

/-- A response that is wholly at its port, and answers a request outside lockstep, closes it. -/
theorem fabResponse_of_match {s : State} {p : Nat} {l : List EdgeWord} {h : Nat} {r : Req} (words : l = s.edgeOutQ (16 + p))
    (header : h = wordAt l 0 * 2 ^ 32 + wordAt l 1) (two : 2 ≤ l.length) (whole : respNeed l ≤ l.length)
    (found : s.reqs.find? (fun r => r.rq == 16 * p + fld 56 4 h && r.stage == .fabric && r.tag == fld 48 8 h) = some r)
    (kind : r.kind.opcode = fld 60 4 h) (lines : r.lines = fld 42 2 h + 1) (plain : r.lockstep = false) :
    s.fabResponse p =
      let bytes := (List.range (((l.take (respNeed l)).drop 2).length / 2)).flatMap fun j =>
        leBytes 4 (wordAt ((l.take (respNeed l)).drop 2) (2 * j + 1)) ++ leBytes 4 (wordAt ((l.take (respNeed l)).drop 2) (2 * j))
      ((s.feTime l (respNeed l)).setEdgeOut (16 + p) (l.drop (respNeed l))).close { r with
        status := (List.range r.lines).map fun i => some (fld (16 + 4 * i) 4 h)
        back := (List.range r.lines).map fun i => (bytes.drop (64 * i)).take 64 } := by
  subst words header
  unfold State.fabResponse
  refine (if_neg (Nat.not_lt.2 two)).trans ?_
  dsimp only
  rw [found]
  have answers : ¬(r.kind.opcode ≠ fld 60 4 (wordAt (s.edgeOutQ (16 + p)) 0 * 2 ^ 32 + wordAt (s.edgeOutQ (16 + p)) 1) ∨
      r.lines ≠ fld 42 2 (wordAt (s.edgeOutQ (16 + p)) 0 * 2 ^ 32 + wordAt (s.edgeOutQ (16 + p)) 1) + 1) := by
    simp only [kind, lines, ne_eq, not_true, or_self, not_false_eq_true]
  exact (if_neg answers).trans ((if_neg (Nat.not_lt.2 whole)).trans (if_neg (Bool.eq_false_iff.1 plain)))

/-- Settles O33 (log entry 39 for the open write of R413, 130 for the status of a response, 6 for the time of an event). -/
theorem fabricRequestsComplete : Obligations.FabricRequestsComplete := by
  rintro s a rfl clocked
  refine ⟨?whole, ?opened, ?response⟩
  case whole =>
    rintro q e kind l head need t r d names opened words rfl rfl some' headThere allThere named closed request room rfl timely rfl
    rw [exec_fe names]
    refine runClocked_next clocked ((if_neg (Bool.eq_false_iff.1 opened)).trans ?_)
    refine (fePresent_of_ready ⟨words, some', headThere, named, closed⟩ request room).trans (if_pos ?_)
    rw [Bool.and_eq_true, decide_eq_true_eq, List.all_eq_true]
    exact ⟨allThere, fun x mem => decide_eq_true (timely x mem)⟩
  case opened =>
    rintro q e kind l head t r names opened words rfl some' headThere behind named write closed request rfl enabled
    rw [exec_fe names]
    refine runClocked_next clocked ((if_neg (Bool.eq_false_iff.1 opened)).trans ?_)
    refine (fePresent_of_ready ⟨words, some', headThere, named, closed⟩ request fun read => absurd read write).trans
      ((if_neg ?_).trans (feOpened_of_enabled l r enabled))
    simp [Nat.not_le.2 behind]
  case response =>
    rintro port l h r need t bytes words header rfl two whole found kind lines plain rfl rfl
    exact runClocked_next clocked (fabResponse_of_match words header two whole found kind lines plain)

end Sys2Proof.Machine
end

section
/-! PROOFS. The ends of what the configuration unit runs (R431, R433, R440 to R444): loads, scans, frame moves and fault drains. -/

namespace Sys2Proof.Machine

section
variable {s t : State}

/-! Image loads (R431, R433). -/

theorem imageDone_of_load {j : ImageJob} {passed : Bool} (job : s.imageJob = some j) (here : j.reading = false)
    (load : ({ s with imageJob := none }).loadImage j.ctx j.bytes (!j.bad) = (t, passed)) :
    s.imageDone = if passed then t.cmdDone Obj.imageCmd else t.cmdFailed Obj.imageCmd 0xB := by
  simp only [State.imageDone, job, here, Bool.false_eq_true, if_false, load]

/-! Scans (R440, R441, R447). -/

/-- The state when the passes of a scan end. -/
def State.scanEnds (s : State) (j : ScanJob) : State := { (s.advanceCyc j.ends).setObj Obj.lastScanC (scanC j.target) with scan := none }

/-- The state of the target is replaced by that of the frames, in an IN or an EXCHANGE (R441). -/
def State.scanIn (s : State) (j : ScanJob) : State :=
  let u := s.each (targetCtxs j.target) fun i x => x.inCtx (frameFor j.target j.inn i) i (bitOf j.flags 0)
  if targetMesh j.target then u.inMesh (frameFor j.target j.inn 2) else u

theorem scanDone_of_parity {j : ScanJob} (job : s.scan = some j) (ended : t = s.scanEnds j) :
    s.scanDone true =
      ((((t.scanOut t j).scanError j).releaseEdges.setBit Obj.scanStatus 1 true).setBit Obj.scanStatus 2 true).cmdFailed Obj.scanCmd 9 := by
  subst ended
  unfold State.scanDone
  rw [job]
  rfl

theorem scanDone_of_sound {j : ScanJob} (job : s.scan = some j) (ended : t = s.scanEnds j) :
    s.scanDone false =
      let v := (if j.op = 1 then t else t.scanIn j).scanOut t j
      let x := v.releaseEdges.setBit Obj.scanStatus 1 false
      let x := if bitOf j.flags 1 then x.each (targetCtxs j.target) fun i y => y.startCtx i else x
      x.cmdDone Obj.scanCmd := by
  subst ended
  unfold State.scanDone
  rw [job]
  have moved : ∀ x : State, x.when (j.op != 1) (fun y => y.scanIn j) = if j.op = 1 then x else x.scanIn j := fun x => by
    by_cases out : j.op = 1 <;> simp [State.when, out]
  rw [← moved]
  rfl

/-! Frame moves (R443). -/

section
variable {j : MoveJob} (job : s.moveJob = some j) (answered : j.waiting = false)
include job answered

theorem moveDone_of_bad (bad : j.bad = true) : s.moveDone = ({ s with moveJob := none }).cmdFailed (Obj.frameMove j.frame) 6 := by
  simp only [State.moveDone, job, answered, bad, Bool.false_eq_true, if_false, if_true]

theorem moveDone_of_save (good : j.bad = false) (save : j.op = 1) : s.moveDone = ({ s with moveJob := none }).cmdDone (Obj.frameMove j.frame) := by
  simp only [State.moveDone, job, answered, good, save, Bool.false_eq_true, if_false, if_true]

theorem moveDone_of_fetch (good : j.bad = false) (fetch : j.op ≠ 1) (stored : t = ({ s with moveJob := none }).setFrame j.frame j.words) :
    s.moveDone =
      let ok := leNat (j.tail.take 4) == 0x4D524643 && leNat ((j.tail.drop 24).take 4) == t.frameCrc j.frame
      let kind := (byteAt j.tail 4).toNat
      let u := t.setObj (Obj.frameKind j.frame) (withBit (kind % 64) 3 (bitOf kind 3 || !ok))
      ((u.setObj (Obj.frameTs j.frame) (leNat ((j.tail.drop 8).take 8))).setObj (Obj.frameImageId j.frame) (leNat ((j.tail.drop 16).take 8))).cmdDone
        (Obj.frameMove j.frame) := by
  subst stored
  simp only [State.moveDone, job, answered, good, Bool.false_eq_true, if_false, if_neg fetch]

end

/-! The fault drain (R444). -/

theorem faultDrain_of_target {j : ScanJob} {i : Nat} (job : s.drain = some j) (target : j.target = i)
    (ended : t = { (s.advanceCyc j.ends).setObj Obj.lastScanC (scanC i) with drain := none }) :
    s.faultDrain i = ((((t.outCtx j.out i).setBit (Obj.frameKind j.out) 4 true).bump (Obj.drains i)).releaseEdges).setBit Obj.scanStatus 1 false := by
  subst ended
  unfold State.faultDrain
  rw [job]
  exact if_pos target

end

/-- Settles O34 (log entry 76 for when a scan takes its state, 145 for what a scan's error spoils, 169 for START_AFTER of an OUT). -/
theorem configurationEndsComplete : Obligations.ConfigurationEndsComplete := by
  rintro s a rfl awake
  refine ⟨?loaded, ?refused, ?scan, ?parity, ?saved, ?bad, ?fetched, ?drain⟩
  case loaded =>
    intro j t job here load
    exact runAwake_next awake (congrArg State.foeLoaded (imageDone_of_load job here load))
  case refused =>
    intro j t job here load
    exact runAwake_next awake (congrArg State.foeLoaded (imageDone_of_load job here load))
  case scan =>
    rintro j t u v job ended rfl rfl
    exact runAwake_next awake (scanDone_of_sound job ended)
  case parity =>
    intro j t job ended
    exact runAwake_next awake (scanDone_of_parity job ended)
  case saved =>
    intro j job answered good save
    exact runAwake_next awake (moveDone_of_save job answered good save)
  case bad =>
    intro j job answered bad
    exact runAwake_next awake (moveDone_of_bad job answered bad)
  case fetched =>
    intro j t job answered good fetch stored
    exact runAwake_next awake (moveDone_of_fetch job answered good fetch stored)
  case drain =>
    intro i j t job target ended
    exact runAwake_next awake (faultDrain_of_target job target ended)

end Sys2Proof.Machine
end

section
/-! PROOFS. Message channels and MB ports (R455 to R470): register writes and reads on the control paths, the ends of messages and fills, and the words of
the MB ports. -/

namespace Sys2Proof.Machine

/-! Register writes (R460, R461, R473). -/

theorem size_of_msgReg {r : Row} (m : Fin 32) {w : Nat} (register : w < 16) (row : rowOf (Obj.msgReg m w) = some r) : r.ty.size = 4 := by
  have sizes : ∀ (m : Fin 32) (w : Fin 16), (rowOf (Obj.msgReg m w)).all (fun x => x.ty.size == 4) = true := by decide +kernel
  have size := sizes m ⟨w, register⟩
  rw [row, Option.all_some] at size
  exact eq_of_beq size

/-- The write of a register fills the channel (R461). -/
theorem blockWrite_msgReg (t : State) (p : Path) (m : Fin 32) {w : Nat} (register : w < 16) (v old : Nat) (d : List Byte) :
    t.blockWrite p (Obj.msgReg m w) v old d = t.msgFill m w (partyOf p) := by
  have index : Obj.msgReg m w / 0x100 = 0x4400 + m := by unfold Obj.msgReg; omega
  have sub : Obj.msgReg m w % 0x100 = w + 1 := by unfold Obj.msgReg; omega
  simp (disch := omega) only [State.blockWrite, State.clientWrite, index, sub, Nat.add_sub_cancel, Nat.add_sub_cancel_left, if_pos, if_neg]

/-- A page of BAR4 carries the write of one register as BAR0 does (R473). -/
theorem pageWrite_one {s : State} (m : Fin 32) {w : Nat} (register : w < 16) (v : BitVec 32) (up : s.pathUp .pcie = true) :
    s.pageWrite m w [v] true false = s.submit (wrOf .pcie (Obj.msgReg m w) 4 v.toNat) := by
  have index : Obj.msgReg m w / 0x100 = 0x4400 + m := by unfold Obj.msgReg; omega
  have sub : Obj.msgReg m w % 0x100 = w + 1 := by unfold Obj.msgReg; omega
  simp [State.pageWrite, up, wrOf, index, sub, State.when, show w + 1 ≤ 16 by omega]

theorem registersWritten_one {s : State} {p : Path} (m : Fin 32) {w : Nat} {r : Row} {v' : Nat} (register : w < 16) (v : BitVec 32) (path : p ≠ .fabric)
    (takes : s.Takes (wrOf p (Obj.msgReg m w) 4 v.toNat) r v') :
    s.registersWritten p m w [v] true false = s.submit (wrOf p (Obj.msgReg m w) 4 v.toNat) := by
  cases p with
  | pcie => exact pageWrite_one m register v takes.up
  | coe => rfl
  | sideband =>
    have row : rowOf (Obj.msgReg m w) = some r := (congrArg rowOf (wrOf_key ..)).symm.trans (row_of_found takes.found)
    simp only [State.registersWritten, State.write, row, Option.map_some, Option.getD_some, size_of_msgReg m register row]
  | fabric => exact absurd rfl path

/-! Reads of the registers (R462, R473). -/

section
variable {s : State} {m : Nat}

/-- A read by the receiver that takes in the last register consumes the message. -/
theorem registersRead_consumes {p : Path} {subs : List Nat} (chan : m < 32) (last : subs.contains (s.mcWidth m) = true)
    (full : s.obj (Obj.msgState m) = mcFull) (quiet : s.mcEmptyIrq m = false) (receiver : s.obj (Obj.msgReceiver m) = partyOf p) :
    s.registersRead p (0x4400 + m) subs = s.msgConsume m := by
  have page : 0x4400 ≤ 0x4400 + m ∧ 0x4400 + m < 0x4420 ∧ subs.contains (s.mcWidth (0x4400 + m - 0x4400)) = true :=
    ⟨by omega, by omega, by rwa [Nat.add_sub_cancel_left]⟩
  have consumes : s.mcIs m mcFull = true ∧ ¬s.mcEmptyIrq m = true ∧ s.obj (Obj.msgReceiver m) = partyOf p :=
    ⟨beq_iff_eq.2 full, Bool.eq_false_iff.1 quiet, receiver⟩
  rw [State.registersRead, if_pos page, Nat.add_sub_cancel_left, State.msgReadBy, if_pos consumes]

/-- Such a read answers the bytes of the registers, on every path (R462, R473). -/
theorem consumingRead_of_ready {p : Path} {b n : Nat} (ready : s.canRead p = true) (inside : b + n ≤ 64) (whole : p = .pcie → 4 ≤ n) :
    (match p with | .pcie => s.pageRead m b n | _ => s.registersGive p m b n) =
      { s.registersRead p (0x4400 + m) (pageSubs b n) with answer := { path := p, data := ((s.pageBytes m).drop b).take n } } := by
  have data : (((s.pageBytes m).take 64).drop b).take n = ((s.pageBytes m).drop b).take n := by
    rw [List.drop_take, List.take_take, Nat.min_eq_left (by omega)]
  have given : s.registersGive p m b n =
      { s.registersRead p (0x4400 + m) (pageSubs b n) with answer := { path := p, data := ((s.pageBytes m).drop b).take n } } := by
    rw [State.registersGive, if_pos ready, data]
  cases p with
  | pcie =>
    have size : 4 ≤ n ∧ n ≤ 64 ∧ (b + n ≤ 0x50 ∨ (0x50 ≤ b ∧ b + n ≤ 0x100)) := ⟨whole rfl, by omega, .inl (by omega)⟩
    simp only [State.pageRead, pathUp_of_canRead ready, ready, Bool.not_true, Bool.false_eq_true, if_false, if_true, State.pageReadNow, if_pos size]
  | coe => exact given
  | sideband => exact given
  | fabric => exact given

/-! Time-outs, expired fills and doorbells (R461, R465, R467). -/

theorem msgTimeoutEnds_of_full (full : s.obj (Obj.msgState m) = mcFull) (limited : s.mcWaits m = false) :
    s.msgTimeoutEnds m = ((((((s.advanceTo (s.mc m).due).msgWithdraw m).msgLeaves m 0x89).setBit (Obj.msgFlags m) 0 true).bump
      (Obj.msgTimeouts m)).raise 46 (sourceWord 0 0xFF)).notify m true := if_pos ⟨beq_iff_eq.2 full, Bool.eq_false_iff.1 limited⟩

theorem fillExpires_of_filling (filling : s.obj (Obj.msgState m) = mcFilling) :
    s.fillExpires m = ((if s.partyDown (s.mc m).filler then s else s.advanceTo ((s.mc m).fillAt + 100 * msTicks)).fillDrops m).setBit
      (Obj.msgFlags m) 4 true := if_pos (beq_iff_eq.2 filling)

theorem doorbellDue_of_pending (pending : s.bit (Obj.msgFlags m) 2 = true) (full : s.obj (Obj.msgState m) = mcFull)
    (up : s.partyDown (s.obj (Obj.msgReceiver m)) = false) : s.doorbellDue m = s.doorbell m := by
  have is : s.mcIs m mcFull = true := beq_iff_eq.2 full
  simp only [State.doorbellDue, pending, is, up, Bool.not_false, Bool.and_self, if_true]

/-! MB ports (R468, R470). -/

section
variable {t : State} {q : Nat} {w : EdgeWord}

/-- A data word goes into the message that its port fills. -/
theorem mbSend_of_data (only : s.edgeOutQ (mbPort q) = [w]) (heard : (s.mb q).drop = false) (chan : (s.mb q).chan = some m)
    (enabled : s.obj (Obj.msgState m) ≠ mcDisabled) (open' : s.obj (Obj.msgState m) ≠ mcFull)
    (own : s.mcIs m mcFilling = true → (s.mc m).filler = fabricParty (s.mbCtx q) q) (taken : t = (s.advanceCyc w.ready).setEdgeOut (mbPort q) []) :
    s.mbSend q 1 = t.mbData q m w := by
  subst taken
  have notDisabled : s.mcIs m mcDisabled = false := beq_eq_false_iff_ne.2 enabled
  have notFull : s.mcIs m mcFull = false := beq_eq_false_iff_ne.2 open'
  have timely : (s.mcIs m mcFilling && (s.mc m).filler != fabricParty (s.mbCtx q) q) = false := by
    rw [Bool.and_eq_false_imp]
    exact fun filling => bne_eq_false_iff_eq.2 (own filling)
  simp only [State.mbSend, only, heard, chan, notDisabled, timely, notFull, Bool.or_self, Bool.false_eq_true, if_false]

/-- The fields of a word of an MB port: its code and its channel, and nothing else (R468). -/
theorem mbWord_fields {v op : Nat} (code : op < 16) (chan : m < 32) (word : v = op * 2 ^ 28 + m * 2 ^ 16) :
    fld 28 4 v = op ∧ fld 16 5 v = m ∧ fld 21 7 v = 0 ∧ fld 0 16 v = 0 := by
  simp only [fld, Nat.shiftRight_eq_div_pow]
  omega

/-- A header opens a fill of an EMPTY channel. -/
theorem mbSend_of_header (chan : m < 32) (only : s.edgeOutQ (mbPort q) = [w]) (heard : (s.mb q).drop = false) (free : (s.mb q).chan = none)
    (header : w.data.toNat = 1 * 2 ^ 28 + m * 2 ^ 16) (more : w.last = false) (empty : s.obj (Obj.msgState m) = mcEmpty)
    (taken : t = ((s.advanceCyc w.ready).setEdgeOut (mbPort q) []).setMb q { chan := some m }) :
    s.mbSend q 1 = t.msgFill m 0 (fabricParty (s.mbCtx q) q) := by
  subst taken
  obtain ⟨op, number, high, low⟩ := mbWord_fields (by decide) chan header
  have isEmpty : s.mcIs m mcEmpty = true := beq_iff_eq.2 empty
  have notDisabled : s.mcIs m mcDisabled = false := by rw [State.mcIs, empty]; rfl
  simp [State.mbSend, only, heard, free, op, number, high, low, more, isEmpty, notDisabled]

/-- A RELEASE word consumes the message that its party may release (R463). -/
theorem mbRelease_of_word {l : List EdgeWord} (chan : m < 32) (front : s.edgeOutQ (mbPort q) = w :: l) (heard : (s.mb q).drop = false)
    (free : (s.mb q).chan = none) (header : w.data.toNat = 2 * 2 ^ 28 + m * 2 ^ 16) (last : w.last = true)
    (taken : t = (s.advanceCyc w.ready).setEdgeOut (mbPort q) l) (admitted : t.msgReleaseRefused m (fabricParty (t.mbCtx q) q) = none) :
    s.mbRelease q = t.msgConsume m := by
  subst taken
  obtain ⟨op, number, high, low⟩ := mbWord_fields (by decide) chan header
  unfold State.mbRelease
  simp [front, heard, free, op, number, high, low, last, admitted]

end

end

/-- Settles O35 (log entries 25 and 173 for the pages of BAR4, 80 for the words of an MB port, 6 for the time of an event). -/
theorem messageEventsComplete : Obligations.MessageEventsComplete := by
  rintro s a m rfl
  refine ⟨?written, ?consumed, ?timeout, ?abandoned, ?down, ?doorbell, ?data, ?header, ?release⟩
  case written =>
    rintro p w v r x path register rfl takes
    refine run_next ((registersWritten_one m register v path takes).trans ((submit_takes takes).trans (accept_eq _ _ _ _ _ fun t old => ?_)))
    rw [wrOf_key]
    exact blockWrite_msgReg t _ m register _ _ _
  case consumed =>
    rintro p b n t ready full quiet receiver inside last whole rfl
    refine run_next ((consumingRead_of_ready ready inside whole).trans ?_)
    rw [registersRead_consumes m.isLt last full quiet receiver]
    rfl
  case timeout =>
    intro awake full limited
    exact runAwake_next awake (msgTimeoutEnds_of_full full limited)
  case abandoned =>
    intro awake filling up
    refine runAwake_next awake ((fillExpires_of_filling filling).trans ?_)
    rw [if_neg (Bool.eq_false_iff.1 up)]
  case down =>
    intro awake filling down
    refine runAwake_next awake ((fillExpires_of_filling filling).trans ?_)
    rw [if_pos down]
  case doorbell =>
    intro awake pending full up
    exact runAwake_next awake (doorbellDue_of_pending pending full up)
  case data =>
    intro q w t clocked free only heard chan enabled open' own taken
    refine runClocked_next clocked ((if_pos (by rw [free]; rfl)).trans ?_)
    rw [only]
    exact mbSend_of_data only heard chan enabled open' own taken
  case header =>
    intro q w t clocked free only heard chan header more empty _ taken
    refine runClocked_next clocked ((if_pos (by rw [free]; rfl)).trans ?_)
    rw [only]
    exact mbSend_of_header m.isLt only heard chan (header.trans (by rw [Nat.one_mul])) more empty taken
  case release =>
    intro q w l t clocked free front heard chan header last taken admitted
    exact runClocked_next clocked ((if_pos (by rw [free]; rfl)).trans (mbRelease_of_word m.isLt front heard chan header last taken admitted))

end Sys2Proof.Machine
end

section
/-! PROOFS. The PCI Express port (R480 to R492, R513, R515, R632): TLPs to the host queues, the commands of a page, resets and errors of the function, its
link, its configuration space and its vectors. -/

namespace Sys2Proof.Machine

/-- A write that the port takes is accepted with what its object's own rule does to the block (R58 to R62). -/
theorem write_accepting {s : State} {p : Path} {k v0 v : Nat} {x r : Row} {f : Nat → State → State} (row : rowOf k = some x)
    (takes : s.Takes (wrOf p k x.ty.size v0) r v)
    (rule : ∀ (t : State) (old : Nat), t.blockWrite p k v old (leBytes x.ty.size v0) = f old t) :
    s.write p k v0 = s.accepting (wrOf p k x.ty.size v0) r v f := by
  refine (write_takes row takes).trans (accept_eq _ _ _ _ _ fun t old => ?_)
  rw [wrOf_key]
  exact rule t old

section
variable {s : State}

/-! TLPs to BAR2 (R483, R484, R486, R491). -/

section
variable (linked : s.bit Obj.pcieLink 9 = true) (off : BitVec 36)
include linked

theorem bar2Write_of_ok {data : List Byte} (enables : Nat) (relaxed : Bool) (ok : tlpOk off.toNat data.length 512 = true) :
    s.bar2Write off.toNat data enables relaxed false = s.hostArrive (off.toNat / 2 ^ 34) (.write off.toNat data enables relaxed false) := by
  simp only [State.bar2Write, linked, ok, Bool.not_true, Bool.false_eq_true, if_false, if_neg (Nat.not_le.2 off.isLt)]

theorem bar2Write_of_poisoned {data : List Byte} (enables : Nat) (relaxed : Bool) (ok : tlpOk off.toNat data.length 512 = true) :
    s.bar2Write off.toNat data enables relaxed true =
      s.poisonedTlp.hostArrive (off.toNat / 2 ^ 34) (.write off.toNat data enables relaxed true) := by
  simp only [State.bar2Write, linked, ok, Bool.not_true, Bool.false_eq_true, if_false, if_true, if_neg (Nat.not_le.2 off.isLt)]

theorem bar2Read_of_ok {len : Nat} (ok : tlpOk off.toNat len 4096 = true) :
    s.bar2Read off.toNat len = s.hostArrive (off.toNat / 2 ^ 34) (.read off.toNat len) := by
  simp only [State.bar2Read, linked, ok, Bool.not_true, Bool.false_eq_true, if_false, if_neg (Nat.not_le.2 off.isLt)]

end

/-! The commands of a page (R488). -/

theorem hq_modHq_self (s : State) (q : Nat) (f : HostQueue → HostQueue) : (s.modHq q f).hq q = f (s.hq q) := mapGet_mapSet_self ..

/-- A command enters its queue when the page does not wait for another. -/
theorem hostCommandTlp_of_free {q op : Nat} (addr range lease : Nat) (linked : s.bit Obj.pcieLink 9 = true) (free : (s.hq q).waiting = false)
    (known : 4 ≤ op ∧ op ≤ 6) :
    s.hostCommandTlp q op addr range lease = ((s.modHq q fun h => { h with addr := addr - addr % 64, range := range, lease := lease }).modHq q fun h =>
      { h with waiting := true }).hostArrive q (.command op (addr - addr % 64) range lease) := by
  have taken : ¬(op < 4 ∨ 6 < op ∨
      ((s.modHq q fun h => { h with addr := addr - addr % 64, range := range, lease := lease }).hq q).waiting = true) := by
    rw [hq_modHq_self]
    simp only [free, Bool.false_eq_true, or_false]
    omega
  simp only [State.hostCommandTlp, linked, Bool.not_true, Bool.false_eq_true, if_false, State.pageCommand, if_neg taken]

theorem mergeExpiry_of_open {q : Nat} {o : HostOpen} (opened : (s.hq q).openLine = some o) : s.mergeExpiry q = (s.advanceCyc o.due).closeHostLine q := by
  simp only [State.mergeExpiry, opened]

/-! Resets and errors of the function (R491, R492). -/

theorem functionResets_of_linked (why : Nat) (linked : s.bit Obj.pcieLink 9 = true) : s.functionResets why = s.pcieReset why := by
  simp only [State.functionResets, linked, Bool.not_true, Bool.and_false, Bool.false_eq_true, if_false]

theorem linkError_of_linked (e : PcieErr) (linked : s.bit Obj.pcieLink 9 = true) :
    s.linkError e = if e = .poisoned then s.poisonedTlp else s.pcieError (aerBit e) := by
  simp only [State.linkError, linked, Bool.not_true, Bool.false_eq_true, if_false]

/-! The link, configuration space and the vectors (R480, R490, R513, R515). -/

theorem pcieLinkUp_of_ready {t : State} (speed : Nat) (width : Fin 17) (released : s.pcie.perst = false) (locked : s.bit Obj.clockStatus 2 = true)
    (acts : t = s.dropShadows fun h => h.bound == .linkRetrain && blockOf h.key == 8) :
    s.pcieLinkUp speed width = (t.setObj Obj.pcieLink (max 1 (min speed (t.obj Obj.pcieMaxSpeed)) + width * 16 + 512)).flushMsix := by
  subst acts
  have fits : width.val % 32 = width := Nat.mod_eq_of_lt (by omega)
  simp only [State.pcieLinkUp, released, locked, Bool.not_true, Bool.or_self, Bool.false_eq_true, if_false, fits]

theorem configRequest_of_ready {d3 bme enable mask : Bool} {severity : Nat} {t : State} (linked : s.bit Obj.pcieLink 9 = true)
    (ready : s.obj Obj.runPhase ≠ 1 ∨ s.pcie.crsUntil ≤ s.now)
    (set : t = s.modPcie fun x => { x with dState := if d3 then 3 else 0, bme := bme, msixEnable := enable, msixFnMask := mask, severity := severity }) :
    s.configRequest d3 bme enable mask severity = ({ t with answer := { path := .pcie, data := t.configIdentity } }).flushMsix := by
  subst set
  have past : ¬(s.obj Obj.runPhase = 1 ∧ s.now < s.pcie.crsUntil) := fun boot => ready.elim (· boot.1) (Nat.not_le.2 boot.2)
  simp only [State.configRequest, linked, Bool.not_true, Bool.false_eq_true, if_false, if_neg past]

theorem configRequest_of_boot {d3 bme enable mask : Bool} {severity : Nat} (linked : s.bit Obj.pcieLink 9 = true) (boot : s.obj Obj.runPhase = 1)
    (early : s.now < s.pcie.crsUntil) :
    s.configRequest d3 bme enable mask severity = { s with answer := { path := .pcie, reason := 0xFF } } := by
  unfold State.configRequest
  refine (if_neg ?_).trans (if_pos ⟨boot, early⟩)
  rw [linked]
  exact Bool.false_ne_true

theorem pcieRetrains_of_linked {t : State} (speed : Nat) (done : t = s.cmdDone Obj.pcieRetrain) (linked : t.bit Obj.pcieLink 9 = true) :
    s.pcieRetrains speed = (t.pcieLinkUp speed (fld 4 5 (t.obj Obj.pcieLink))).bump Obj.pcieRetrains := by
  subst done
  simp only [State.pcieRetrains, if_pos linked]

theorem retrainCommand_of_running {p : Path} {t : State} (speed : Nat) (written : s.write p Obj.pcieRetrain 1 = t)
    (running : t.obj Obj.pcieRetrain = 1) : s.retrainCommand p speed = t.pcieRetrains speed := by
  simp only [State.retrainCommand, written, if_pos running]

end

/-- Settles O36 (log entries 84 and 85 for AER, the resets and PCIE_RETRAIN, 174 for the address of a command, 6 for the time of an event). -/
theorem hostPortEventsComplete : Obligations.HostPortEventsComplete := by
  rintro s a rfl
  refine ⟨?write, ?poisoned, ?read, ?merge, ?fence, ?lock, ?unlock, ?flr, ?hotReset, ?linkDown, ?perst, ?error, ?released, ?linkUp, ?config, ?retry,
    ?mask, ?retrain⟩
  case write =>
    rintro off data enables relaxed t awake opened rfl linked ok
    exact runIngress_next (f := fun y => y.bar2Write off.toNat data enables relaxed false) awake opened
      (bar2Write_of_ok linked off enables relaxed ok)
  case poisoned =>
    rintro off data enables relaxed t awake opened rfl linked ok
    exact runIngress_next (f := fun y => y.bar2Write off.toNat data enables relaxed true) awake opened
      (bar2Write_of_poisoned linked off enables relaxed ok)
  case read =>
    rintro off len t awake opened rfl linked ok
    exact runIngress_next (f := fun y => y.bar2Read off.toNat len) awake opened (bar2Read_of_ok linked off ok)
  case merge =>
    intro q o clocked opened
    exact runClocked_next clocked (mergeExpiry_of_open opened)
  case fence =>
    rintro q t x l awake opened rfl linked free rfl rfl
    exact runIngress_next (f := fun y => y.hostCommandTlp q 4 (y.hq q).addr (y.hq q).range (y.hq q).lease) awake opened
      (hostCommandTlp_of_free _ _ _ linked free (by decide))
  case lock =>
    rintro q addr range lease t l awake opened rfl linked free rfl
    exact runIngress_next (f := fun y => y.hostCommandTlp q 5 addr.toNat range.toNat lease.toNat) awake opened
      (hostCommandTlp_of_free _ _ _ linked free (by decide))
  case unlock =>
    rintro q addr t x l awake opened rfl linked free rfl rfl
    exact runIngress_next (f := fun y => y.hostCommandTlp q 6 addr.toNat (y.hq q).range (y.hq q).lease) awake opened
      (hostCommandTlp_of_free _ _ _ linked free (by decide))
  case flr =>
    intro linked
    exact run_next (functionResets_of_linked 0 linked)
  case hotReset =>
    intro linked
    exact run_next (functionResets_of_linked 1 linked)
  case linkDown =>
    intro linked
    refine run_next ((functionResets_of_linked 2 linked).trans ?_)
    simp only [State.pcieReset, linked]
    rfl
  case perst =>
    refine run_next (f := fun y => y.functionResets 3) ?_
    simp [State.functionResets, State.pcieReset]
  case error =>
    intro e awake linked
    exact runAwake_next (f := fun y => y.linkError e) awake (linkError_of_linked e linked)
  case released =>
    intro held
    exact run_next (if_pos held)
  case linkUp =>
    intro speed width t awake down released locked known acts
    refine runAwake_next (f := fun y => if y.bit Obj.pcieLink 9 || !linkWidths.contains width.val then y else y.pcieLinkUp speed width) awake
      ((if_neg ?_).trans (pcieLinkUp_of_ready speed width released locked acts))
    rw [down, known]
    exact Bool.false_ne_true
  case config =>
    intro d3 bme enable mask severity t awake linked ready set
    exact runAwake_next (f := fun y => y.configRequest d3 bme enable mask severity.toNat) awake (configRequest_of_ready linked ready set)
  case retry =>
    intro d3 bme enable mask severity awake linked boot early
    exact runAwake_next (f := fun y => y.configRequest d3 bme enable mask severity.toNat) awake (configRequest_of_boot linked boot early)
  case mask =>
    intro vector masked awake linked
    exact runAwake_next (f := fun y => if y.bit Obj.pcieLink 9 then y.maskVector vector masked else y) awake (if_pos linked)
  case retrain =>
    rintro p speed x r w t u row rfl takes rfl running done linked
    have written := write_accepting (f := fun _ y => if y.bit Obj.pcieLink 9 then y.setObj Obj.pcieRetrain 1
      else (y.bump Obj.pcieRetrains).cmdDone Obj.pcieRetrain) row takes fun _ _ => rfl
    exact run_next (f := fun y => y.retrainCommand p speed) ((retrainCommand_of_running speed written running).trans
      (pcieRetrains_of_linked speed done linked))

end Sys2Proof.Machine
end

section
/-! PROOFS. The EtherCAT slave (R493 to R500, R509, R510, R531): AL states, SDO, the SM3 buffer and its watchdog, files and the E-Bus links. -/

namespace Sys2Proof.Machine

section
variable {s t : State}

/-! AL states (R495, R513). -/

theorem alRequest_of_allowed {new : Nat} {m : MasterSet} (run : s.obj Obj.runPhase ≠ 1) (set : t = s.modEct fun e => { e with set := m })
    (allowed : t.alRefusal new = 0) (other : new ≠ 1) :
    s.alRequest new m =
      ((((t.setObj Obj.ectAlStatusCode 0).modEct fun e => { e with errInd := false }).setObj Obj.ectAlState new).pdRestart).sendEmcy := by
  subst set
  have phase : (s.modEct fun e => { e with set := m }).obj Obj.runPhase ≠ 1 := run
  simp only [State.alRequest, if_neg phase, State.alChange, allowed, ne_eq, not_true_eq_false, if_false, if_neg other]

theorem alRequest_of_refused {new : Nat} {m : MasterSet} (run : s.obj Obj.runPhase ≠ 1) (set : t = s.modEct fun e => { e with set := m })
    (refused : t.alRefusal new ≠ 0) :
    s.alRequest new m = (t.setObj Obj.ectAlStatusCode (t.alRefusal new)).modEct fun e => { e with errInd := true } := by
  subst set
  have phase : (s.modEct fun e => { e with set := m }).obj Obj.runPhase ≠ 1 := run
  simp only [State.alRequest, if_neg phase, State.alChange, if_pos refused]

theorem alRequest_of_boot {new : Nat} {m : MasterSet} (boot : s.obj Obj.runPhase = 1) :
    s.alRequest new m = (s.modEct fun e => { e with set := m }).modEct fun e => { e with heldRequest := some new } := if_pos boot

/-! SDO (R496). -/

theorem sdoDownload_last {ix : Nat} (parts : List (Nat × List Byte)) (up : s.pathUp .coe = true) :
    s.sdoDownload ix parts true = ((s.setTransfer none).submitGroup ((mergeParts (s.stagedParts ix) parts).map fun x =>
      ({ path := .coe, index := ix, sub := x.1, data := x.2, aligned := true, poisoned := false, form := .slot } : Wr))).pumpHosts := by
  simp only [State.sdoDownload, up, Bool.not_true, Bool.false_eq_true, if_false, if_true]

theorem sdoDownload_more {ix : Nat} (parts : List (Nat × List Byte)) (up : s.pathUp .coe = true) :
    s.sdoDownload ix parts false =
      (s.setTransfer (some { kind := 0, key := ix, parts := mergeParts (s.stagedParts ix) parts })).coeAnswers [] := by
  simp only [State.sdoDownload, up, Bool.not_true, Bool.false_eq_true, if_false]

theorem sdoUpload_of_allowed {ix sb : Nat} {complete : Bool} (up : s.canRead .coe = true)
    (allowed : ∀ b ∈ s.uploadSubs ix sb complete, s.readRefused .coe ix b 0 true = none) :
    s.sdoUpload ix sb complete = (s.registersRead .coe ix (s.uploadSubs ix sb complete)).coeAnswers
      ((s.uploadSubs ix sb complete).flatMap fun b => s.uploadBytes ix b complete) := by
  have none : (s.uploadSubs ix sb complete).findSome? (fun b => (s.readRefused .coe ix b 0 true).map fun e => (b, e)) = none :=
    List.findSome?_eq_none_iff.2 fun b of => by rw [allowed b of]; rfl
  simp only [State.sdoUpload, up, Bool.not_true, Bool.false_eq_true, if_false, none]

theorem sdoInfo_list (ix sb : Nat) (up : s.canRead .coe = true) :
    s.sdoInfo 0 ix sb = s.coeAnswers (((List.range 0x6000).filter fun x => s.indexOn .coe x).flatMap (leBytes 2)) := by
  simp only [State.sdoInfo, up, Bool.not_true, Bool.false_eq_true, if_false, if_true]

theorem sdoInfo_entry {ix sb : Nat} {r : Row} (up : s.canRead .coe = true) (found : s.look .coe ix sb = .found r) :
    s.sdoInfo 2 ix sb = s.coeAnswers (leBytes 2 ix ++ leBytes 1 sb ++ leBytes 2 r.ty.code ++
      leBytes 2 (8 * (s.readBytes r (ix * 0x100 + sb)).length) ++ leBytes 2 r.acc.rights) := by
  have other : ¬((2 : Nat) = 0) ∧ ¬((2 : Nat) = 1) := by decide
  simp only [State.sdoInfo, up, Bool.not_true, Bool.false_eq_true, if_false, other, found]

/-! The SM3 buffer (R497, R510). -/

theorem pdoSample_of_running (taken : Bool) (runs : s.obj Obj.ectAlState = 4 ∨ s.obj Obj.ectAlState = 8)
    (sampled : t = s.modEct fun e => { e with pdo := s.pdoBytes }) :
    s.pdoSample taken = if taken || t.obj (Obj.sm3Parameters 1) != 2 then t.pdRestart else t := by
  subst sampled
  refine if_neg fun stopped => ?_
  exact runs.elim stopped.1 stopped.2

theorem pdExpires_of_op (on : s.ect.set.pdWatchdogUs ≠ 0) (state : s.obj Obj.ectAlState = 8)
    (bitten : t = (((s.advanceTo s.ect.pdDue).pdRestart).bump Obj.ectWatchdogBites).raise 48 (sourceWord 0 0xFF)) :
    s.pdExpires = ((t.setObj Obj.ectAlState 4).setObj Obj.ectAlStatusCode 0x1B).modEct fun e => { e with errInd := true } := by
  subst bitten
  have running : ¬(s.ect.set.pdWatchdogUs = 0 ∨ (8 ≠ 4 ∧ 8 ≠ 8)) := fun off => off.elim on fun x => x.2 rfl
  simp only [State.pdExpires, state, if_neg running, if_true]

theorem pdExpires_of_safeOp (on : s.ect.set.pdWatchdogUs ≠ 0) (state : s.obj Obj.ectAlState = 4) :
    s.pdExpires = (((s.advanceTo s.ect.pdDue).pdRestart).bump Obj.ectWatchdogBites).raise 48 (sourceWord 0 0xFF) := by
  have running : ¬(s.ect.set.pdWatchdogUs = 0 ∨ (4 ≠ 4 ∧ 4 ≠ 8)) := fun off => off.elim on fun x => x.1 rfl
  have other : ¬((4 : Nat) = 8) := by decide
  simp only [State.pdExpires, state, if_neg running, if_neg other]

/-! Files (R431, R499, R531). -/

/-- The last part of a file of the fabric begins the load when the file fits and IMAGE_CMD would be taken. -/
theorem foeFabric_last {i password : Nat} {data file : List Byte} (up : s.foeUp = true) (granted : s.foeRefused password = none)
    (joined : file = s.stagedFile (1 + i) 0 ++ data) (fits : file.length ≤ 98304)
    (loads : (s.setObj Obj.imageSource 0).loadRefused i = none) :
    s.foeFabric i password data true = (({ (s.putDom Obj.imageStaging file).renewLease with
      imageJob := some { ctx := i, bytes := file } }).setObj Obj.imageCmd 1).setTransfer (some { kind := 1 + i, key := 1 }) := by
  subst joined
  simp only [State.foeFabric, up, granted, if_neg (Nat.not_lt.2 fits), loads, Bool.not_true, Bool.false_eq_true, if_false, Option.isSome_none]

/-- The last part of a user entry's file begins its writing when the store takes it. -/
theorem foeArea_last {n password : Nat} {data file : List Byte} (known : n < 100) (up : s.foeUp = true) (granted : s.foeRefused password = none)
    (joined : file = s.stagedFile 3 n ++ data) (small : file.length ≤ 98304) (free : s.nvsRefused false = none)
    (fits : s.areaFits file.length = true) (early : (s.pastA0 && s.entryForbids Obj.areaWrite n) = false) :
    s.foeArea n password data true = (((s.areaBegin Obj.areaWrite n file).renewLease).setTransfer none).coeAnswers [] := by
  subst joined
  simp only [State.foeArea, up, if_neg (Nat.not_le.2 known), granted, if_neg (Nat.not_lt.2 small), free, fits, early, Bool.not_true, Bool.false_eq_true,
    if_false, Option.isSome_none, Bool.or_self]

theorem foeFirmware_last {data : List Byte} (up : s.foeUp = true) (boot : s.obj Obj.ectAlState = 3) :
    s.foeFirmware 0 data true true = ((s.setTransfer none).placeFirmware).coeAnswers [] := by
  simp only [State.foeFirmware, up, boot, ne_eq, not_true_eq_false, Bool.not_true, Bool.false_eq_true, if_false]

end

/-- Settles O37 (log entry 86 for the AL states, 87 for the layouts of answers, 88 for files, 90 for a request over BOOT, 6 for the time of the
watchdog). -/
theorem fieldbusEventsComplete : Obligations.FieldbusEventsComplete := by
  rintro s a rfl
  refine ⟨?allowed, ?refused, ?boot, ?download, ?segment, ?upload, ?list, ?entry, ?mailbox, ?sample, ?fg, ?bg, ?area, ?firmware, ?op, ?safeOp, ?link⟩
  case allowed =>
    intro new m t awake run set allowed other
    exact runAwake_next (f := fun y => y.alRequest new m) awake (alRequest_of_allowed run set allowed other)
  case refused =>
    intro new m t awake run set refused
    exact runAwake_next (f := fun y => y.alRequest new m) awake (alRequest_of_refused run set refused)
  case boot =>
    intro new m awake boot
    exact runAwake_next (f := fun y => y.alRequest new m) awake (alRequest_of_boot boot)
  case download =>
    rintro index parts l up rfl
    exact run_next (f := fun y => y.sdoDownload index parts true) (sdoDownload_last parts up)
  case segment =>
    intro index parts up
    exact run_next (f := fun y => y.sdoDownload index parts false) (sdoDownload_more parts up)
  case upload =>
    rintro index sub complete subs up rfl allowed
    exact run_next (f := fun y => y.sdoUpload index sub complete) (sdoUpload_of_allowed up allowed)
  case list =>
    intro index sub up
    exact run_next (f := fun y => y.sdoInfo 0 index sub) (sdoInfo_list index sub up)
  case entry =>
    intro index sub r up found
    exact run_next (f := fun y => y.sdoInfo 2 index sub) (sdoInfo_entry up found)
  case mailbox =>
    intro awake up
    exact runAwake_next (f := fun y => y.mailboxError) awake (if_neg up)
  case sample =>
    intro taken t awake runs sampled
    exact runAwake_next (f := fun y => y.pdoSample taken) awake (pdoSample_of_running taken runs sampled)
  case fg =>
    intro password data up granted fits loads
    exact run_next (f := fun y => y.foeFabric 0 password.toNat data true) (foeFabric_last up granted rfl fits loads)
  case bg =>
    intro password data up granted fits loads
    exact run_next (f := fun y => y.foeFabric 1 password.toNat data true) (foeFabric_last up granted rfl fits loads)
  case area =>
    intro n password data file known up granted joined small free fits early
    exact run_next (f := fun y => y.foeArea n password.toNat data true) (foeArea_last known up granted joined small free fits early)
  case firmware =>
    rintro password data up boot rfl
    exact run_next (f := fun y => y.foeFirmware 0 data true true) (foeFirmware_last up boot)
  case op =>
    intro t awake on state bitten
    exact runAwake_next (f := fun y => y.pdExpires) awake (pdExpires_of_op on state bitten)
  case safeOp =>
    intro awake on state
    exact runAwake_next (f := fun y => y.pdExpires) awake (pdExpires_of_safeOp on state)
  case link =>
    rintro port up t u rfl rfl
    exact run_next (f := fun y => y.ebusLink port up) rfl

end Sys2Proof.Machine
end

section
/-! PROOFS. The sideband target (R501 to R505): why its bytes are not staged while the management core restarts (R91). -/

namespace Sys2Proof.Machine

/-- After reset, with the management core down (line 49). -/
def State.coreDown : State := State.reset.setBit Obj.live 49 true

/-- A WRITE of bytes does nothing while the management core is down (R91). -/
theorem sbWrites_of_coreDown {s : State} {ix sb : Nat} {r : Row} (off : Nat) (data : List Byte) (found : s.look .sideband ix sb = .found r)
    (bytes : r.bytes = true) (down : s.mgUp = false) : s.sbWrites ix sb off data = s := by
  simp only [State.sbWrites, found, bytes, down, Bool.not_true, Bool.not_false, Bool.false_eq_true, if_false, if_true]

/-- A lookup finds a string or domain. -/
def Look.findsBytes : Look → Bool
  | .gone _ => false
  | .found r => r.bytes

theorem Look.found_of_findsBytes {l : Look} (finds : l.findsBytes = true) : ∃ r, l = .found r ∧ r.bytes = true := by
  cases l with
  | gone e => exact absurd finds Bool.false_ne_true
  | found r => exact ⟨r, rfl, finds⟩

/-- A transfer of one byte with a PEC byte that fits is the WRITE of that byte. -/
theorem sbTransfer_of_byte {s : State} {ix sb off : Nat} {b : Byte} (up : s.reachable = true) :
    s.sbTransfer 0x10 ix sb off 1 [b] (some true) = (s.bump Obj.sbTransfers).sbWrites ix sb off [b] := by
  simp [State.sbTransfer, up]

/-- One byte of the string 0x4850:05 is sent while the core is down: the command leaves no byte in the staging buffer. -/
theorem sbWrite_coreDown {r : Row} (found : (State.coreDown.bump Obj.sbTransfers).look .sideband 0x4850 5 = .found r) (bytes : r.bytes = true) :
    exec (.sbWrite 0x10 0x4850 5 0 1 [7#8] (some true)) State.coreDown = .next (State.coreDown.ends (State.coreDown.bump Obj.sbTransfers)) := by
  have up : State.coreDown.reachable = true := by decide +kernel
  have down : (State.coreDown.bump Obj.sbTransfers).mgUp = false := by decide +kernel
  exact run_next (f := fun y => y.sbTransfer 0x10 0x4850 5 0 1 [7#8] (some true))
    ((sbTransfer_of_byte up).trans (sbWrites_of_coreDown 0 [7#8] found bytes down))

/-- Refutes O38 (log entry 89): bytes of a string or domain are staged by the management core (R91), and the clause that stages them does not ask
that it runs; with line 49 live the transfer is counted and no byte is staged. -/
theorem not_sidebandTransfersComplete : ¬ Obligations.SidebandTransfersComplete := by
  intro claim
  obtain ⟨-, staged, -⟩ := claim State.coreDown State.coreDown rfl (by decide +kernel)
  have finds : ((State.coreDown.bump Obj.sbTransfers).look .sideband 0x4850 5).findsBytes = true := by decide +kernel
  obtain ⟨r, found, bytes⟩ := Look.found_of_findsBytes finds
  have taken := staged 0x4850 5 0 [7#8] _ r (by decide) (by decide) rfl found bytes (by decide)
  have same := congrArg (fun t : State => t.sb.staging.length) (Host.Outcome.next.inj ((sbWrite_coreDown found bytes).symm.trans taken))
  exact absurd same (by decide +kernel)

end Sys2Proof.Machine
end

section
/-! PROOFS. The settings store (R528, R532), error lines (R544, R545), the die's temperature (R546, R693) and the management core (R507, R547). -/

namespace Sys2Proof.Machine

section
variable {s t : State}

/-! The end of the settings store's operation (R528, R532). -/

section
variable {us : Nat} {o : NvsOp} (running : s.nvs.op = some o) (time : t = s.advanceTo (o.started + min us o.mostUs * usTicks))
include running time

theorem nvsOperationDone_of_slot {n : Nat} {x : NvsSlot} (ok ok2 : Bool) (bad bad2 : List Nat) (noEntry : o.entry = none) (noBank : o.bank = none)
    (slot : o.slot = some (n, x)) : s.nvsOperationDone us true ok ok2 bad bad2 = t.slotTries o x [ok, ok2] (some n) := by
  subst time
  simp only [State.nvsOperationDone, running, noEntry, noBank, slot, Option.isSome_none, Bool.false_and, Bool.false_eq_true, if_false]

theorem nvsOperationDone_of_bankFails {b : Nat × NvsBank} (ok ok2 : Bool) (bad bad2 : List Nat) (noEntry : o.entry = none) (bank : o.bank = some b) :
    s.nvsOperationDone us false ok ok2 bad bad2 = (t.spoilPages ((bad.filter fun p => decide (p < 18)).map (18 * b.1 + ·))).nvsFails o := by
  subst time
  simp only [State.nvsOperationDone, running, noEntry, bank, Option.isSome_some, Bool.not_false, Bool.and_self, if_true, Option.map_some,
    Option.getD_some]

theorem nvsOperationDone_of_entry {e : NvsEntry} (bankOk ok ok2 : Bool) (bad bad2 : List Nat) (entry : o.entry = some e) :
    s.nvsOperationDone us bankOk ok ok2 bad bad2 = t.entryTries o e [bad, bad2] := by
  subst time
  simp only [State.nvsOperationDone, running, entry]

end

/-! Error lines and the die's temperature (R544 to R546, R693). -/

theorem lineRaised_of_awake (line inst bit : Nat) (awake : s.awake = true) : s.lineRaised line inst bit = s.raise line (sourceWord inst bit) := by
  simp only [State.lineRaised, awake, Bool.true_or, if_true]

/-- A temperature that neither reaches its threshold nor stays within its hysteresis of 5 degrees. -/
theorem below_hysteresis {thr temp : Int} (holding : Bool) (cool : temp ≤ thr - 50) :
    (decide (thr ≤ temp) || (holding && decide (thr - 50 < temp))) = false := by
  rw [decide_eq_false (by omega), decide_eq_false (by omega), Bool.and_false, Bool.or_self]

section
variable {temp : Int} (time : t = (s.advanceTo ((s.now / (10 * usTicks) + 1) * (10 * usTicks))).setObj Obj.dieTemp (ofInt 16 temp))
include time

theorem dieSample_of_hot {u : State} (highest : toInt 16 (t.obj Obj.maxDieTemp) < temp) (limit : 1100 ≤ temp)
    (kept : u = t.setObj Obj.maxDieTemp (ofInt 16 temp)) (warm : 10 * (u.obj Obj.thermWarn : Int) ≤ temp) :
    s.dieSample temp = (u.setCause 42 0 (sourceWord 0xFF 0xFF) true).setCause 43 0 (sourceWord 0 0xFF) true := by
  subst time kept
  simp only [State.dieSample, if_pos highest, decide_eq_true warm, decide_eq_true limit, Bool.true_or]

theorem dieSample_of_cool (lower : temp ≤ toInt 16 (t.obj Obj.maxDieTemp)) (limit : temp ≤ 1050)
    (cool : temp ≤ 10 * (t.obj Obj.thermWarn : Int) - 50) :
    s.dieSample temp = (t.setCause 42 0 (sourceWord 0xFF 0xFF) false).setCause 43 0 (sourceWord 0 0xFF) false := by
  subst time
  simp only [State.dieSample, if_neg (Int.not_lt.2 lower), below_hysteresis _ cool, below_hysteresis (thr := 1100) _ limit]

end

/-! The management core (R507, R547). -/

theorem mgRestarts_of_down (down : s.mgUp = false) : s.mgRestarts = (s.endCause 49 0).sendEmcy := by
  simp only [State.mgRestarts, down, Bool.false_eq_true, if_false]

theorem heartbeat_of_up (time : t = s.advanceTo ((s.now / (500 * msTicks) + 1) * (500 * msTicks))) (up : t.mgUp = true) :
    s.heartbeat = t.setBit Obj.bcnNow 6 (!t.bit Obj.bcnNow 6) := by
  subst time
  exact if_pos up

end

/-- Settles O39 (log entries 92 and 93 for how a store ends, 122 for the raise of a line, 129 for the bounds of the operands, 6 for the time of an event). -/
theorem settingsAndFaultEventsComplete : Obligations.SettingsAndFaultEventsComplete := by
  rintro s a rfl
  refine ⟨?slot, ?bank, ?entry, ?line, ?hot, ?cool, ?watchdog, ?restart, ?heartbeat⟩
  case slot =>
    intro us ok ok2 bad bad2 o x t running noEntry noBank slot time
    exact run_next (f := fun y => y.nvsOperationDone us true ok ok2 bad bad2)
      (nvsOperationDone_of_slot running time ok ok2 bad bad2 noEntry noBank slot)
  case bank =>
    intro us ok ok2 bad bad2 o b t running noEntry bank time
    exact run_next (f := fun y => y.nvsOperationDone us false ok ok2 bad bad2)
      (nvsOperationDone_of_bankFails running time ok ok2 bad bad2 noEntry bank)
  case entry =>
    intro us bankOk ok ok2 bad bad2 o e t running entry time
    exact run_next (f := fun y => y.nvsOperationDone us bankOk ok ok2 bad bad2) (nvsOperationDone_of_entry running time bankOk ok ok2 bad bad2 entry)
  case line =>
    intro line inst bit awake
    exact run_next (f := fun y => y.lineRaised line inst bit) (lineRaised_of_awake line inst bit awake)
  case hot =>
    intro temp t u awake time highest limit kept warm
    exact runAwake_next (f := fun y => y.dieSample temp) awake (dieSample_of_hot time highest limit kept warm)
  case cool =>
    intro temp t awake time lower limit cool
    exact runAwake_next (f := fun y => y.dieSample temp) awake (dieSample_of_cool time lower limit cool)
  case watchdog =>
    intro awake
    exact runAwake_next (f := fun y => y.mgBites) awake rfl
  case restart =>
    intro awake down
    exact runAwake_next (f := fun y => y.mgRestarts) awake (mgRestarts_of_down down)
  case heartbeat =>
    intro t awake time up
    exact runAwake_next (f := fun y => y.heartbeat) awake (heartbeat_of_up time up)

end Sys2Proof.Machine
end

section
/-! PROOFS. The close of an episode (R552): PREV_EPISODE takes the record of EPISODE, and the write of FTW that clears its last bit closes it. -/

namespace Sys2Proof.Machine

section
variable {s : State}

/-- An emergency counts in ECT_EMCY_SENT or ECT_EMCY_LOST, and changes no other object. -/
theorem obj_emcy (code : Nat) (data : List Byte) {j : Nat} (sent : j ≠ Obj.ectEmcySent) (lost : j ≠ Obj.ectEmcyLost) :
    (s.emcy code data).obj j = s.obj j := by
  unfold State.emcy State.sendEmcy
  split_ifs
  · rw [obj_addTo, if_neg sent]; rfl
  · rfl
  · rw [obj_bump, if_neg lost]

/-! The copy of the record. -/

/-- An object of EPISODE is copied to PREV_EPISODE, the next index. -/
def State.copyUp (k : Nat) (t : State) : State := t.setObj (k + 0x100) (t.obj k)

theorem obj_copies_of_kept {l : List Nat} {j : Nat} (kept : ∀ k ∈ l, j ≠ k + 0x100) : (s.each l State.copyUp).obj j = s.obj j := by
  induction l generalizing s with
  | nil => rfl
  | cons k l ih =>
    rw [List.forall_mem_cons] at kept
    exact (ih kept.2).trans (obj_setObj_ne _ _ kept.1)

theorem obj_copies_of_copied {l : List Nat} (apart : ∀ a ∈ l, ∀ k ∈ l, a ≠ k + 0x100) {k : Nat} (copied : k ∈ l) :
    (s.each l State.copyUp).obj (k + 0x100) = s.obj k := by
  induction l generalizing s with
  | nil => exact absurd copied List.not_mem_nil
  | cons a l ih =>
    by_cases later : k ∈ l
    · have rest : ∀ a ∈ l, ∀ k ∈ l, a ≠ k + 0x100 := fun b hb c hc => apart b (List.mem_cons_of_mem _ hb) c (List.mem_cons_of_mem _ hc)
      exact (ih rest later).trans (obj_setObj_ne _ _ (apart k copied a List.mem_cons_self))
    · obtain rfl | tail := List.mem_cons.1 copied
      · have kept : ∀ c ∈ l, k + 0x100 ≠ c + 0x100 := fun c hc same => later (Nat.add_right_cancel same ▸ hc)
        exact (obj_copies_of_kept kept).trans (obj_setObj_self _ _ _)
      · exact absurd tail later

/-- The objects of an episode's record that PREV_EPISODE takes over (R552). -/
def episodeKeys : List Nat :=
  [Obj.epState, Obj.epNumber, Obj.epFirstLine, Obj.epFirstTs, Obj.epFirstSource, Obj.epFirstReaction, Obj.epLines, Obj.epMerged, Obj.epLastTs]

/-- The record is closed, copied and stamped, and the emergency of the end is queued. -/
theorem closeEpisode_eq (s : State) : s.closeEpisode =
    ((((s.setObj Obj.epState 0).each episodeKeys State.copyUp).setObj (Obj.epClosedTs + 0x100) s.ts).emcy 0 (zeros 5)) := by
  have time : ((s.setObj Obj.epState 0).each episodeKeys State.copyUp).ts = (s.setObj Obj.epState 0).ts :=
    each_keeps (f := State.copyUp) State.ts (fun _ _ => rfl) episodeKeys _
  rw [show s.ts = (s.setObj Obj.epState 0).ts from rfl, ← time]
  rfl

theorem obj_closeEpisode_of_copied {k : Nat} (copied : k ∈ episodeKeys) : s.closeEpisode.obj (k + 0x100) = (s.setObj Obj.epState 0).obj k := by
  have others : ∀ k ∈ episodeKeys, k + 0x100 ≠ Obj.ectEmcySent ∧ k + 0x100 ≠ Obj.ectEmcyLost ∧ k + 0x100 ≠ Obj.epClosedTs + 0x100 := by
    decide
  obtain ⟨sent, lost, closed⟩ := others k copied
  rw [closeEpisode_eq, obj_emcy _ _ sent lost, obj_setObj_ne _ _ closed]
  exact obj_copies_of_copied (by decide) copied

theorem obj_closeEpisode_of_record {k : Nat} (record : k ∈ episodeKeys) : s.closeEpisode.obj k = (s.setObj Obj.epState 0).obj k := by
  have others : ∀ k ∈ episodeKeys, k ≠ Obj.ectEmcySent ∧ k ≠ Obj.ectEmcyLost ∧ k ≠ Obj.epClosedTs + 0x100 ∧
      ∀ a ∈ episodeKeys, k ≠ a + 0x100 := by
    decide
  obtain ⟨sent, lost, closed, apart⟩ := others k record
  rw [closeEpisode_eq, obj_emcy _ _ sent lost, obj_setObj_ne _ _ closed]
  exact obj_copies_of_kept apart

theorem obj_closeEpisode_closedTs : s.closeEpisode.obj (Obj.epClosedTs + 0x100) = s.ts := by
  rw [closeEpisode_eq, obj_emcy _ _ (by decide) (by decide), obj_setObj_self]

/-! The write of FTW (R559). -/

/-- The bits of a word set one after the other. -/
theorem bitOf_setBits (l : List Nat) (w i : Nat) : bitOf (l.foldl (fun w n => withBit w n true) w) i = (decide (i ∈ l) || bitOf w i) := by
  induction l generalizing w with
  | nil => rw [List.foldl_nil, decide_eq_false List.not_mem_nil, Bool.false_or]
  | cons n l ih =>
    rw [List.foldl_cons, ih, bitOf_withBit]
    by_cases first : i = n <;> simp [first]

/-- Clearing every bit that a word has leaves 0. -/
theorem clearBits_of_covered {v m : Nat} (covered : ∀ i, bitOf v i = true → bitOf m i = true) : clearBits v m = 0 := by
  have all : v &&& m = v := Nat.eq_of_testBit_eq fun i => by
    rw [Nat.testBit_and]
    cases bit : v.testBit i with
    | false => rw [Bool.false_and]
    | true => rw [Bool.true_and]; exact covered i bit
  rw [clearBits, all, Nat.xor_self]

/-- The bits that a write of `v` clears cover FTW, when `v` names all of them. -/
theorem clearBits_of_named {v old : Nat} (named : v &&& old = old) (small : old < 2 ^ 64) :
    clearBits old (((List.range 64).filter fun n => bitOf v n && bitOf old n).foldl (fun w n => withBit w n true) 0) = 0 := by
  refine clearBits_of_covered fun i set => ?_
  have low : i < 64 := by
    by_contra high
    have none : old.testBit i = false := Nat.testBit_lt_two_pow (small.trans_le (Nat.pow_le_pow_right (by decide) (Nat.not_lt.1 high)))
    exact Bool.false_ne_true (none.symm.trans set)
  have asked : bitOf v i = true := by
    have both := set
    rw [bitOf, ← named, Nat.testBit_and, Bool.and_eq_true] at both
    exact both.1
  rw [bitOf_setBits, decide_eq_true (List.mem_filter.2 ⟨List.mem_range.2 low, by rw [asked, set, Bool.and_self]⟩), Bool.true_or]

theorem ftwCleared_of_last {v : Nat} (some : s.obj Obj.ftw ≠ 0) (named : v &&& s.obj Obj.ftw = s.obj Obj.ftw)
    (quiet : ∀ n < 52, s.bit Obj.live n = false) (small : s.obj Obj.ftw < 2 ^ 64) : s.ftwCleared v = (s.setObj Obj.ftw 0).closeEpisode := by
  have noneHeld : ((List.range 64).filter fun n => bitOf v n && bitOf (s.obj Obj.ftw) n).filter (fun n => decide (n < 52) && s.bit Obj.live n) = [] := by
    refine List.filter_eq_nil_iff.2 fun n _ held => ?_
    rw [Bool.and_eq_true, decide_eq_true_eq] at held
    exact Bool.false_ne_true ((quiet n held.1).symm.trans held.2)
  have kept (l : List Nat) : (l.filter fun n => !([] : List Nat).contains n) = l := List.filter_eq_self.2 fun _ _ => rfl
  simp only [State.ftwCleared, noneHeld, kept, clearBits_of_named named small, List.isEmpty_nil, if_true, obj_setObj_self, and_true, if_pos some]

end

/-- Settles O50 (log entry 119 for the record that the close copies). -/
theorem closingAnEpisodeCopiesIt : Obligations.ClosingAnEpisodeCopiesIt := by
  intro s
  refine ⟨fun k listed => ?_, ?_, ?_, obj_closeEpisode_closedTs, fun v some named quiet small => ftwCleared_of_last some named quiet small⟩
  · have record : k ∈ episodeKeys := List.mem_cons_of_mem _ listed
    have other : k ≠ Obj.epState := fun same => absurd (same ▸ listed) (by decide)
    rw [obj_closeEpisode_of_copied record, obj_closeEpisode_of_record record, obj_setObj_ne _ _ other]
    exact ⟨rfl, rfl⟩
  · rw [obj_closeEpisode_of_record List.mem_cons_self, obj_setObj_self]
  · rw [obj_closeEpisode_of_copied List.mem_cons_self, obj_setObj_self]

end Sys2Proof.Machine
end

section
/-! PROOFS. The entry into a deeper power state (R574 to R579, R595, R596): the replies of the participants, the abort points, the bound of a step and the
end of a storm's holdoff. -/

namespace Sys2Proof.Machine

section
variable {s t : State} {e : Entry} (entering : s.pwr.entry = some e)
include entering

/-! The handshake (R574, R575, R595). -/

section
variable (asking : e.point = none)
include asking

theorem handshakeReply_of_asking (ps : List Nat) :
    s.handshakeReply ps = s.replies e ((e.asked.filter fun p => ps.contains p).map fun p => (p, s.askReply p)) := by
  simp only [State.handshakeReply, entering, asking, Option.isSome_none, Bool.false_eq_true, if_false]

/-- Without a reply nothing changes but that a handshake with every ACCEPT is done. -/
theorem handshakeReply_of_none (delaying : e.delaying = []) (asked : e.asked = []) :
    s.handshakeReply [] = (s.modPwr fun p => { p with entry := some { e with asked := [], delaying := [] } }).handshakeDone := by
  rw [handshakeReply_of_asking entering asking, asked]
  simp only [State.replies, State.each, delaying, asked, List.filter_nil, List.map_nil, List.append_nil, List.foldl_nil, List.isEmpty_nil, if_true]

theorem reask_of_delaying (delaying : e.delaying ≠ []) (time : t = s.advanceTo (e.askedAt + 10 * usTicks)) :
    s.reask = t.modPwr fun p =>
      { p with entry := some { e with asked := (e.asked ++ e.delaying.map fun d => d.1).eraseDups, askedAt := t.now } } := by
  subst time
  have some : e.delaying.isEmpty = false := List.isEmpty_eq_false_iff.2 delaying
  simp only [State.reask, entering, asking, some, Option.isSome_none, Bool.or_self, Bool.false_eq_true, if_false]

theorem askTimeout_of_asked {q : Nat} (asked : q ∈ e.asked) :
    s.askTimeout q = (s.advanceTo (e.askedAt + 2 * usTicks)).replies e [(q, s.silentReply q)] := by
  have listed : e.asked.contains q = true := List.contains_iff_mem.2 asked
  simp only [State.askTimeout, entering, asking, listed, Option.isSome_none, Bool.not_true, Bool.or_self, Bool.false_eq_true, if_false]

theorem delayExpires_of_first {x : Nat × Nat × Nat} {l : List (Nat × Nat × Nat)}
    (first : e.delaying.mergeSort (fun a b => decide (a.1 ≤ b.1)) = x :: l)
    (time : t = (s.advanceTo (e.began + s.obj Obj.entryDelayMax * usTicks)).bump Obj.delayExpiries) :
    s.delayExpires = (t.partRefuses x.1 x.2.1).entryGone := by
  subst time
  simp only [State.delayExpires, entering, asking, first, Option.isSome_none, Bool.false_eq_true, if_false]

end

/-! The abort points (R577, R578, R580, R585). -/

/-- The step to an abort point before A5, when nothing keeps it from its end. -/
def State.stepTo (s : State) (e : Entry) : Nat → State
  | 0 => s.stepA1
  | 1 => s.stepA2
  | 2 => s.stepA3
  | 3 => s.stepA4 e.target
  | _ => s.stepA5 e.target

section
variable {k n : Nat} {u : State} (reached : e.point = some k) (before : k ≠ 5) (empty : k ≠ 1 ∨ s.ents = [])
  (step : s.stepTo e k = u) (next : k + 1 = n)
include reached before empty step next

/-- An abort point is entered with what its step does. -/
theorem abortPoint_eq {e' : Entry} (entry : e' = { e with point := some n })
    (entered : t = u.modPwr fun p => { p with entry := some e', lastPoint := n }) :
    s.abortPoint = if e.abandon then t.abandonAt e' n else t := by
  subst step next entry entered
  have flows : ¬(k = 1 ∧ (!s.ents.isEmpty) = true) := by
    rintro ⟨one, waits⟩
    rcases empty with other | drained
    · exact other one
    · simp [drained] at waits
  simp only [State.abortPoint, entering, reached, if_neg before, if_neg flows]
  rfl

theorem abortPoint_of_kept (kept : e.abandon = false) :
    s.abortPoint = u.modPwr fun p => { p with entry := some { e with point := some n }, lastPoint := n } := by
  rw [abortPoint_eq entering reached before empty step next rfl rfl, kept]
  exact if_neg Bool.false_ne_true

end

theorem abortPoint_of_last (reached : e.point = some 5) : s.abortPoint = s.noReturn e := by
  simp only [State.abortPoint, entering, reached, if_true]

/-- A step past its bound abandons the entry at the abort point that it leads to, A5 at most (R595). -/
theorem stepOverrun_of_point {k : Nat} (reached : e.point = some k) :
    s.stepOverrun = (s.bump Obj.stepOverruns).abandonAt e (min 5 (k + 1)) := by
  simp only [State.stepOverrun, entering, reached]

end

/-- Settles O40 (log entry 106 for the handshake, 107 for the bound of a step, 108 for the undo of an entry, 6 for the time of an event). -/
theorem entryEventsComplete : Obligations.EntryEventsComplete := by
  rintro s a rfl awake
  refine ⟨?reply, ?done, ?reask, ?silent, ?expiry, ?a1, ?a2, ?a3, ?a4, ?a5, ?noReturn, ?abandoned, ?overrun, ?holdoff⟩
  case reply =>
    intro ps e entering asking
    exact runAwake_next (f := fun y => y.handshakeReply ps) awake (handshakeReply_of_asking entering asking ps)
  case done =>
    intro e entering asking delaying asked
    exact runAwake_next (f := fun y => y.handshakeReply []) awake
      (handshakeReply_of_none entering asking (List.isEmpty_iff.1 delaying) (List.isEmpty_iff.1 asked))
  case reask =>
    intro e t entering asking delaying time
    exact runAwake_next (f := fun y => y.reask) awake (reask_of_delaying entering asking delaying time)
  case silent =>
    intro q e entering asking asked
    exact runAwake_next (f := fun y => y.askTimeout q) awake (askTimeout_of_asked entering asking asked)
  case expiry =>
    intro e x l t entering asking first time
    exact runAwake_next (f := fun y => y.delayExpires) awake (delayExpires_of_first entering asking first time)
  case a1 =>
    intro e entering reached kept
    exact runAwake_next (f := fun y => y.abortPoint) awake (abortPoint_of_kept entering reached (by decide) (.inl (by decide)) rfl rfl kept)
  case a2 =>
    intro e entering reached kept drained
    exact runAwake_next (f := fun y => y.abortPoint) awake (abortPoint_of_kept entering reached (by decide) (.inr drained) rfl rfl kept)
  case a3 =>
    intro e entering reached kept
    exact runAwake_next (f := fun y => y.abortPoint) awake (abortPoint_of_kept entering reached (by decide) (.inl (by decide)) rfl rfl kept)
  case a4 =>
    intro e entering reached kept
    exact runAwake_next (f := fun y => y.abortPoint) awake (abortPoint_of_kept entering reached (by decide) (.inl (by decide)) rfl rfl kept)
  case a5 =>
    intro e entering reached kept
    exact runAwake_next (f := fun y => y.abortPoint) awake (abortPoint_of_kept entering reached (by decide) (.inl (by decide)) rfl rfl kept)
  case noReturn =>
    intro e entering reached
    exact runAwake_next (f := fun y => y.abortPoint) awake (abortPoint_of_last entering reached)
  case abandoned =>
    intro e t e' entering reached abandoned next entered
    exact runAwake_next (f := fun y => y.abortPoint) awake
      ((abortPoint_eq entering reached (by decide) (.inl (by decide)) rfl rfl next entered).trans (if_pos abandoned))
  case overrun =>
    intro e k entering reached
    exact runAwake_next (f := fun y => y.stepOverrun) awake (stepOverrun_of_point entering reached)
  case holdoff =>
    intro held
    exact runAwake_next (f := fun y => y.stormEnds) awake (if_neg held)

/-- A participant that stays silent delays with its first delay code, or refuses with its first code where it has none (R595). -/
theorem silentReply_eq {s : State} {q : Nat} {x : Nat × Nat × Bool × Bool} {l : List (Nat × Nat × Bool × Bool)} (conds : s.partConds q = x :: l) :
    s.silentReply q = ((x :: l).find? fun z => z.2.1 == 2).elim (1, x.1) (fun z => (2, z.1)) := by
  cases first : (x :: l).find? fun z => z.2.1 == 2 with
  | none => simp only [State.silentReply, conds, first, List.headD_cons, Option.elim_none]
  | some z => simp only [State.silentReply, conds, first, Option.elim_some]

/-- Settles O52 (log entry 107 for the point at which a slow step abandons the entry, 6 for the time of an event). -/
theorem silentParticipantsAndSlowSteps : Obligations.SilentParticipantsAndSlowSteps := by
  rintro s a e rfl awake entering
  refine ⟨?silent, ?overrun⟩
  case silent =>
    rintro q x y l asking asked conds rfl
    rw [← silentReply_eq conds]
    exact runAwake_next (f := fun y => y.askTimeout q) awake (askTimeout_of_asked entering asking asked)
  case overrun =>
    intro k reached early
    have point : min 5 (k + 1) = k + 1 := Nat.min_eq_right early
    have slow := stepOverrun_of_point entering reached
    rw [point] at slow
    exact runAwake_next (f := fun y => y.stepOverrun) awake slow

end Sys2Proof.Machine
end

section
/-! PROOFS. Wakes and the DORMOUSE sampler (R572, R582, R583, R587 to R591). -/

namespace Sys2Proof.Machine

section
variable {s t : State}

/-! Wakes (R572, R583, R587, R588). -/

theorem dozeWakes_of_waking (mode : s.pwr.mode = 1) (waking : s.pwr.waking = true) :
    s.dozeWakes = ((s.modPwr fun p => { p with mode := 0, waking := false }).bump Obj.wakes).powerDownExit :=
  if_pos ⟨mode, waking⟩

theorem owlMatch_of_known {address : Nat} (rw : Nat) (armed : s.pwr.owlArmed = true) (asleep : 3 ≤ s.pwr.mode) (free : s.pwr.owlAt = none)
    (known : address = s.pwr.record.address) :
    s.owlMatch address rw = (s.modPwr fun p => { p with owlAt := some s.now }).wakeEvent (some (2, rw)) := by
  subst known
  simp only [State.owlMatch, armed, decide_eq_true asleep, free, Option.isNone_none, beq_self_eq_true, Bool.and_self, if_true]

theorem owlMatch_of_other {address : Nat} (rw : Nat) (other : address ≠ s.pwr.record.address) : s.owlMatch address rw = s := by
  simp only [State.owlMatch, beq_eq_false_iff_ne.2 other, Bool.and_false, Bool.false_eq_true, if_false]

theorem owlRelease_of_matched {x : Nat} (matched : s.pwr.owlAt = some x) :
    s.owlRelease = (s.advanceTo (x + 30 * msTicks)).modPwr fun p => { p with owlAt := none } := by
  simp only [State.owlRelease, matched]

section
variable (waking : s.pwr.waking = true)
include waking

/-- During a sample VCORE is up, and the wake ends without waiting for it. -/
theorem wakeCompletes_of_sampling (mode : s.pwr.mode = 2) (sampling : s.pwr.sampling = true) :
    s.wakeCompletes = (s.setOp s.pwr.sleptOp).linksOn.wakeEnds := by
  simp [State.wakeCompletes, waking, mode, sampling]

section
variable (input : s.vinOn = true) (phase : s.obj Obj.phasesInService ≠ 0)
include input phase

theorem wakeCompletes_of_dormouse (mode : s.pwr.mode = 2) (idle : s.pwr.sampling = false) :
    s.wakeCompletes = (((s.vcoreOn s.pwr.sleptOp).setOp s.pwr.sleptOp).linksOn).wakeEnds := by
  simp [State.wakeCompletes, waking, mode, idle, input, phase]

theorem wakeCompletes_of_retain (mode : s.pwr.mode = 3) :
    s.wakeCompletes = ((((s.vcoreOn s.pwr.sleptOp).setOp s.pwr.sleptOp).monitorStart).linksOn).wakeEnds := by
  simp [State.wakeCompletes, waking, mode, input, phase]

end

end

/-! The DORMOUSE sampler (R589 to R591). -/

section
variable (mode : s.pwr.mode = 2) (waking : s.pwr.waking = false)
include mode waking

theorem dmSample_of_idle (temp : Int) (vin vhold : Nat) (sensors : List (Option (Nat × Nat))) (us : Nat) (idle : s.pwr.sampling = false)
    (risen : t = (s.advanceTo s.pwr.sampleAt).vcoreOn s.pwr.sleptOp) :
    s.dmSample temp vin vhold sensors us = t.modPwr fun p => { p with sampling := true, sampleAt := t.now + t.obj Obj.dmPeriod * msTicks } := by
  subst risen
  have asleep : ¬(s.pwr.mode ≠ 2 ∨ s.pwr.waking = true) := by simp [mode, waking]
  simp only [State.dmSample, if_neg asleep, idle, Bool.not_false, if_true]
  rfl

section
variable {temp : Int} {vin vhold us : Nat} {sensors : List (Option (Nat × Nat))} (sampling : s.pwr.sampling = true)
  (time : t = s.advanceTo (s.now + min us (321 + 125 * popCount 8 (s.obj Obj.dmEnableMask / 256)) * usTicks))
include sampling time

/-- What a running sample does when its measurements come in: the items are read, and a sample that fell due meanwhile starts. -/
theorem dmSample_of_sampling {u : State} (read : t.dmRead (t.dmItems temp (min 0xFFFF vin) (min 0xFFFF vhold) sensors) = u)
    (onTime : u.pwr.sampling = true ∨ u.now ≤ u.pwr.sampleAt) : s.dmSample temp vin vhold sensors us = u := by
  subst time
  have asleep : ¬(s.pwr.mode ≠ 2 ∨ s.pwr.waking = true) := by simp [mode, waking]
  have noOverrun : (!u.pwr.sampling && decide (u.pwr.sampleAt < u.now)) = false := by
    rcases onTime with sampling | early
    · rw [sampling]; rfl
    · rw [decide_eq_false (Nat.not_lt.2 early), Bool.and_false]
  simp only [State.dmSample, if_neg asleep, sampling, Bool.not_true, Bool.false_eq_true, if_false, read, noOverrun]

theorem dmSample_of_clear (clear : t.dmItems temp (min 0xFFFF vin) (min 0xFFFF vhold) sensors = []) (early : t.now ≤ t.pwr.sampleAt) :
    s.dmSample temp vin vhold sensors us = ((t.bump Obj.dmSamples).vcoreOff).modPwr fun p => { p with sampling := false } := by
  refine dmSample_of_sampling mode waking sampling time ?_ (.inr early)
  rw [clear, State.dmRead]

theorem dmSample_of_high {item off r : Nat} {v lo hi : Int} {l : List (Nat × Nat × Option Nat × Int × Int × Int)}
    (first : t.dmItems temp (min 0xFFFF vin) (min 0xFFFF vhold) sensors = (item, off, some r, v, lo, hi) :: l) (high : hi < v)
    (on : ((t.dmNote off r).violation item r true false).pwr.sampling = true) :
    s.dmSample temp vin vhold sensors us = (t.dmNote off r).violation item r true false := by
  refine dmSample_of_sampling mode waking sampling time ?_ (.inl on)
  rw [first, State.dmRead]
  simp only [high, or_true, if_true, decide_true]

end

end

end

/-- Settles O41 (log entry 105 for DOZE, 110 and 149 for the sampler, 129 for the bounds of the operands, 6 for the time of an event). -/
theorem wakeEventsComplete : Obligations.WakeEventsComplete := by
  rintro s a rfl
  refine ⟨?doze, ?low, ?high, ?known, ?other, ?release, ?sampled, ?dormouse, ?retain, ?starts, ?clear, ?violation⟩
  case doze =>
    rintro t awake rfl mode waking
    exact runAwake_next (f := fun y => y.requestWakes.dozeWakes) awake (dozeWakes_of_waking mode waking)
  case low => exact run_next (f := fun y => y.wakePin true) rfl
  case high => exact run_next (f := fun y => y.wakePin false) rfl
  case known =>
    intro address rw armed asleep free known
    exact run_next (f := fun y => y.owlMatch address.toNat (b2n rw)) (owlMatch_of_known _ armed asleep free known)
  case other =>
    intro address rw other
    exact run_next (f := fun y => y.owlMatch address.toNat (b2n rw)) (owlMatch_of_other _ other)
  case release =>
    intro x matched
    exact run_next (f := fun y => y.owlRelease) (owlRelease_of_matched matched)
  case sampled =>
    intro waking mode sampling
    exact run_next (f := fun y => y.wakeCompletes) (wakeCompletes_of_sampling waking mode sampling)
  case dormouse =>
    intro waking mode idle input phase
    exact run_next (f := fun y => y.wakeCompletes) (wakeCompletes_of_dormouse waking input phase mode idle)
  case retain =>
    intro waking mode input phase
    exact run_next (f := fun y => y.wakeCompletes) (wakeCompletes_of_retain waking input phase mode)
  case starts =>
    intro temp vin vhold sensors us t mode waking idle risen
    exact run_next (f := fun y => y.dmSample temp vin vhold sensors us) (dmSample_of_idle mode waking temp vin vhold sensors us idle risen)
  case clear =>
    intro temp vin vhold sensors us t mode waking sampling time clear early
    exact run_next (f := fun y => y.dmSample temp vin vhold sensors us) (dmSample_of_clear mode waking sampling time clear early)
  case violation =>
    intro temp vin vhold sensors us t item off r v lo hi l mode waking sampling time first high _ on
    exact run_next (f := fun y => y.dmSample temp vin vhold sensors us) (dmSample_of_high mode waking sampling time first high on)

end Sys2Proof.Machine
end

section
/-! PROOFS. The regulators (R604 to R609, R622): the load line, open phases, the cross-check, foldback and the self-tests. -/

namespace Sys2Proof.Machine

section
variable {s t : State}

/-! Open phases and the cross-check (R605, R606). -/

section
variable {u : Nat} (known : s.supplyExists u = true) (runs : s.supplyRuns u = true)
include known runs

theorem phaseOpen_of_running {p : Nat} (phase : p ∈ phasesOf u) : s.phaseOpen u p = s.shutPhase u p false := by
  simp only [State.phaseOpen, known, runs, List.contains_iff_mem.2 phase, Bool.and_self, if_true]

theorem senseCheck_of_good {readings : List Nat} {expected : Nat} {l : List (Nat × Nat)}
    (time : t = s.advanceTo ((s.now / (10 * usTicks) + 1) * (10 * usTicks)))
    (read : l = ((phasesOf u).zipIdx.map fun x => (x.1, readings.getD x.2 0)).filter (fun x => (t.phasesIn u).contains x.1))
    (good : senseBad u (l.map (·.2)).sum expected = false) :
    s.senseCheck u readings expected = ((t.showCurrents u l).setChecks u 0).setBit Obj.vcoreStatus 5
      ((List.range 5).any fun w => ((t.showCurrents u l).setChecks u 0).checksOf w == 5) := by
  subst time read
  simp only [State.senseCheck, known, runs, Bool.and_self, Bool.not_true, Bool.false_eq_true, if_false, good, Bool.not_false, if_true]

end

/-! Foldback (R608, R622). -/

/-- The number of the DUT supply k of channel n gives back n and k. -/
theorem supply_number (n k : Fin 2) : chanOfSupply (1 + 2 * n + k) = n ∧ kOfSupply (1 + 2 * n + k) = k := by
  simp only [chanOfSupply, kOfSupply]
  omega

theorem foldbackEntry_of_vcore (on : s.regs.on = true) (normal : s.regs.fold = false)
    (folds : t = { s with regs := { s.regs with fold := true, forcedEnd := none } }) :
    s.foldbackEntry 0 =
      (((t.bump Obj.foldbacks).setBit Obj.regFaultCause 2 true).beginCause 39 0 (sourceWord 0xFF 2)).forcedMove true := by
  subst folds
  simp only [State.foldbackEntry, State.supplyExists, State.supplyRuns, on, normal, beq_self_eq_true, Bool.true_or, if_true, Bool.and_self,
    Bool.not_true, Bool.false_eq_true, if_false]

theorem foldbackEntry_of_dut {n k : Fin 2} {u : Nat} (number : u = 1 + 2 * n + k) (part : s.part = .ft4216) (on : s.supplyOn n = true)
    (normal : ((s.pb n).supply k).fold = false)
    (folds : t = (s.bump Obj.foldbacks).modSupply n k fun x => { x with fold := true }) :
    s.foldbackEntry u = (((t.setBit Obj.regFaultCause 2 true).beginCause 39 (foldCause n k)
      (sourceWord (16 * n + k) 12)).supplyFaultAt n 12).curl n 3 true := by
  subst number folds
  obtain ⟨channel, supply⟩ := supply_number n k
  have dut : ¬(1 + 2 * n.val + k.val = 0) := by omega
  have known : s.supplyExists (1 + 2 * n + k) = true := by
    simp only [State.supplyExists, part, beq_self_eq_true, Bool.true_and, decide_eq_true (show 1 + 2 * n.val + k.val < 5 by omega), Bool.or_true]
  simp only [State.foldbackEntry, known, State.supplyRuns, if_neg dut, channel, supply, on, normal, Bool.and_self, Bool.not_true, Bool.false_eq_true,
    if_false]

theorem foldbackExit_of_vcore (folded : s.regs.fold = true) :
    s.foldbackExit 0 = ({ s with regs := { s.regs with fold := false } }).endCause 39 0 := by
  simp only [State.foldbackExit, folded, if_true]

theorem foldbackExit_of_dut {n k : Fin 2} {u : Nat} (number : u = 1 + 2 * n + k) (folded : ((s.pb n).supply k).fold = true)
    (ends : t = (s.modSupply n k fun x => { x with fold := false }).endCause 39 (foldCause n k)) :
    s.foldbackExit u = if (List.range 2).any fun j => ((t.pb n).supply j).fold then t else t.endCause (supplyLine n) 12 := by
  subst number ends
  obtain ⟨channel, supply⟩ := supply_number n k
  have dut : ¬(1 + 2 * n.val + k.val = 0) := by omega
  simp only [State.foldbackExit, if_neg dut, channel, supply, folded, if_true]

theorem foldbackShutdown_of_due (awake : s.awake = true) (due : s.mustShutDown = true)
    (time : t = s.advanceTo (if s.obj Obj.phasesInService = 0 then s.now else s.regs.forcedEnd.getD s.now + 100 * usTicks)) :
    s.foldbackShutdown = (t.setBit Obj.regFaultCause 4 true).shutDown := by
  subst time
  simp only [State.foldbackShutdown, awake, due, Bool.and_self, if_true]

/-! The self-tests (R609). -/

section
variable {us f : Nat} {pass : Fin 64} {u : State}

theorem restoreDone_of_vcore (began : f = mapGet (fun _ => 0) s.regs.restoreFrom 0) (running : f ≠ 0)
    (time : t = s.advanceTo (f - 1 + min us 1000 * usTicks))
    (back : u = t.setObj Obj.phasesInService (t.obj Obj.phasesInService ||| pass.val)) :
    s.restoreDone 0 pass us = ((({ u with regs := { u.regs with
      restoreFrom := mapErase u.regs.restoreFrom 0, senseOff := clearBits u.regs.senseOff pass.val } } : State).phaseLines 0 0).cmdDone
        Obj.phaseRestore) := by
  subst back time began
  simp only [State.restoreDone, if_neg running, if_true, Nat.mod_eq_of_lt pass.isLt]

theorem restoreDone_of_dut {n : Fin 2} {i : Nat} (number : i = n.val + 1) (began : f = mapGet (fun _ => 0) s.regs.restoreFrom i) (running : f ≠ 0)
    (time : t = s.advanceTo (f - 1 + min us 1000 * usTicks))
    (back : u = t.setObj (Obj.dutPhasesInService n) (t.obj (Obj.dutPhasesInService n) ||| pass.val)) :
    s.restoreDone i pass us = ((({ u with regs := { u.regs with
      restoreFrom := mapErase u.regs.restoreFrom i, dutSense := clearBits u.regs.dutSense (pass.val <<< (8 * n.val)) } } : State).phaseLines
        0 0).cmdDone (Obj.dutPhaseRestore n)) := by
  subst number back time began
  simp only [State.restoreDone, if_neg running, if_neg n.val.succ_ne_zero, Nat.add_sub_cancel, Nat.mod_eq_of_lt pass.isLt]

end

end

/-- Settles O42 (log entries 97 and 147 for VCORE_STATUS bit 5, 100 for the time in foldback, 129 for the bounds of the operands, 6 for the time of an
event). -/
theorem regulatorEventsComplete : Obligations.RegulatorEventsComplete := by
  rintro s a rfl
  refine ⟨?loadline, ?alarm, ?openPhase, ?senseCheck, ?vcoreFolds, ?dutFolds, ?vcoreUnfolds, ?dutUnfolds, ?shutdown, ?vcoreRestores, ?dutRestores⟩
  case loadline =>
    rintro high low t awake rfl
    exact runAwake_next (f := fun y => y.loadlineStep high low) awake rfl
  case alarm =>
    intro awake
    exact runAwake_next (f := fun y => y.marginAlarm) awake rfl
  case openPhase =>
    intro u phase known runs listed
    exact run_next (f := fun y => y.phaseOpen u phase) (phaseOpen_of_running known runs listed)
  case senseCheck =>
    rintro u readings expected t l known runs time read good v rfl
    exact run_next (f := fun y => y.senseCheck u readings expected) (senseCheck_of_good known runs time read good)
  case vcoreFolds =>
    intro t on normal folds
    exact run_next (f := fun y => y.foldbackEntry 0) (foldbackEntry_of_vcore on normal folds)
  case dutFolds =>
    intro n k u t number part on normal folds
    exact run_next (f := fun y => y.foldbackEntry u) (foldbackEntry_of_dut number part on normal folds)
  case vcoreUnfolds =>
    intro folded
    exact run_next (f := fun y => y.foldbackExit 0) (foldbackExit_of_vcore folded)
  case dutUnfolds =>
    intro n k u t number folded ends
    exact run_next (f := fun y => y.foldbackExit u) (foldbackExit_of_dut number folded ends)
  case shutdown =>
    intro t awake due time
    exact run_next (f := fun y => y.foldbackShutdown) (foldbackShutdown_of_due awake due time)
  case vcoreRestores =>
    intro pass us f t u began running time back
    exact run_next (f := fun y => y.restoreDone 0 pass us) (restoreDone_of_vcore began running time back)
  case dutRestores =>
    intro n i pass us f t u number began running time back
    exact run_next (f := fun y => y.restoreDone i pass us) (restoreDone_of_dut number began running time back)

end Sys2Proof.Machine
end

section
/-! PROOFS. VIN and the hold-up bank (R614 to R619, R641 to R645): the loss of VIN and its return, the charge, the estimates and the bank test. -/

namespace Sys2Proof.Machine

section
variable {s t : State}

/-! The loss of VIN and its return (R641, R643, R644). -/

section
variable (started : s.rst.wait = 0)
include started

section
variable (present : s.vinOn = true)
include present

theorem vinLoss_of_run (mode : s.pwr.mode = 0) : s.vinLoss = s.vinLostRunning := by
  simp [State.vinLoss, present, started, mode]

/-- In RETAIN and WATCH the bank feeds nothing more than before. -/
theorem vinLoss_of_asleep (mode : s.pwr.mode = 3 ∨ s.pwr.mode = 4) :
    s.vinLoss = (s.setBit Obj.vinStatus 0 false).setBit Obj.vinStatus 1 true := by
  rcases mode with retain | watch
  · simp [State.vinLoss, present, started, retain]
  · simp [State.vinLoss, present, started, watch]

end

section
variable (absent : s.vinOn = false)
include absent

theorem vinReturn_of_parked (powered : s.pwr.mode ≠ 5) (awake : s.pwr.mode ≠ 4) (parked : s.vinBack.rst.vinParked = true) :
    s.vinReturn = s.vinBack.vinResumes := by
  simp only [State.vinReturn, absent, beq_eq_false_iff_ne.2 powered, Bool.or_self, Bool.false_eq_true, if_false, started, bne_self_eq_false,
    if_neg awake, parked, if_true]

theorem vinReturn_of_watch (mode : s.pwr.mode = 4) (back : t = (s.setBit Obj.vinStatus 0 true).setBit Obj.vinStatus 1 false) :
    s.vinReturn = if t.rst.vinParked then t.wakeEvent (some (0, 0)) else t := by
  subst back
  have powered : ((4 : Nat) == 5) = false := rfl
  simp only [State.vinReturn, absent, mode, powered, Bool.or_self, Bool.false_eq_true, if_false, started, bne_self_eq_false, if_true]

end

end

theorem vinSleeps_of_due (parked : s.rst.vinParked = true) (awake : s.awake = true) (due : s.vinSleepDue = true) :
    s.vinSleeps = (s.nvsAbandon.bump Obj.vinSleeps).sleepWatch := by
  simp only [State.vinSleeps, parked, awake, due, Bool.and_self, if_true]

/-! The charge and the estimates (R615 to R617). -/

theorem fullCharge_of_charging {u : State} (present : s.vinOn = true) (idle : s.regs.testFrom = none) (charging : s.bit Obj.holdupStatus 1 = true)
    (charge : t = (s.setObj Obj.holdupQ (chargeAt s.cEff (s.obj Obj.holdupV))).bump Obj.holdupRecals)
    (shown : u = (((((({ t with regs := { t.regs with chargeFrom := none } } : State).setBit Obj.holdupStatus 0 true).setBit Obj.holdupStatus 1
      false).setBit Obj.holdupStatus 3 false).setBit Obj.holdupStatus 6 false).setBit Obj.holdupStatus 7 false).estimate) :
    s.fullCharge = if u.regs.firstTest || u.periodDue then u.testStart else u := by
  subst shown charge
  simp only [State.fullCharge, present, idle, charging, Option.isSome_none, Bool.not_true, Bool.or_self, Bool.false_eq_true, if_false]

theorem chargeFail_of_charging {x : Nat} (began : s.regs.chargeFrom = some x) (present : s.vinOn = true) (charging : s.bit Obj.holdupStatus 1 = true) :
    s.chargeFail = (((s.advanceTo (x + 2000 * msTicks)).setBit Obj.holdupStatus 6 true).setBit Obj.regFaultCause 5 true).line40 := by
  simp only [State.chargeFail, began, present, charging, Bool.and_self, if_true]

/-- With a bank that is charged and VIN present an estimate changes the measurements, the charge and what follows from them, and nothing else. -/
theorem holdupEstimate_of_charged {vin v : Nat} {flow : Int} {u : State} (mode : s.pwr.mode < 3)
    (time : t = s.advanceTo ((s.now / (10 * usTicks) + 1) * (10 * usTicks)))
    (measured : u = (t.setObj Obj.vinMeas (min 0xFFFF vin)).setObj Obj.holdupV (min 0xFFFF v)) (warm : u.bit Obj.holdupStatus 7 = false)
    (charged : 13800 ≤ v)
    (present : (u.setObj Obj.holdupQ (clampQ u.cEff ((u.obj Obj.holdupQ : Int) + flow))).estimate.vinOn = true) :
    s.holdupEstimate vin v flow = (u.setObj Obj.holdupQ (clampQ u.cEff ((u.obj Obj.holdupQ : Int) + flow))).estimate := by
  have cEff : t.cEff = u.cEff := by
    rw [measured, State.cEff, State.cEff, obj_setObj_ne _ _ (by decide), obj_setObj_ne _ _ (by decide)]
  have charge : t.obj Obj.holdupQ = u.obj Obj.holdupQ := by
    rw [measured, obj_setObj_ne _ _ (by decide), obj_setObj_ne _ _ (by decide)]
  have cold : (u.setObj Obj.holdupQ (clampQ u.cEff ((u.obj Obj.holdupQ : Int) + flow))).bit Obj.holdupStatus 7 = false := by
    rw [State.bit, obj_setObj_ne _ _ (by decide)]
    exact warm
  have high : decide (v < 13800) = false := decide_eq_false (Nat.not_lt.2 charged)
  simp only [State.holdupEstimate, if_neg (Nat.not_le.2 mode), ← time, ← measured, cEff, charge, State.when, cold, high, Bool.false_and,
    Bool.and_false, Bool.false_eq_true, if_false, present, Bool.not_true]

/-! The bank test (R619). -/

theorem periodTest_of_due {x : Nat} (due : s.regs.testDue = some x) (time : t = s.advanceTo x) (taken : t.testRefused = none) :
    s.periodTest = t.testStart := by
  subst time
  simp only [State.periodTest, due, taken, Option.isNone_none, if_true]

/-- A test that passes and that nobody waits for leaves the measured capacitance and charges the bank again. -/
theorem testDone_of_good {fall x c : Nat} {u : State} (running : s.regs.testFrom = some x) (time : t = s.advanceTo (x + 20 * msTicks))
    (falls : 0 < fall) (capacitance : c = 2000000 / fall) (fits : c ≤ 0xFFFF)
    (shown : u = (((t.drew 0).setObj Obj.holdupCMeas c).setObj Obj.holdupCEff (min 3300 c)).setBit Obj.holdupStatus 5 false)
    (once : u.obj Obj.holdupTestPeriod = 0) (good : 2640 ≤ c) (silent : u.cmdRunning Obj.holdupTest = false) :
    s.testDone fall =
      (((({ u with regs := { u.regs with testFrom := none, testDue := none } } : State).setBit Obj.holdupStatus 2 false).chargeStart).line40) := by
  subst capacitance
  have ok : (decide (0 < fall) && decide (2000000 / fall ≤ 0xFFFF)) = true := by
    rw [decide_eq_true falls, decide_eq_true fits, Bool.and_self]
  have quiet : (({ u with regs := { u.regs with testFrom := none, testDue := none } } : State).setBit Obj.holdupStatus 2 false).cmdRunning Obj.holdupTest
      = false := by
    rw [State.cmdRunning, State.setBit, obj_setObj_ne _ _ (by decide)]
    exact silent
  have drawn : (t.drew (b2n (!true))) = t.drew 0 := rfl
  simp only [State.testDone, running, ← time, ok, if_true, drawn, ← shown, if_pos once, decide_eq_true good, quiet, Bool.false_eq_true, if_false]

end

/-- Settles O43 (log entry 115 for the loss of VIN, 102 for the period of the bank test, 129 for the bounds of the operands, 6 for the time of an
event). -/
theorem supplyInputEventsComplete : Obligations.SupplyInputEventsComplete := by
  rintro s a rfl
  refine ⟨?lost, ?lostAsleep, ?returns, ?returnsInWatch, ?sleeps, ?full, ?fails, ?estimate, ?test, ?period, ?done⟩
  case lost =>
    intro present mode started
    exact run_next (f := fun y => y.vinLoss) (vinLoss_of_run started present mode)
  case lostAsleep =>
    intro present mode started
    exact run_next (f := fun y => y.vinLoss) (vinLoss_of_asleep started present mode)
  case returns =>
    intro absent powered awake started parked
    exact run_next (f := fun y => y.vinReturn) (vinReturn_of_parked started absent powered awake parked)
  case returnsInWatch =>
    intro t absent mode started back
    exact run_next (f := fun y => y.vinReturn) (vinReturn_of_watch started absent mode back)
  case sleeps =>
    intro parked awake due
    exact run_next (f := fun y => y.vinSleeps) (vinSleeps_of_due parked awake due)
  case full =>
    intro t u present idle charging charge shown
    exact run_next (f := fun y => y.fullCharge) (fullCharge_of_charging present idle charging charge shown)
  case fails =>
    intro x began present charging
    exact run_next (f := fun y => y.chargeFail) (chargeFail_of_charging began present charging)
  case estimate =>
    intro vin v flow t u mode time measured warm charged _ present
    exact run_next (f := fun y => y.holdupEstimate vin v flow) (holdupEstimate_of_charged mode time measured warm charged present)
  case test =>
    rintro p r x w row rfl takes
    exact run_next (f := fun y => y.write p Obj.holdupTest 1) (write_accepting row takes fun _ _ => rfl)
  case period =>
    intro x t due time taken
    exact run_next (f := fun y => y.periodTest) (periodTest_of_due due time taken)
  case done =>
    intro fall x t c u running time falls capacitance fits shown once good silent
    exact run_next (f := fun y => y.testDone fall) (testDone_of_good running time falls capacitance fits shown once good silent)

end Sys2Proof.Machine
end
